-- ==== Sys2Proof/Word.lean ====
section
/-!
DEFINITION. The plainest words of the model: a byte, the number of a slot and the number of a bank.
-/

namespace Sys2Proof

/-- One byte of a host packet, of a page or of a page image. -/
abbrev Byte := BitVec 8

/-- The number of one of the 32 slots (R2). -/
abbrev SlotId := Fin 32

/-- The number of one of the eight bank records (R45). -/
abbrev BankId := Fin 8

end Sys2Proof
end

