-- ==== Sys2Proof/Syntax.lean ====
section
/-!
DEFINITION. The commands the bridge takes: one constructor of `Instr` for each row of
`spec/opcode_table.json`, with the operands the row's packet, completion or event carries.
-/

namespace Sys2Proof

/-- The attribute of a region entry (R116). -/
inductive RegionAttr where
  | guarded
  | fixed
deriving DecidableEq, Repr

/-- The outcome a SHUTDOWN record carries (R99). -/
inductive ShutdownOutcome where
  | complete
  | truncated
  | restart
deriving DecidableEq, Repr

/-- The records of the metadata log, one for each kind of the table of R99. The spec gives a record's
fields and its 16 bytes of room but no byte layout, so a record is its fields; `marked` says that a
HALF_HEADER carries the format mark, whose value the spec does not give. -/
inductive Record where
  | blank
  | halfHeader (generation : Nat) (marked : Bool)
  | snapshotEnd (count : Nat)
  | map (page spare : Nat)
  | retire (bank spare : Nat)
  | lost (page : Nat)
  | unlost (page : Nat)
  | regionSet (first last : Nat) (attr : RegionAttr)
  | regionClear (first last : Nat)
  | openSession (session : BitVec 32)
  | shutdown (session : BitVec 32) (outcome : ShutdownOutcome) (fence stranded : Nat)
  /-- A record of unknown kind (R114). -/
  | unknownKind
deriving DecidableEq, Repr, Inhabited

/-- What a page carries over the Array Link: the 256 bytes themselves, or, for a metadata page, its
16 records (the spec gives no byte layout of a record; R98, R99). -/
inductive PageData where
  | bytes (data : List Byte)
  | log (records : List Record)
deriving DecidableEq, Repr

/-- The outcome of a READ_DONE (R175); what the array answers is an operand, log entry 33. -/
inductive ReadOutcome where
  | ok (data : PageData)
  | readFail
deriving DecidableEq, Repr

/-- The outcome of a PROGRAM_DONE (R175). -/
inductive ProgramOutcome where
  | ok
  | programFail
deriving DecidableEq, Repr

/-- The answer of a SUSPEND_ACK (R175). -/
inductive SuspendAnswer where
  | suspended
  | notActive
deriving DecidableEq, Repr

/-- The two holders of a request that found the pending-append list full (R102). -/
inductive Requester where
  | remapUnit
  | regionUnit
deriving DecidableEq, Repr

/-- The commands, one for each row of `spec/opcode_table.json`. A command that takes a request or a
directive has no operand of its own: the request stands in its lane. -/
inductive Instr where
  /-- A packet arrives on the Host Link, as its bytes (R131, R142). -/
  | hostRequestArrival (packet : List Byte)
  | readTake
  | writeTake
  | stalledWriteAbsorb
  /-- The close timer of a slot reaches CLOSE_AGE (R15). -/
  | closeTimerExpiry (slot : SlotId)
  | readDone (bank tag : Nat) (outcome : ReadOutcome)
  | readTimerExpiry (bank : BankId)
  | programDone (bank tag : Nat) (outcome : ProgramOutcome)
  | programTimerExpiry (bank : BankId)
  | suspendAck (bank tag : Nat) (answer : SuspendAnswer)
  | resetDone (bank : Nat)
  | resetTimerExpiry (bank : BankId)
  /-- A held request joins the pending-append list; the operand says whose (R102). -/
  | metadataRequestJoin (requester : Requester)
  /-- The four figures of an IDENTIFY_DONE: bank count, pages-per-bank exponent, spares per bank and
  format version (R175, R178). -/
  | identifyDone (bankCount exponent spares version : Nat)
  | identifyTimerExpiry
  | resetNAssert
  | resetNRelease
  | powerWarnAssert
  | powerWarnDeassert
  | flush
  | rangeFirst
  | rangeLast
  | rangeApply
  | rangeScrub
  | regionList
  | release
  | remapQuery
  | restart
  | reformat
  | statusFetch
  | incidentTake
  | profile
  | unknownDirective
  | scrubVisit
  | packetSend
deriving DecidableEq, Repr

end Sys2Proof
end

