-- ==== Sys2Proof/Decode.lean ====
section
/-!
DEFINITION. The words of `spec/opcode_table.json`. Every row of the table has an empty list of fields and
gives no bits: the rows are events of a block, not encoded instructions, so no word spells a command.
The packets of the Host Link are read in `Sys2Proof/Machine/Operands.lean`.
-/

namespace Sys2Proof

/-- The command that a word spells by the table's bits: no row gives bits, so no word spells one. -/
def decodeTableWord (_nbits _w : Nat) : Option Instr := none

end Sys2Proof
end

