-- ==== Sys2Proof/Config.lean ====
section
/-!
DEFINITION. The free values: what the spec does not state. None of them has a body that a proof could
see, so a statement about the model holds whatever they are. Each is named in the assumption log.
-/

namespace Sys2Proof

/-- The byte read at an offset of the header that a host packet is too short to hold. The spec says
that the link delivers each packet whole and states no reading of a shorter one (log entry 3). -/
opaque Config.absentPacketByte : List Byte → Nat → Byte

/-- The record that 16 bytes, not all zero, stand for. The spec gives no byte layout of a record
(log entry 4). -/
opaque Config.decodeRecord : List Byte → Record

/-- The byte at an offset of a metadata page whose 16 records are given, not all of them BLANK
(log entry 4). -/
opaque Config.logPageByte : List Record → Nat → Byte

/-- The upper two bits of the tag byte of the n-th packet the bridge sends. R142 says that they are
ignored and states no value (log entry 5). -/
opaque Config.sentTagHighBits : Nat → BitVec 2

/-- Whether a REMAPPED incident sets the spare-new bit of its present set beside the operation bit
(log entry 6). -/
opaque Config.remappedSetsSpareNewBit : Bool

/-- Whether a PROTECTED_WRITE incident sets the tag bit of its present set beside the operation bit
(log entry 6). -/
opaque Config.protectedSetsTagBit : Bool

end Sys2Proof
end

