-- ==== Sys2Proof/Machine/State.lean ====
section
/-!
DEFINITION. The state of the bridge as plain data, block by block as the Introduction's block diagram lists
them, the state right after a hard reset, and the reasons a step can stop.
-/

namespace Sys2Proof.Machine

/-! ## Timers -/

/-- A timer of the bridge. Times are microseconds of the clock `State.now`. A running timer is held by
the moment it expires, a paused one by the time it has left (R15, R45). -/
inductive Timer where
  | stopped
  | running (deadline : Nat)
  | paused (remaining : Nat)
deriving DecidableEq, Repr

/-! ## The Absorb Buffer (chapter 1) -/

/-- The nine slot states (R4). -/
inductive SlotState where
  | free
  | opened
  | held
  | filling
  | queued
  | programming
  | suspended
  | recording
  | stranded
deriving DecidableEq, Repr

/-- The kind of write that opened a slot (R2). -/
inductive Origin where
  | host
  | scrub
deriving DecidableEq, Repr

/-- Where a slot's program goes: the page's own array location or a spare of its bank (R2). -/
inductive Target where
  | own
  | spare (index : Nat)
deriving DecidableEq, Repr

/-- A slot's image and its written set in one: the byte of each of the 256 offsets, `none` at an offset
outside the written set, whose byte has no meaning (R2); DESIGN CHOICE, log entry 8. -/
structure Image where
  cells : List (Option Byte)
  size : cells.length = 256
deriving DecidableEq, Repr

/-- The image of an empty written set. -/
def Image.blank : Image := ⟨List.replicate 256 none, List.length_replicate⟩

/-- One of the 32 slots (R2). The close timer of an OPEN slot is held with it (R15). -/
structure Slot where
  state : SlotState
  page : Nat
  epoch : Nat
  image : Image
  age : Nat
  lastMerge : Nat
  closeTimer : Timer
  attempts : Nat
  suspends : Nat
  target : Option Target
  origin : Origin
deriving DecidableEq, Repr

/-- A FREE slot. Its other fields have no meaning and no rule reads them (R2); DESIGN CHOICE, log entry 25. -/
def Slot.unused : Slot :=
  { state := .free, page := 0, epoch := 0, image := Image.blank, age := 0, lastMerge := 0,
    closeTimer := .stopped, attempts := 0, suspends := 0, target := none, origin := .host }

/-- An entry of the page directory: a page's slots, oldest first, and its pin count (R5). -/
structure DirEntry where
  page : Nat
  slots : List SlotId
  pins : Nat
deriving DecidableEq, Repr

/-- The slots, the opening counter (R3) and the page directory, in ascending order of page (R5, R6);
the counter has no width, log entry 9. -/
structure AbsorbBuffer where
  slots : Vector Slot 32
  opened : Nat
  directory : List DirEntry
deriving DecidableEq, Repr

/-! ## The Epoch Tracker (chapter 2) -/

/-- The state of an epoch (R28). -/
inductive EpochState where
  | opened
  | closed
deriving DecidableEq, Repr

/-- An entry of the epoch list (R28). -/
structure Epoch where
  fence : Nat
  state : EpochState
  outstanding : Nat
  lossy : Bool
  notify : Bool
deriving DecidableEq, Repr

/-- The epoch list, head first, the fence counter and the last persisted fence (R28, R29, R40). -/
structure EpochTracker where
  epochs : List Epoch
  fenceCounter : Nat
  lastPersisted : Nat
deriving DecidableEq, Repr

/-! ## The Bank Scheduler and the Array Link Interface (chapters 3 and 11) -/

/-- The bank monitor states (R49). -/
inductive Monitor where
  | idle
  | reading
  | programming
  | suspendPending
  | suspended
  | suspendedReading
  | resetting
  | faulted
deriving DecidableEq, Repr

/-- The owner of a read job and what it needs to know the job by (R47): the slot of a fill, the tag of
a host read, the metadata page of a start-up read. -/
inductive JobOwner where
  | fill (slot : SlotId)
  | host (tag : Nat)
  | startup (page : Nat)
deriving DecidableEq, Repr

/-- A read job (R47). -/
structure ReadJob where
  index : Nat
  owner : JobOwner
  retried : Bool
deriving DecidableEq, Repr

/-- How far a data program in hand has got: its attempt is in flight; the attempt has failed by the expiry of its
timer and is judged at the RESET_DONE (R56); it has failed because a read timed out under its suspension, and is
judged then too (R61); or a retry is due (R55, R60). -/
inductive ProgramPhase where
  | inFlight
  | failed
  | interrupted
  | retryDue
deriving DecidableEq, Repr

/-- The program in hand of a bank (R45). -/
inductive ProgramInHand where
  | absent
  | data (slot : SlotId) (phase : ProgramPhase)
  | metadata
deriving DecidableEq, Repr

/-- A completion a bank may still send that the bridge will take (R176). -/
inductive Awaited where
  | readDone (tag : Nat)
  | programDone (tag : Nat)
  | suspendAck (tag : Nat)
  | resetDone
deriving DecidableEq, Repr

/-- The mark stage 1 of start-up gives a bank (R165). -/
inductive Presence where
  | unmarked
  | present
  | absent
deriving DecidableEq, Repr

/-- A bank record (R45), with the sequence counter and awaited set the Array Link Interface keeps for
the bank (R176), the tags p and r of its program and its read (R177), and its start-up mark (R165). -/
structure Bank where
  monitor : Monitor
  programQueue : List SlotId
  readQueue : List ReadJob
  batch : Nat
  program : ProgramInHand
  read : Option ReadJob
  programTimer : Timer
  readTimer : Timer
  resetTimer : Timer
  sequence : Nat
  awaited : List Awaited
  programTag : Nat
  readTag : Nat
  presence : Presence
deriving DecidableEq, Repr

/-- A bank record after a hard reset (R67, R176); tags and mark a DESIGN CHOICE, log entry 25. -/
def Bank.afterReset : Bank :=
  { monitor := .idle, programQueue := [], readQueue := [], batch := 0, program := .absent, read := none,
    programTimer := .stopped, readTimer := .stopped, resetTimer := .stopped, sequence := 0, awaited := [],
    programTag := 0, readTag := 0, presence := .unmarked }

/-- The pending metadata program (R48). -/
structure PendingMeta where
  page : Nat
  image : List Record
deriving DecidableEq, Repr

/-- The eight bank records and the pending metadata program (R45, R48). -/
structure Scheduler where
  banks : Vector Bank 8
  pendingMeta : Option PendingMeta
deriving DecidableEq, Repr

/-! ## The Read Path (chapter 4) -/

/-- An in-flight read record (R68). `data` has one entry for each byte of the read; the entries that
are `none` are the read's array offsets. -/
structure ReadRecord where
  tag : Nat
  page : Nat
  first : Nat
  length : Nat
  data : List (Option Byte)
  bank : BankId
  index : Nat
deriving DecidableEq, Repr

/-! ## Requests to the Metadata Writer (R102) -/

/-- A change a RANGE_APPLY makes to the region table once its record has persisted (R121). -/
inductive RegionChange where
  | add (first last : Nat) (attr : RegionAttr)
  | promote (first last : Nat)
  | remove (first last : Nat)
deriving DecidableEq, Repr

/-- What a request asks to be written: a MAP, with a RETIRE of the spare it replaces if there is one,
on behalf of a slot; one or two RETIRE; an UNLOST, on behalf of a slot or of none; a LOST; the record
of a region change; OPEN_SESSION; SHUTDOWN (R102). -/
inductive RequestKind where
  | map (slot : SlotId) (page bank spare : Nat) (old : Option Nat)
  | retire (spares : List (Nat × Nat))
  | unlost (slot : Option SlotId) (page : Nat)
  | lost (page : Nat)
  | region (change : RegionChange)
  | openSession (session : BitVec 32)
  | shutdown (session : BitVec 32) (outcome : ShutdownOutcome) (fence stranded : Nat)
deriving DecidableEq, Repr

/-- A request. `taken` counts the records of it already taken into a program (a split request, R103);
`void` marks an UNLOST request whose answer changes nothing (R91). -/
structure Request where
  kind : RequestKind
  taken : Nat
  void : Bool
deriving DecidableEq, Repr

/-! ## The Remap Unit (chapter 5) -/

/-- An entry of the remap table: a host page and the spare it lives at (R82). -/
structure MapEntry where
  page : Nat
  spare : Nat
deriving DecidableEq, Repr

/-- An entry of a bank's free spare list (R81). -/
structure FreeSpare where
  index : Nat
  claim : Option SlotId
deriving DecidableEq, Repr

/-- The remap table in ascending order of page, each bank's free spare list and retired set in ascending
order, the lost set in ascending order, the unrecorded retirement list, oldest first, the requests
held for room in the pending-append list, and whether start-up has derived the free spare lists
(R81 to R86, R88). -/
structure RemapUnit where
  table : List MapEntry
  free : Vector (List FreeSpare) 8
  retired : Vector (List Nat) 8
  lost : List Nat
  unrecorded : List (Nat × Nat)
  held : List Request
  derived : Bool
deriving DecidableEq, Repr

/-- The Remap Unit after a hard reset (R84). -/
def RemapUnit.afterReset : RemapUnit :=
  { table := [], free := Vector.replicate 8 [], retired := Vector.replicate 8 [], lost := [],
    unrecorded := [], held := [], derived := false }

/-! ## The Metadata Writer (chapter 6) -/

/-- The states of the Metadata Writer (R101). -/
inductive WriterState where
  | unloaded
  | idle
  | appending
  | compacting
  | formatting
  | stopped
deriving DecidableEq, Repr

/-- A request a log page program carries records of; `complete` says that its last record is among
them (R103, R104). -/
structure Carried where
  request : Request
  complete : Bool
deriving DecidableEq, Repr

/-- The program in hand of the writer (R101): the metadata page, its image, the requests whose records
it carries, the number of records taken for it, and its attempt count. -/
structure WriterProgram where
  page : Nat
  image : List Record
  carried : List Carried
  records : Nat
  attempts : Nat
deriving DecidableEq, Repr

/-- The compaction record (R101): the images of the 64 half pages, the half page programmed next, the
half, generation and used count the snapshot gives, the unrecorded retirements it covers, and
whether its OPEN_SESSION is the pending request of start-up (R111). -/
structure Compaction where
  images : List (List Record)
  next : Nat
  half : Nat
  generation : Nat
  used : Nat
  covered : List (Nat × Nat)
  opensSession : Bool
deriving DecidableEq, Repr

/-- The Metadata Writer (R101). `formatAll` says that the format in progress programs all 128 pages (R112). -/
structure Writer where
  state : WriterState
  activeHalf : Nat
  generation : Nat
  used : Nat
  buffer : List Record
  list : List Request
  program : Option WriterProgram
  compaction : Option Compaction
  formatAll : Bool
deriving DecidableEq, Repr

/-- The Metadata Writer after a hard reset (R101); numbers and buffer a DESIGN CHOICE, log entry 25. -/
def Writer.afterReset : Writer :=
  { state := .unloaded, activeHalf := 0, generation := 0, used := 0, buffer := [], list := [],
    program := none, compaction := none, formatAll := false }

/-! ## The Region Unit (chapter 7) -/

/-- An entry of the region table (R116). -/
structure Region where
  first : Nat
  last : Nat
  attr : RegionAttr
deriving DecidableEq, Repr

/-- The range staging (R119). -/
inductive Staging where
  | empty
  | firstSet (first : Nat)
  | bothSet (first last : Nat)
deriving DecidableEq, Repr

/-- The record of an active scrub walker (R124). -/
structure Walker where
  first : Nat
  last : Nat
  next : Nat
  zeroed : Nat
  skipped : Nat
deriving DecidableEq, Repr

/-- The region table in ascending order of first page, the staging, the walker, absent when inactive,
and a RANGE_APPLY's request held for room in the pending-append list (R116, R119, R122, R124). -/
structure RegionUnit where
  table : List Region
  staging : Staging
  walker : Option Walker
  held : Option Request
deriving DecidableEq, Repr

/-! ## The Host Link Interface (chapter 8) -/

/-- A READ request (R142); `extra` is the number of bytes after its 12-byte header. -/
structure ReadRequest where
  tag : Nat
  length : Nat
  address : Nat
  extra : Nat
deriving DecidableEq, Repr

/-- A WRITE request (R142). -/
structure WriteRequest where
  tag : Nat
  length : Nat
  fence : Bool
  notify : Bool
  address : Nat
  data : List Byte
deriving DecidableEq, Repr

/-- A request of the memory lane (R130). -/
inductive MemRequest where
  | read (request : ReadRequest)
  | write (request : WriteRequest)
deriving DecidableEq, Repr

/-- A DIRECTIVE request (R142). -/
structure DirRequest where
  tag : Nat
  code : Byte
  payloadLength : Nat
  payload : List Byte
deriving DecidableEq, Repr

/-- The two lanes (R130). -/
inductive Lane where
  | memory
  | directive
deriving DecidableEq, Repr

/-- The results of the three responses (R142). -/
inductive Result where
  | ok
  | done
  | started
  | lost
  | mediaError
  | malformed
  | misaligned
  | outOfRange
  | protectedPage
  | starting
  | halted
  | busy
  | full
  | sequence
  | badArgument
  | overlap
  | noMatch
  | refusedFixed
  | unknown
  | failed
deriving DecidableEq, Repr

/-- The packets the bridge sends (R138, R139). The fence number of a WRITE_DONE is 0 when there is
none; a CREDIT is FULL or RETURN; a PERSISTED is LOSSY or CLEAN; a RANGE_DONE is ABANDONED or COMPLETE. -/
inductive Packet where
  | readData (tag : Nat) (result : Result) (data : List Byte)
  | writeDone (tag : Nat) (result : Result) (fence : Nat)
  | directiveDone (tag : Nat) (result : Result) (payload : List Byte)
  | persisted (fence : Nat) (lossy : Bool)
  | rangeDone (abandoned : Bool) (zeroed skipped : Nat)
  | credit (lane : Lane) (full : Bool) (count : Nat)
deriving DecidableEq, Repr

/-- The two lanes, oldest first, the memory lane head, which holds a request between steps only while
it holds a waiting write (R132), the outstanding-tag set in ascending order (R134), the response queue,
oldest first (R137), and for each lane the credits granted to the host and not yet used by an arrival (R130);
credit counts a DESIGN CHOICE, log entry 23, and no bound on the queue DEDUCED, log entry 26. -/
structure HostLink where
  memLane : List MemRequest
  dirLane : List DirRequest
  head : Option WriteRequest
  tags : List Nat
  responses : List Packet
  memCredits : Nat
  dirCredits : Nat
deriving DecidableEq, Repr

/-! ## The Directive Engine (chapter 9) -/

/-- The profile (R152). -/
structure Profile where
  closeAge : Nat
  lowWater : Nat
  suspendBudget : Nat
  retryLimit : Nat
  drainBudget : Nat
  alertMask : BitVec 32
deriving DecidableEq, Repr

/-- The default profile; the default ALERT_MASK sets bits 3, 5, 6, 9 and 10 (R144, R152). -/
def Profile.default : Profile :=
  { closeAge := 20, lowWater := 4, suspendBudget := 2, retryLimit := 2, drainBudget := 64,
    alertMask := 0x668#32 }

/-- The current directive of the engine between steps: absent, or a directive that holds the engine
until its request is answered (R148, R151). A RELEASE holds the slot it named, with the age and page
by which that image is known (R95). -/
inductive CurrentDirective where
  | absent
  | release (tag : Nat) (slot : SlotId) (age page : Nat)
  | rangeApply (tag : Nat)
deriving DecidableEq, Repr

/-- The kinds of incident (R147). -/
inductive IncidentKind where
  | remapped
  | stranded
  | fillUnreadable
  | readFailed
  | protectedWrite
  | tagClash
  | bankTimeout
  | metadataFault
  | lossyEpoch
deriving DecidableEq, Repr

/-- An incident record (R147, R160); an absent field is `none`. -/
structure Incident where
  kind : IncidentKind
  fence : Nat := 0
  page : Option Nat := none
  bank : Option Nat := none
  slot : Option Nat := none
  tag : Option Nat := none
  spareOld : Option Nat := none
  region : Option Nat := none
  metadataPage : Option Nat := none
  operation : Option Nat := none
  index : Option Nat := none
deriving DecidableEq, Repr

/-- The current directive, the profile, the latched set and the incident queue, oldest first
(R148, R152, R156, R160). The live set is computed (R157). -/
structure DirectiveEngine where
  current : CurrentDirective
  profile : Profile
  latched : BitVec 32
  incidents : List Incident
deriving DecidableEq, Repr

/-! ## Bridge Control (chapter 10) -/

/-- The bridge states (R162). -/
inductive BridgeState where
  | starting
  | running
  | degraded
  | draining
  | dormant
  | faulted
deriving DecidableEq, Repr

/-- The fault reasons (R162). -/
inductive FaultReason where
  | none
  | geometry
  | metadataCorrupt
  | arrayUnresponsive
deriving DecidableEq, Repr

/-- The kinds of drain (R162). -/
inductive DrainKind where
  | power
  | restart
deriving DecidableEq, Repr

/-- Whether the SHUTDOWN of a drain has been handed and answered (R171). -/
inductive ShutdownStatus where
  | notHanded
  | handed
  | answered
deriving DecidableEq, Repr

/-- The drain record (R162). -/
structure Drain where
  kind : DrainKind
  budget : Option Nat
  count : Nat
  recordPermitted : Bool
  shutdown : ShutdownStatus
deriving DecidableEq, Repr

/-- The previous-session outcomes (R115). -/
inductive PreviousOutcome where
  | fresh
  | clean
  | truncated
  | unclean
deriving DecidableEq, Repr

/-- The previous-session facts (R162). -/
structure PreviousFacts where
  outcome : PreviousOutcome
  lastPersisted : Nat
  stranded : Nat
deriving DecidableEq, Repr

/-- What stage 3 has read of one half: its records so far, the number of pages read, whether they all
read entirely zero, and whether reading has come to the SNAPSHOT_END, the first BLANK or the end (R166). -/
structure HalfScan where
  records : List Record
  pages : Nat
  zero : Bool
  done : Bool
deriving DecidableEq, Repr

/-- What stage 4 has built so far (R113, R114): the tables, the session facts, whether the snapshot is
still being read, the position of the next record and the image of the last page read. -/
structure Replay where
  half : Nat
  generation : Nat
  table : List MapEntry
  retired : List (Nat × Nat)
  lost : List Nat
  regions : List Region
  session : Option (BitVec 32)
  shutdown : Option (ShutdownOutcome × Nat × Nat)
  inSnapshot : Bool
  used : Nat
  buffer : List Record
deriving DecidableEq, Repr

/-- The stage of start-up in progress (R165 to R167, R174): the six stages, stage 3 in its three parts
(the choice, the reading of every remaining page, the format), stage 5 with the answer to its
OPEN_SESSION request, and the bank resets and the format of a REFORMAT. Stage 6 has no duration. -/
inductive Stage where
  | resetBanks
  | identify
  | choose (half0 half1 : HalfScan)
  | blankCheck (remaining : List Nat) (zero : Bool)
  | format
  | replay (built : Replay)
  | openSession (answer : Option Bool)
  | reformatReset
  | reformatFormat
deriving DecidableEq, Repr

/-- A start-up in progress, and whether POWER_WARN has asked it to stop after its present stage (R168). -/
structure Startup where
  stage : Stage
  stopAsked : Bool
deriving DecidableEq, Repr

/-- The record of Bridge Control (R162), the start-up in progress and the IDENTIFY timer (R178). -/
structure BridgeControl where
  state : BridgeState
  faultReason : FaultReason
  drain : Option Drain
  session : BitVec 32
  previous : PreviousFacts
  startup : Option Startup
  identifyTimer : Timer
deriving DecidableEq, Repr

/-- The geometry adopted at stage 2: the bank count B, the pages per bank P and the spares per bank S (R1, R178). -/
structure Geometry where
  banks : Nat
  pages : Nat
  spares : Nat
deriving DecidableEq, Repr

/-! ## The lines and the links -/

/-- The discrete lines (R181): whether RESET_N is asserted, whether POWER_WARN is asserted, and whether
the bridge asserts ALERT. -/
structure Pins where
  resetAsserted : Bool
  powerWarn : Bool
  alert : Bool
deriving DecidableEq, Repr

/-- The commands the bridge sends on the Array Link (R175). -/
inductive ArrayCommand where
  | identify
  | readPage (bank : BankId) (index tag : Nat)
  | programPage (bank : BankId) (index tag : Nat) (data : PageData)
  | suspend (bank : BankId) (tag : Nat)
  | resume (bank : BankId) (tag : Nat)
  | bankReset (bank : BankId)
deriving DecidableEq, Repr

/-! ## The state -/

/-- The whole state. The last four fields are the model's own: the clock in microseconds, the commands
sent on the Array Link and the packets sent on the Host Link so far, oldest first, and the queue of
commands that are waiting. -/
structure State where
  link : HostLink
  absorb : AbsorbBuffer
  tracker : EpochTracker
  sched : Scheduler
  reads : List ReadRecord
  remap : RemapUnit
  writer : Writer
  region : RegionUnit
  engine : DirectiveEngine
  control : BridgeControl
  geometry : Option Geometry
  pins : Pins
  now : Nat
  arrayOut : List ArrayCommand
  hostOut : List (List Byte)
  pending : List Instr
deriving DecidableEq, Repr

/-- The epoch list, the fence counter and the last persisted fence after a hard reset and at the end of
every start-up (R30). -/
def EpochTracker.afterReset : EpochTracker :=
  { epochs := [{ fence := 1, state := .opened, outstanding := 0, lossy := false, notify := false }],
    fenceCounter := 0, lastPersisted := 0 }

/-- The slots, the counter and the directory after a hard reset (R3, R4, R6). -/
def AbsorbBuffer.afterReset : AbsorbBuffer :=
  { slots := Vector.replicate 32 Slot.unused, opened := 0, directory := [] }

/-- The previous-session facts until replay replaces them (R162). -/
def PreviousFacts.fresh : PreviousFacts := { outcome := .fresh, lastPersisted := 0, stranded := 0 }

/-- The bridge right after a hard reset, RESET_N still asserted: every piece of volatile state at its
hard-reset value (R164). RESET_N_RELEASE begins start-up from here. -/
def State.reset : State :=
  { link := { memLane := [], dirLane := [], head := none, tags := [], responses := [],
              memCredits := 0, dirCredits := 0 },
    absorb := AbsorbBuffer.afterReset,
    tracker := EpochTracker.afterReset,
    sched := { banks := Vector.replicate 8 Bank.afterReset, pendingMeta := none },
    reads := [],
    remap := RemapUnit.afterReset,
    writer := Writer.afterReset,
    region := { table := [], staging := .empty, walker := none, held := none },
    engine := { current := .absent, profile := Profile.default, latched := 0#32, incidents := [] },
    control := { state := .starting, faultReason := .none, drain := none, session := 0#32,
                 previous := PreviousFacts.fresh, startup := none, identifyTimer := .stopped },
    geometry := none,
    pins := { resetAsserted := true, powerWarn := false, alert := false },
    now := 0, arrayOut := [], hostOut := [], pending := [] }

/-! ## The reasons a step can stop -/

/-- The faults of the machine: there is none. The spec gives every command an effect in every state
(FAULTED is a state of the bridge, not the end of its steps), so no step stops. Safe. -/
inductive Fault where
deriving DecidableEq, Repr

/-- The refusals. -/
inductive Refusal where
  /-- Raised only by `exec`'s arm of a command that has no meaning yet; no arm does. Safe. -/
  | notModelled (mnemonic : String)
deriving DecidableEq, Repr

end Sys2Proof.Machine
end

