-- ==== Sys2Proof/Machine/Ops.lean ====
section
/-!
DEFINITION. The named operations over the state that every block shares: numbers and orders, geometry,
images, slots, the page directory, banks, conditions and incidents, and what is sent on the two links.
-/

namespace Sys2Proof.Machine

/-! ## Numbers, sorted sets and orders -/

/-- The number written in little-endian bytes (R142). -/
def leNat : List Byte → Nat
  | [] => 0
  | b :: rest => b.toNat + 256 * leNat rest

/-- `width` little-endian bytes of a number (R142). -/
def leBytes : Nat → Nat → List Byte
  | 0, _ => []
  | width + 1, n => BitVec.ofNat 8 n :: leBytes width (n / 256)

/-- A number added to a set kept in ascending order. -/
def insertNat (x : Nat) : List Nat → List Nat
  | [] => [x]
  | y :: rest => if x < y then x :: y :: rest else if x = y then y :: rest else y :: insertNat x rest

/-- One element put before the first element of no smaller key. -/
def insertBy {α : Type} (key : α → Nat) (x : α) : List α → List α
  | [] => [x]
  | y :: rest => if key x ≤ key y then x :: y :: rest else y :: insertBy key x rest

/-- A list in ascending order of a key; elements of equal key keep their order. -/
def sortBy {α : Type} (key : α → Nat) (xs : List α) : List α := xs.foldr (insertBy key) []

/-- All 32 slots, in ascending order. -/
def allSlots : List SlotId :=
  [0, 1, 2, 3, 4, 5, 6, 7, 8, 9, 10, 11, 12, 13, 14, 15,
   16, 17, 18, 19, 20, 21, 22, 23, 24, 25, 26, 27, 28, 29, 30, 31]

/-- All eight banks, in ascending order. -/
def allBanks : List BankId := [0, 1, 2, 3, 4, 5, 6, 7]

/-- A bank number as the number of one of the eight records, if it is one. -/
def bankId? (bank : Nat) : Option BankId := if h : bank < 8 then some ⟨bank, h⟩ else none

/-! ## Page contents on the Array Link -/

/-- Whether sixteen bytes are all zero: a BLANK record (R98). -/
def allZero (data : List Byte) : Bool := data.all (· == 0x00#8)

/-- The records of `n` pieces of sixteen bytes (R98). -/
def bytesToRecords : Nat → List Byte → List Record
  | 0, _ => []
  | n + 1, data =>
    (if allZero (data.take 16) then Record.blank else Config.decodeRecord (data.take 16))
      :: bytesToRecords n (data.drop 16)

/-- The sixteen records of a metadata page (R98). -/
def PageData.records : PageData → List Record
  | .log records => records
  | .bytes data => bytesToRecords 16 data

/-- Whether the page reads entirely zero; sixteen BLANK records do (R98, R166). -/
def PageData.zero : PageData → Bool
  | .log records => records.all (· == Record.blank)
  | .bytes data => allZero data

/-- The 256 bytes of a page. -/
def PageData.toBytes : PageData → List Byte
  | .bytes data => data
  | .log records =>
    if records.all (· == Record.blank) then List.replicate 256 0x00#8
    else (List.range 256).map (Config.logPageByte records)

/-- Whether a page's content is 256 bytes, or 16 records; otherwise its READ_DONE is taken as
READ_FAIL (R175). -/
def PageData.whole : PageData → Bool
  | .bytes data => data.length == 256
  | .log records => records.length == 16

/-! ## Images -/

/-- The bytes of `data` laid over the front of the cells. -/
def layCells : List Byte → List (Option Byte) → List (Option Byte)
  | b :: data, _ :: cells => some b :: layCells data cells
  | [], cells => cells
  | _ :: _, [] => []

/-- The bytes of `data` laid over the cells from an offset on. -/
def layCellsAt : Nat → List Byte → List (Option Byte) → List (Option Byte)
  | 0, data, cells => layCells data cells
  | offset + 1, data, c :: cells => c :: layCellsAt offset data cells
  | _ + 1, _, [] => []

/-- The cells with the bytes of a page in every cell that has none (R23). -/
def fillCells : List Byte → List (Option Byte) → List (Option Byte)
  | b :: data, c :: cells => some (c.getD b) :: fillCells data cells
  | [], cells => cells
  | _ :: _, [] => []

theorem layCells_length : ∀ (data : List Byte) (cells : List (Option Byte)),
    (layCells data cells).length = cells.length
  | b :: data, _ :: cells => by simp [layCells, layCells_length data cells]
  | [], cells => by cases cells <;> rfl
  | _ :: _, [] => rfl

theorem layCellsAt_length : ∀ (offset : Nat) (data : List Byte) (cells : List (Option Byte)),
    (layCellsAt offset data cells).length = cells.length
  | 0, data, cells => by cases cells <;> simp [layCellsAt, layCells_length]
  | offset + 1, data, c :: cells => by simp [layCellsAt, layCellsAt_length offset]
  | _ + 1, _, [] => rfl

theorem fillCells_length : ∀ (data : List Byte) (cells : List (Option Byte)),
    (fillCells data cells).length = cells.length
  | b :: data, c :: cells => by simp [fillCells, fillCells_length data cells]
  | [], cells => by cases cells <;> rfl
  | _ :: _, [] => rfl

/-- The byte an image holds at an offset, if the offset is in the written set (R2). -/
def Image.byte (image : Image) (offset : Nat) : Option Byte := image.cells.getD offset none

/-- Whether the written set is full (R2). -/
def Image.full (image : Image) : Bool := image.cells.all Option.isSome

/-- A merge of bytes at an offset: they overwrite what is there and join the written set (R9). -/
def Image.merge (image : Image) (offset : Nat) (data : List Byte) : Image :=
  ⟨layCellsAt offset data image.cells, by rw [layCellsAt_length, image.size]⟩

/-- An image whose bytes outside the written set are supplied by a page (R19, R23, R24). -/
def Image.fill (image : Image) (data : List Byte) : Image :=
  ⟨fillCells data image.cells, by rw [fillCells_length, image.size]⟩

/-- The 256 bytes of a full image, as they are programmed (R53); log entry 35. -/
def Image.toBytes (image : Image) : List Byte := image.cells.map (·.getD 0x00#8)

/-- 256 zero bytes (R19, R24, R125). -/
def zeroPage : List Byte := List.replicate 256 0x00#8

/-! ## Geometry (R1) -/

/-- B, or 0 before IDENTIFY has reported it (R158). -/
def State.bankCount (s : State) : Nat :=
  match s.geometry with
  | some g => g.banks
  | none => 0

/-- The host capacity in pages, B x P - B x S - 128 (R1). -/
def Geometry.capacityPages (g : Geometry) : Nat := g.banks * g.pages - g.banks * g.spares - 128

/-- The host capacity in pages; 0 before the geometry is known. -/
def State.capacityPages (s : State) : Nat :=
  match s.geometry with
  | some g => g.capacityPages
  | none => 0

/-- The host capacity in bytes (R1). -/
def State.capacityBytes (s : State) : Nat := 256 * s.capacityPages

/-- The bank of a host page, n mod B (R1). Without a geometry B reads 0, n mod 0 is n, and the answer is n mod 8:
DESIGN CHOICE, log entry 36. -/
def State.bankOfPage (s : State) (page : Nat) : BankId := Fin.ofNat 8 (page % s.bankCount)

/-- The bank page index of spare index i, P - S - 128/B + i (R1, R81). -/
def State.spareIndex (s : State) (i : Nat) : Nat :=
  match s.geometry with
  | some g => g.pages - g.spares - 128 / g.banks + i
  | none => i

/-- The bank page index of a page's target (R53, R75); of its own location without a geometry 0, log entry 36. -/
def State.targetIndex (s : State) (page : Nat) : Target → Nat
  | .own => page / s.bankCount
  | .spare i => s.spareIndex i

/-- The bank of metadata page k, k mod B (R1, R98). Without a geometry B reads 0, k mod 0 is k, and the answer is
k mod 8: DESIGN CHOICE, log entry 36. -/
def State.metaBank (s : State) (k : Nat) : BankId := Fin.ofNat 8 (k % s.bankCount)

/-- The bank page index of metadata page k, P - 128/B + (k div B) (R1, R98). -/
def State.metaIndex (s : State) (k : Nat) : Nat :=
  match s.geometry with
  | some g => g.pages - 128 / g.banks + k / g.banks
  | none => k

/-- The banks from 0 to B - 1 (R45). -/
def State.banksInUse (s : State) : List BankId := allBanks.filter (fun b => decide (b.val < s.bankCount))

/-! ## Slots and the page directory -/

/-- A slot of the state. -/
def State.slot (s : State) (i : SlotId) : Slot := s.absorb.slots[i.val]

/-- The state with one slot replaced. -/
def State.setSlot (s : State) (i : SlotId) (slot : Slot) : State :=
  { s with absorb := { s.absorb with slots := s.absorb.slots.set i.val slot } }

/-- The number of FREE slots (R4). -/
def State.freeCount (s : State) : Nat := s.absorb.slots.toList.countP (fun x => x.state == .free)

/-- The number of STRANDED slots (R4). -/
def State.strandedCount (s : State) : Nat := s.absorb.slots.toList.countP (fun x => x.state == .stranded)

/-- Whether every slot is FREE or STRANDED (R171). -/
def State.slotsAtRest (s : State) : Bool :=
  s.absorb.slots.toList.all (fun x => x.state == .free || x.state == .stranded)

/-- The directory entry of a page. -/
def State.dirEntry? (s : State) (page : Nat) : Option DirEntry :=
  s.absorb.directory.find? (fun e => e.page == page)

/-- A page's slot list, oldest first (R5). -/
def State.slotList (s : State) (page : Nat) : List SlotId :=
  match s.dirEntry? page with
  | some e => e.slots
  | none => []

/-- A page's pin count (R5, R76). -/
def State.pinCount (s : State) (page : Nat) : Nat :=
  match s.dirEntry? page with
  | some e => e.pins
  | none => 0

/-- An entry put before others if it is not empty: an entry exists while its slot list is non-empty or
its pin count is above zero (R6). -/
def keepEntry (e : DirEntry) (rest : List DirEntry) : List DirEntry :=
  if e.slots.isEmpty && e.pins == 0 then rest else e :: rest

/-- The directory with a page's entry changed; an entry that does not exist starts empty (R6). -/
def changeEntry (page : Nat) (f : DirEntry → DirEntry) : List DirEntry → List DirEntry
  | [] => keepEntry (f { page := page, slots := [], pins := 0 }) []
  | e :: rest =>
    if page < e.page then keepEntry (f { page := page, slots := [], pins := 0 }) (e :: rest)
    else if page = e.page then keepEntry (f e) rest
    else e :: changeEntry page f rest

/-- The state with a page's directory entry changed. -/
def State.changeDir (s : State) (page : Nat) (f : DirEntry → DirEntry) : State :=
  { s with absorb := { s.absorb with directory := changeEntry page f s.absorb.directory } }

/-- The older slots of a slot in a slot list: those before it (R5). -/
def olderIn (list : List SlotId) (i : SlotId) : List SlotId :=
  if list.contains i then list.takeWhile (fun j => j != i) else []

/-- The older slots of a slot in its page's slot list (R5). -/
def State.olderSlots (s : State) (i : SlotId) : List SlotId := olderIn (s.slotList (s.slot i).page) i

/-! ## Banks -/

/-- A bank record of the state. -/
def State.bank (s : State) (b : BankId) : Bank := s.sched.banks[b.val]

/-- The state with one bank record replaced. -/
def State.setBank (s : State) (b : BankId) (bank : Bank) : State :=
  { s with sched := { s.sched with banks := s.sched.banks.set b.val bank } }

/-- The state with the pending metadata program replaced (R48). -/
def State.setPendingMeta (s : State) (p : Option PendingMeta) : State :=
  { s with sched := { s.sched with pendingMeta := p } }

/-! ## Conditions and incidents -/

/-- The 18 conditions (R144). -/
inductive Condition where
  | protectedWrite
  | tagClash
  | linkOverrun
  | mediaError
  | remapped
  | strandedNew
  | lossyEpoch
  | incidentOverflow
  | rangeAbandoned
  | metadataFault
  | bankTimeout
  | memLaneStalled
  | epochListFull
  | sparesLow
  | strandedPresent
  | lostPresent
  | scrubActive
  | previousUnclean
deriving DecidableEq, Repr

/-- The bit of a condition in a condition set (R144). -/
def Condition.bit : Condition → Nat
  | .protectedWrite => 0
  | .tagClash => 1
  | .linkOverrun => 2
  | .mediaError => 3
  | .remapped => 4
  | .strandedNew => 5
  | .lossyEpoch => 6
  | .incidentOverflow => 7
  | .rangeAbandoned => 8
  | .metadataFault => 9
  | .bankTimeout => 10
  | .memLaneStalled => 11
  | .epochListFull => 12
  | .sparesLow => 13
  | .strandedPresent => 14
  | .lostPresent => 15
  | .scrubActive => 16
  | .previousUnclean => 17

/-- A condition set that holds one condition. -/
def Condition.mask (c : Condition) : BitVec 32 := BitVec.ofNat 32 (2 ^ c.bit)

/-- A latched condition joins the latched set (R156). -/
def State.latch (s : State) (c : Condition) : State :=
  { s with engine := { s.engine with latched := s.engine.latched ||| c.mask } }

/-- An incident is raised: it joins the queue with the fence counter, or is dropped with
INCIDENT_OVERFLOW latched when the queue holds 16 (R160). -/
def State.raise (s : State) (i : Incident) : State :=
  if s.engine.incidents.length < 16 then
    { s with engine := { s.engine with
        incidents := s.engine.incidents ++ [{ i with fence := s.tracker.fenceCounter }] } }
  else s.latch .incidentOverflow

/-! ## The two links -/

/-- A response or notice joins the end of the response queue (R137). -/
def State.push (s : State) (p : Packet) : State :=
  { s with link := { s.link with responses := s.link.responses ++ [p] } }

/-- A response is generated: its tag leaves the outstanding-tag set at that moment (R134). -/
def State.respond (s : State) (tag : Nat) (p : Packet) : State :=
  { s.push p with link := { (s.push p).link with tags := s.link.tags.filter (fun t => t != tag) } }

/-- A command is sent on the Array Link (R175); the list is the model's own, log entry 10. -/
def State.emit (s : State) (c : ArrayCommand) : State := { s with arrayOut := s.arrayOut ++ [c] }

/-- A CREDIT notice with a RETURN grant of 1 for a lane (R130). -/
def State.returnCredit (s : State) (lane : Lane) : State :=
  match lane with
  | .memory => { s.push (.credit .memory false 1) with
      link := { (s.push (.credit .memory false 1)).link with memCredits := s.link.memCredits + 1 } }
  | .directive => { s.push (.credit .directive false 1) with
      link := { (s.push (.credit .directive false 1)).link with dirCredits := s.link.dirCredits + 1 } }

/-- The FULL grants, memory lane first, with counts 16 and 4 (R130, R140, R141). -/
def State.fullGrants (s : State) : State :=
  { (s.push (.credit .memory true 16)).push (.credit .directive true 4) with
    link := { ((s.push (.credit .memory true 16)).push (.credit .directive true 4)).link with
      memCredits := 16, dirCredits := 4 } }

/-- A request is taken from either lane only while the response queue holds 24 packets or fewer (R137),
and none is taken while RESET_N is asserted (R164). -/
def State.canTake (s : State) : Bool := !s.pins.resetAsserted && decide (s.link.responses.length ≤ 24)

/-- The tag of a request just taken is examined: a request whose tag is outstanding is discarded with
TAG_CLASH; otherwise its tag joins the set and the request proceeds (R134). -/
def State.examineTag (s : State) (lane : Lane) (tag : Nat) (proceed : State → State) : State :=
  if s.link.tags.contains tag then
    (s.latch .tagClash).raise
      { kind := .tagClash, tag := some tag,
        operation := some (match lane with | .memory => 0 | .directive => 1) }
  else proceed { s with link := { s.link with tags := insertNat tag s.link.tags } }

/-! ## Lookups shared by the blocks -/

/-- The spare of a page's MAP entry (R82). -/
def mapSpare? (table : List MapEntry) (page : Nat) : Option Nat :=
  (table.find? (fun e => e.page == page)).map MapEntry.spare

/-- A page's current array location (R22, R53, R75): the spare of its MAP entry, or its own location. -/
def State.currentTarget (s : State) (page : Nat) : Target :=
  match mapSpare? s.remap.table page with
  | some i => .spare i
  | none => .own

/-- Whether a page is in the lost set (R83). -/
def State.isLost (s : State) (page : Nat) : Bool := s.remap.lost.contains page

/-- The region index and entry that cover a page (R116, R117). -/
def regionIndex? (page : Nat) : Nat → List Region → Option Nat
  | _, [] => none
  | k, r :: rest =>
    if decide (r.first ≤ page) && decide (page ≤ r.last) then some k else regionIndex? page (k + 1) rest

/-- The region index of the entry that covers a page, if one does (R117). -/
def State.coveringRegion? (s : State) (page : Nat) : Option Nat := regionIndex? page 0 s.region.table

/-- The free spare count of a bank: its list entries that carry no claim (R81). -/
def State.freeSpareCount (s : State) (b : BankId) : Nat :=
  (s.remap.free[b.val]).countP (fun e => e.claim.isNone)

/-- The successor of a fence number: 1 follows 65,535 (R29). -/
def nextFence (n : Nat) : Nat := if n = 65535 then 1 else n + 1

/-- The number of the current epoch: the successor of the fence counter (R29). -/
def State.currentEpoch (s : State) : Nat := nextFence s.tracker.fenceCounter

/-! ## Time -/

/-- The present moment once a timer has expired: its deadline, or now if that has passed (R15, R45);
DESIGN CHOICE, log entry 2. -/
def expiryTime (now : Nat) : Timer → Nat
  | .running deadline => max now deadline
  | _ => now

/-- The timer paused with its remaining time (R56). -/
def Timer.pause (now : Nat) : Timer → Timer
  | .running deadline => .paused (deadline - now)
  | t => t

/-- The timer continued from its remaining time (R59). -/
def Timer.continue (now : Nat) : Timer → Timer
  | .paused remaining => .running (now + remaining)
  | t => t

/-- Whether a timer is running. -/
def Timer.isRunning : Timer → Bool
  | .running _ => true
  | _ => false

end Sys2Proof.Machine
end

