-- ==== Sys2Proof/Machine/Bank.lean ====
section
/-!
DEFINITION. The Bank Scheduler and the Array Link Interface: commands and sequence tags, the bank
arbiter, batches, dispatch, suspend and resume, and the bank reset (chapters 3 and 11).
-/

namespace Sys2Proof.Machine

/-! ## What may be dispatched -/

/-- Whether a request is the SHUTDOWN of a drain. -/
def Request.isShutdown (r : Request) : Bool :=
  match r.kind with
  | .shutdown _ _ _ _ => true
  | _ => false

/-- Whether the writer's program in hand carries the SHUTDOWN (R170). -/
def State.carriesShutdown (s : State) : Bool :=
  match s.writer.program with
  | some p => p.carried.any (fun c => c.request.isShutdown)
  | none => false

/-- Whether the drain budget allows a program while DRAINING: with `reserve` 1 for a data or metadata
program and 0 for the one that carries the SHUTDOWN (R170). -/
def State.budgetAllows (s : State) (reserve : Nat) : Bool :=
  match s.control.drain with
  | some d =>
    match d.budget with
    | some budget => decide (d.count + reserve < budget)
    | none => true
  | none => true

/-- The third condition of R52 for a data program: the bridge state and the drain budget. -/
def State.programsAllowed (s : State) : Bool :=
  match s.control.state with
  | .running => true
  | .degraded => true
  | .draining => s.budgetAllows 1
  | .starting => false
  | .dormant => false
  | .faulted => false

/-- The third condition of R52 for a metadata program, with STARTING added to the allowed states. -/
def State.metaAllowed (s : State) : Bool :=
  match s.control.state with
  | .starting => true
  | .running => true
  | .degraded => true
  | .draining => s.budgetAllows (if s.carriesShutdown then 0 else 1)
  | .dormant => false
  | .faulted => false

/-- Whether a slot of a program queue is dispatchable: every older slot of its page is STRANDED, the
page is not pinned, and the bridge state and the drain budget allow it (R52). -/
def State.dispatchable (s : State) (i : SlotId) : Bool :=
  (s.olderSlots i).all (fun j => (s.slot j).state == .stranded)
    && s.pinCount (s.slot i).page == 0 && s.programsAllowed

/-! ## Commands (R176) -/

/-- The next sequence tag of a bank: one more, from 15 to 0 (R176). -/
def Bank.nextTag (bank : Bank) : Nat := (bank.sequence + 1) % 16

/-- Each PROGRAM_PAGE issued during a drain counts toward its count (R170). Past 255, which a RESTART drain can
reach, it counts on: DESIGN CHOICE, log entry 9. -/
def State.countProgram (s : State) : State :=
  { s with control := { s.control with
      drain := s.control.drain.map (fun d => { d with count := d.count + 1 }) } }

/-- READ_PAGE is sent for a job, which becomes the bank's read in hand; the read timer starts at 100
microseconds (R62, R177). -/
def State.sendRead (s : State) (b : BankId) (job : ReadJob) : State :=
  (s.setBank b { s.bank b with
      monitor := if (s.bank b).monitor = .suspended then .suspendedReading else .reading,
      read := some job, readTimer := .running (s.now + 100),
      sequence := (s.bank b).nextTag, readTag := (s.bank b).nextTag,
      awaited := [.readDone (s.bank b).nextTag] }).emit
    (.readPage b job.index (s.bank b).nextTag)

/-- PROGRAM_PAGE is sent for the program in hand; the program timer starts at 5 ms (R53, R65, R177). -/
def State.sendProgram (s : State) (b : BankId) (program : ProgramInHand) (index : Nat) (data : PageData) :
    State :=
  ((s.setBank b { s.bank b with
      monitor := .programming, program := program, programTimer := .running (s.now + 5000),
      sequence := (s.bank b).nextTag, programTag := (s.bank b).nextTag,
      awaited := [.programDone (s.bank b).nextTag] }).emit
    (.programPage b index (s.bank b).nextTag data)).countProgram

/-- BANK_RESET is sent: the program and read timers stop, the reset timer starts at 1 ms, the sequence
counter advances, only RESET_DONE is awaited and the bank is RESETTING (R64, R176, R179). -/
def State.sendReset (s : State) (b : BankId) : State :=
  (s.setBank b { s.bank b with
      monitor := .resetting, programTimer := .stopped, readTimer := .stopped,
      resetTimer := .running (s.now + 1000), sequence := (s.bank b).nextTag,
      awaited := [.resetDone] }).emit (.bankReset b)

/-! ## Suspend (R58) -/

/-- Whether SUSPEND is sent for the data program a bank carries: a read job waits, the slot's suspend
count is below SUSPEND_BUDGET, and the bridge is RUNNING or DEGRADED (R58, R66); log entry 32. -/
def State.suspends (s : State) (b : BankId) : Bool :=
  (s.bank b).monitor == .programming && !(s.bank b).readQueue.isEmpty
    && (s.control.state == .running || s.control.state == .degraded)
    && (match (s.bank b).program with
        | .data i .inFlight => decide ((s.slot i).suspends < s.engine.profile.suspendBudget)
        | _ => false)

/-- The suspend decision (R58). -/
def State.suspendDecision (s : State) (b : BankId) : State :=
  if s.suspends b then
    (s.setBank b { s.bank b with
        monitor := .suspendPending,
        awaited := (s.bank b).awaited ++ [.suspendAck (s.bank b).programTag] }).emit
      (.suspend b (s.bank b).programTag)
  else s

/-! ## Dispatch -/

/-- The slot as its program begins: PROGRAMMING, its target set if it was absent (R53). -/
def State.startProgram (s : State) (i : SlotId) : State :=
  s.setSlot i { s.slot i with
    state := .programming,
    target := some ((s.slot i).target.getD (s.currentTarget (s.slot i).page)) }

/-- A slot leaves the bank's program queue and is dispatched (R53). -/
def State.dispatchSlot (s : State) (b : BankId) (i : SlotId) : State :=
  let dequeued := s.setBank b { s.bank b with
    programQueue := (s.bank b).programQueue.filter (fun j => j != i) }
  let started := dequeued.startProgram i
  (started.sendProgram b (.data i .inFlight)
      (started.targetIndex (s.slot i).page ((started.slot i).target.getD .own))
      (.bytes (s.slot i).image.toBytes)).suspendDecision b

/-- The pending metadata program is dispatched (R65). -/
def State.dispatchMeta (s : State) (b : BankId) (p : PendingMeta) : State :=
  s.sendProgram b .metadata (s.metaIndex p.page) (.log p.image)

/-- The job at the front of the read queue is issued and the batch remainder falls by one (R62). -/
def State.issueRead (s : State) (b : BankId) : State :=
  match (s.bank b).readQueue with
  | [] => s
  | job :: rest =>
    (s.setBank b { s.bank b with readQueue := rest, batch := (s.bank b).batch - 1 }).sendRead b job

/-- The pending metadata program, if it is for this bank and may be dispatched (R50, R52). -/
def State.metaFor? (s : State) (b : BankId) : Option PendingMeta :=
  match s.sched.pendingMeta with
  | some p => if s.metaBank p.page = b ∧ s.metaAllowed = true then some p else none
  | none => none

/-- The bank arbiter: what an IDLE bank does next, the first of the five choices that applies (R50). A
bank marked absent receives no command (R175). -/
def State.arbitrate (s : State) (b : BankId) : State :=
  if (s.bank b).monitor ≠ .idle ∨ (s.bank b).presence = .absent then s
  else if 0 < (s.bank b).batch then s.issueRead b
  else
    match s.metaFor? b with
    | some p => s.dispatchMeta b p
    | none =>
      match (s.bank b).programQueue.find? s.dispatchable with
      | some i => s.dispatchSlot b i
      | none =>
        if (s.bank b).readQueue.isEmpty then s
        else
          (s.setBank b { s.bank b with batch := (s.bank b).readQueue.length }).issueRead b

/-- Every bank chooses again (R50); order a DESIGN CHOICE, log entry 28. -/
def State.arbitrateAll (s : State) : State := allBanks.foldl State.arbitrate s

/-! ## Joining the queues -/

/-- A read job joins the end of a bank's read queue: a bank in PROGRAMMING makes the suspend decision
and an IDLE bank chooses again (R47, R50, R58). At a FAULTED bank the job is ended at once (R66). -/
def State.joinRead (s : State) (b : BankId) (job : ReadJob) : State :=
  if (s.bank b).monitor = .faulted then s
  else
    ((s.setBank b { s.bank b with readQueue := (s.bank b).readQueue ++ [job] }).suspendDecision b).arbitrate
      b

/-- A slot joins the end of its bank's program queue (R46, R50). -/
def State.joinProgram (s : State) (i : SlotId) : State :=
  let b := s.bankOfPage (s.slot i).page
  (s.setBank b { s.bank b with programQueue := (s.bank b).programQueue ++ [i] }).arbitrate b

/-- A slot is placed at the front of a bank's program queue (R46). -/
def State.pushFront (s : State) (b : BankId) (i : SlotId) : State :=
  s.setBank b { s.bank b with programQueue := i :: (s.bank b).programQueue }

/-! ## Leaving a state -/

/-- A bank enters IDLE at the end of a data program, a metadata program or a bank reset: a batch is fixed
from every job in its read queue, and it chooses (R50, R51). -/
def State.enterIdle (s : State) (b : BankId) : State :=
  (s.setBank b { s.bank b with
      monitor := .idle, program := .absent, programTimer := .stopped, awaited := [],
      batch := (s.bank b).readQueue.length }).arbitrate b

/-- A suspended program resumes: the slot and the bank return to PROGRAMMING, the program timer
continues, and the suspend decision is made (R59, R177). -/
def State.resume (s : State) (b : BankId) : State :=
  match (s.bank b).program with
  | .data i phase =>
    (((s.setSlot i { s.slot i with state := .programming }).setBank b { s.bank b with
        monitor := .programming, program := .data i phase,
        programTimer := (s.bank b).programTimer.continue s.now,
        awaited := [.programDone (s.bank b).programTag] }).emit
      (.resume b (s.bank b).programTag)).suspendDecision b
  | _ => s

/-- What a SUSPENDED bank does: it serves the batch, and resumes the program when the batch is done (R59). -/
def State.serveSuspended (s : State) (b : BankId) : State :=
  if decide (0 < (s.bank b).batch) && !(s.bank b).readQueue.isEmpty then s.issueRead b else s.resume b

/-- A bank whose read has ended returns to IDLE, where it fixes no batch, or to SUSPENDED (R51, R62). -/
def State.afterRead (s : State) (b : BankId) : State :=
  if (s.bank b).monitor = .reading then
    (s.setBank b { s.bank b with monitor := .idle }).arbitrate b
  else if (s.bank b).monitor = .suspendedReading then
    (s.setBank b { s.bank b with monitor := .suspended }).serveSuspended b
  else s

/-- A read job returns to the front of the read queue with its retry mark, and the batch remainder rises
by one (R63). The mark is set here, at the first failure, as R63 says, also for an expiry, whose retry is issued after
the RESET_DONE; R47 says that it is set when the retry is issued: DESIGN CHOICE, log entry 45. -/
def State.requeueRead (s : State) (b : BankId) (job : ReadJob) : State :=
  s.setBank b { s.bank b with
    read := none, readTimer := .stopped, readQueue := { job with retried := true } :: (s.bank b).readQueue,
    batch := (s.bank b).batch + 1 }

/-- The retry due at a bank is issued at once if it is dispatchable; otherwise, and when none is due, the
bank enters IDLE and the slot waits at the front of the queue (R55, R60); DEDUCED, log entry 17. -/
def State.leaveProgram (s : State) (b : BankId) : State :=
  match (s.bank b).program with
  | .data i .retryDue =>
    if s.dispatchable i then
      (s.setBank b { s.bank b with programTimer := .stopped }).dispatchSlot b i
    else s.enterIdle b
  | _ => s.enterIdle b

/-- Whether a bank carries a data program (R171): not one in reset because a read timed out under a suspended
program, whose attempt has failed (R61). -/
def Bank.carriesData (bank : Bank) : Bool :=
  match bank.program with
  | .data _ .inFlight => true
  | .data _ .failed => true
  | .data _ .retryDue => true
  | .data _ .interrupted => false
  | .metadata => false
  | .absent => false

/-- Whether the pending metadata program is in flight at a bank. -/
def State.metaInFlight (s : State) : Bool := s.sched.banks.toList.any (fun b => b.program == .metadata)

end Sys2Proof.Machine
end

