-- ==== Sys2Proof/Machine/Epoch.lean ====
section
/-!
DEFINITION. The Epoch Tracker: outstanding counts, removal of drained epochs, admission of the head's
slots, and the reports that go with a removal (chapter 2).
-/

namespace Sys2Proof.Machine

/-- The fence number of the head epoch (R28). -/
def State.headFence? (s : State) : Option Nat := s.tracker.epochs.head?.map Epoch.fence

/-- The slots of an epoch that are QUEUED, in ascending order of age (R38). -/
def State.queuedOf (s : State) (fence : Nat) : List SlotId :=
  sortBy (fun i => (s.slot i).age)
    (allSlots.filter (fun i => (s.slot i).state == .queued && (s.slot i).epoch == fence))

/-- The admission pass for the head epoch (R38). -/
def State.admitHead (s : State) : State :=
  match s.headFence? with
  | some fence => (s.queuedOf fence).foldl State.joinProgram s
  | none => s

/-- The PERSISTED notice of a removed entry whose notify flag is set (R41). -/
def State.notePersisted (s : State) (e : Epoch) : State :=
  if e.notify then s.push (.persisted e.fence e.lossy) else s

/-- The incident and condition of a removed entry whose lossy flag is set (R42). -/
def State.noteLossy (s : State) (e : Epoch) : State :=
  if e.lossy then
    (s.raise { kind := .lossyEpoch, operation := some e.fence }).latch .lossyEpoch
  else s

/-- The head is removed: the last persisted fence, the notice and the loss, in this order (R39). -/
def State.removeHead (s : State) (e : Epoch) (rest : List Epoch) : State :=
  (({ s with tracker := { s.tracker with epochs := rest, lastPersisted := e.fence } }).notePersisted
    e).noteLossy e

/-- Removals repeat while the head is CLOSED with a count of 0 (R39). -/
def removeDrained : List Epoch → State → State
  | [], s => s
  | e :: rest, s =>
    if e.state = .closed ∧ e.outstanding = 0 then removeDrained rest (s.removeHead e rest) else s

/-- The head epoch is judged for removal; when removals stop, the remaining head's QUEUED slots are
admitted (R38, R39). -/
def State.judgeRemoval (s : State) : State :=
  match s.tracker.epochs with
  | [] => s
  | e :: _ =>
    if e.state = .closed ∧ e.outstanding = 0 then
      (removeDrained s.tracker.epochs s).admitHead
    else s

/-- The entries with the entry of a fence number changed. -/
def changeEpoch (fence : Nat) (f : Epoch → Epoch) (epochs : List Epoch) : List Epoch :=
  epochs.map (fun e => if e.fence = fence then f e else e)

/-- A slot is opened in an epoch: plus one (R35). -/
def State.epochUp (s : State) (fence : Nat) : State :=
  { s with tracker := { s.tracker with
      epochs := changeEpoch fence (fun e => { e with outstanding := e.outstanding + 1 })
        s.tracker.epochs } }

/-- A slot of an epoch has become FREE or STRANDED: minus one, and the lossy flag for a stranded slot
(R35, R36); then the head is judged (R39). -/
def State.epochDown (s : State) (fence : Nat) (stranded : Bool) : State :=
  ({ s with tracker := { s.tracker with
      epochs := changeEpoch fence
        (fun e => { e with outstanding := e.outstanding - 1, lossy := e.lossy || stranded })
        s.tracker.epochs } }).judgeRemoval

end Sys2Proof.Machine
end

