-- ==== Sys2Proof/Machine/Flags.lean ====
section
/-!
DEFINITION. The live conditions and the ALERT line, computed from the state (R144, R157, R159).
-/

namespace Sys2Proof.Machine

/-- The slot of a page that a write of the current epoch may merge into (R8). -/
def State.mergeEligible? (s : State) (page : Nat) : Option SlotId :=
  (s.slotList page).find? (fun i =>
    ((s.slot i).state == .opened || (s.slot i).state == .held || (s.slot i).state == .filling
      || (s.slot i).state == .queued) && (s.slot i).epoch == s.currentEpoch)

/-- Whether the memory lane head holds a write that waits for a slot: it needs a new one and none is
FREE (R14); DEDUCED, log entry 22. -/
def State.memLaneStalled (s : State) : Bool :=
  match s.link.head with
  | some w => (s.mergeEligible? (w.address / 256)).isNone && s.freeCount == 0
  | none => false

/-- Whether some bank from 0 to B - 1 has a free spare count below 4 (R97, R157). Before start-up has derived the
lists they are empty and each count is 0 (R81, R84, R158); during the start-up of a RESTART DEDUCED, log entry 20. -/
def State.sparesLow (s : State) : Bool := s.banksInUse.any (fun b => decide (s.freeSpareCount b < 4))

/-- Whether a live condition holds (R157). A latched condition is not judged here. -/
def State.holds (s : State) : Condition → Bool
  | .memLaneStalled => s.memLaneStalled
  | .epochListFull => decide (8 ≤ s.tracker.epochs.length)
  | .sparesLow => s.sparesLow
  | .strandedPresent => decide (0 < s.strandedCount)
  | .lostPresent => !s.remap.lost.isEmpty
  | .scrubActive => s.region.walker.isSome
  | .previousUnclean =>
    s.control.previous.outcome == .unclean || s.control.previous.outcome == .truncated
  | .protectedWrite => false
  | .tagClash => false
  | .linkOverrun => false
  | .mediaError => false
  | .remapped => false
  | .strandedNew => false
  | .lossyEpoch => false
  | .incidentOverflow => false
  | .rangeAbandoned => false
  | .metadataFault => false
  | .bankTimeout => false

/-- The live conditions, in bit order (R144). -/
def liveConditions : List Condition :=
  [.memLaneStalled, .epochListFull, .sparesLow, .strandedPresent, .lostPresent, .scrubActive,
   .previousUnclean]

/-- The live set as it stands (R157). -/
def State.liveSet (s : State) : BitVec 32 :=
  liveConditions.foldl (fun set c => if s.holds c then set ||| c.mask else set) 0#32

/-- Whether ALERT is asserted: a condition in ALERT_MASK is latched or holds, and RESET_N is not
asserted (R159, R181). -/
def State.alertLevel (s : State) : Bool :=
  !s.pins.resetAsserted && ((s.engine.latched ||| s.liveSet) &&& s.engine.profile.alertMask != 0#32)

/-- ALERT is judged again after a step (R159); DESIGN CHOICE, log entry 24. -/
def State.judgeAlert (s : State) : State := { s with pins := { s.pins with alert := s.alertLevel } }

end Sys2Proof.Machine
end

