-- ==== Sys2Proof/Machine/Operands.lean ====
section
/-!
DEFINITION. The layouts of section 8.6: how a host packet's bytes are read, and the bytes of the packets
and directive payloads the bridge sends.
-/

namespace Sys2Proof.Machine

/-! ## Host packets (R142) -/

/-- The byte of a packet at an offset of its header; beyond the packet's end the byte is a free value;
log entry 3. -/
def headerByte (packet : List Byte) (offset : Nat) : Byte :=
  packet.getD offset (Config.absentPacketByte packet offset)

/-- The tag: the upper two bits of its byte are ignored (R142). -/
def packetTag (packet : List Byte) : Nat := (headerByte packet 1).toNat % 64

/-- The 36-bit address of bytes 4 to 8; the upper four bits of byte 8 are ignored (R142). -/
def packetAddress (packet : List Byte) : Nat :=
  leNat [headerByte packet 4, headerByte packet 5, headerByte packet 6, headerByte packet 7,
    headerByte packet 8] % 2 ^ 36

/-- A request as it stands in its lane, or a packet of no known kind (R131). -/
inductive HostPacket where
  | memory (request : MemRequest)
  | directive (request : DirRequest)
  | unknownKind
deriving DecidableEq, Repr

/-- A host packet read by the layouts of R142. -/
def parsePacket (packet : List Byte) : HostPacket :=
  if headerByte packet 0 = 0x01#8 then
    .memory (.read { tag := packetTag packet, length := (headerByte packet 2).toNat,
                     address := packetAddress packet, extra := packet.length - 12 })
  else if headerByte packet 0 = 0x02#8 then
    .memory (.write { tag := packetTag packet, length := (headerByte packet 2).toNat,
                      fence := (headerByte packet 3).getLsbD 0, notify := (headerByte packet 3).getLsbD 1,
                      address := packetAddress packet, data := packet.drop 12 })
  else if headerByte packet 0 = 0x03#8 then
    .directive { tag := packetTag packet, code := headerByte packet 2,
                 payloadLength := (headerByte packet 3).toNat, payload := packet.drop 4 }
  else .unknownKind

/-! ## Directives (R143) -/

/-- The directives by name. -/
inductive Directive where
  | flush
  | rangeFirst
  | rangeLast
  | rangeApply
  | rangeScrub
  | regionList
  | release
  | remapQuery
  | restart
  | reformat
  | statusFetch
  | incidentTake
  | profile
deriving DecidableEq, Repr

/-- The directive a code names (R143). -/
def directiveOf? (code : Byte) : Option Directive :=
  if code = 0x01#8 then some .flush
  else if code = 0x10#8 then some .rangeFirst
  else if code = 0x11#8 then some .rangeLast
  else if code = 0x12#8 then some .rangeApply
  else if code = 0x13#8 then some .rangeScrub
  else if code = 0x14#8 then some .regionList
  else if code = 0x20#8 then some .release
  else if code = 0x21#8 then some .remapQuery
  else if code = 0x30#8 then some .restart
  else if code = 0x31#8 then some .reformat
  else if code = 0x40#8 then some .statusFetch
  else if code = 0x41#8 then some .incidentTake
  else if code = 0x42#8 then some .profile
  else none

/-- The length of a directive's request payload (R143, R145). -/
def Directive.payloadLength : Directive → Nat
  | .rangeFirst => 4
  | .rangeLast => 4
  | .rangeApply => 1
  | .regionList => 1
  | .release => 1
  | .remapQuery => 4
  | .statusFetch => 1
  | .profile => 12
  | .flush => 0
  | .rangeScrub => 0
  | .restart => 0
  | .reformat => 0
  | .incidentTake => 0

/-- The number in the payload bytes from an offset on. -/
def DirRequest.field (d : DirRequest) (offset width : Nat) : Nat :=
  leNat ((d.payload.drop offset).take width)

/-! ## Codes -/

/-- The code of a result (R142). -/
def Result.code : Result → Nat
  | .ok => 0
  | .done => 0
  | .started => 1
  | .lost => 2
  | .mediaError => 3
  | .malformed => 4
  | .misaligned => 5
  | .outOfRange => 6
  | .protectedPage => 7
  | .starting => 8
  | .halted => 9
  | .busy => 10
  | .full => 11
  | .sequence => 12
  | .badArgument => 13
  | .overlap => 14
  | .noMatch => 15
  | .refusedFixed => 16
  | .unknown => 17
  | .failed => 18

/-- The code of a slot state in the remap report (R143). -/
def SlotState.code : SlotState → Nat
  | .free => 0
  | .opened => 1
  | .held => 2
  | .filling => 3
  | .queued => 4
  | .programming => 5
  | .suspended => 6
  | .recording => 7
  | .stranded => 8

/-- The code of a bridge state in the status record (R146). -/
def BridgeState.code : BridgeState → Nat
  | .starting => 0
  | .running => 1
  | .degraded => 2
  | .draining => 3
  | .dormant => 4
  | .faulted => 5

/-- The code of a fault reason in the status record (R146). -/
def FaultReason.code : FaultReason → Nat
  | .none => 0
  | .geometry => 1
  | .metadataCorrupt => 2
  | .arrayUnresponsive => 3

/-- The code of a previous-session outcome in the status record (R146). -/
def PreviousOutcome.code : PreviousOutcome → Nat
  | .fresh => 0
  | .clean => 1
  | .truncated => 2
  | .unclean => 3

/-- The code of an incident kind (R147). -/
def IncidentKind.code : IncidentKind → Nat
  | .remapped => 1
  | .stranded => 2
  | .fillUnreadable => 3
  | .readFailed => 4
  | .protectedWrite => 5
  | .tagClash => 6
  | .bankTimeout => 7
  | .metadataFault => 8
  | .lossyEpoch => 9

/-- The code of a slot's origin in an incident (R147). -/
def Origin.code : Origin → Nat
  | .host => 0
  | .scrub => 1

/-- The code of a region's attribute; 0 is NONE (R143). -/
def attrCode : Option RegionAttr → Nat
  | none => 0
  | some .guarded => 1
  | some .fixed => 2

/-- The number of a lane (R142). -/
def Lane.code : Lane → Nat
  | .memory => 0
  | .directive => 1

/-! ## Directive payloads (R143 to R147) -/

/-- A region entry of 12 bytes (R143). -/
def regionEntryBytes (index : Nat) (attr : Option RegionAttr) (first last : Nat) : List Byte :=
  leBytes 1 index ++ leBytes 1 (attrCode attr) ++ leBytes 2 0 ++ leBytes 4 first ++ leBytes 4 last

/-- The entries of the region table from an index on, in region-index order. -/
def regionEntries : Nat → List Region → List Byte
  | _, [] => []
  | k, r :: rest => regionEntryBytes k (some r.attr) r.first r.last ++ regionEntries (k + 1) rest

/-- The payload of REGION_LIST from a start index (R123, R143). -/
def regionListBytes (start : Nat) (table : List Region) : List Byte :=
  leBytes 1 table.length ++ leBytes 1 ((table.drop start).take 4).length ++ leBytes 2 0
    ++ regionEntries start ((table.drop start).take 4)

/-- The remap report of a page (R96, R143). -/
def State.remapReport (s : State) (page : Nat) : List Byte :=
  (match mapSpare? s.remap.table page with | some i => leBytes 1 i | none => [0xFF#8])
    ++ leBytes 1 (if s.isLost page then 1 else 0)
    ++ leBytes 1 (s.freeSpareCount (s.bankOfPage page))
    ++ leBytes 1 (s.slotList page).length
    ++ (s.slotList page).flatMap (fun i => leBytes 1 i.val ++ leBytes 1 (s.slot i).state.code)

/-- The bit of a present set, if the field is there (R147). -/
def presentBit (bit : Nat) (field : Option Nat) : Nat := if field.isSome then 2 ^ bit else 0

/-- The present set of an incident (R147, R160). Whether the spare new of REMAPPED and the tag of
PROTECTED_WRITE, which stand in the operation field, set bits 5 and 3 too is a free value; log entry 6. -/
def Incident.presentSet (i : Incident) : Nat :=
  presentBit 0 i.page + presentBit 1 i.bank + presentBit 2 i.slot
    + (if i.kind = .protectedWrite then (if Config.protectedSetsTagBit then 2 ^ 3 else 0)
       else presentBit 3 i.tag)
    + presentBit 4 i.spareOld
    + (if i.kind = .remapped then (if Config.remappedSetsSpareNewBit then 2 ^ 5 else 0) else 0)
    + presentBit 6 i.region + presentBit 7 i.metadataPage + presentBit 8 i.operation
    + presentBit 9 i.index

/-- An incident record of 20 bytes (R147). -/
def Incident.bytes (i : Incident) : List Byte :=
  leBytes 1 i.kind.code ++ leBytes 2 i.presentSet ++ leBytes 1 0 ++ leBytes 4 (i.page.getD 0)
    ++ leBytes 4 (i.index.getD 0) ++ leBytes 2 i.fence ++ leBytes 2 (i.operation.getD 0)
    ++ leBytes 1 (i.bank.getD 0) ++ leBytes 1 (i.slot.getD 0)
    ++ leBytes 1 (match i.region with | some r => r | none => i.tag.getD 0)
    ++ leBytes 1 (match i.metadataPage with | some k => k | none => i.spareOld.getD 0)

/-- The payload of INCIDENT_TAKE (R143, R161). -/
def incidentTakeBytes (taken : List Incident) : List Byte :=
  leBytes 1 taken.length ++ leBytes 3 0 ++ taken.flatMap Incident.bytes

/-- The free spare count of a bank as the status record gives it: 0 for a bank at or above B, and for
every bank before the free spare lists have been derived (R158). -/
def State.reportedSpares (s : State) (b : BankId) : Nat :=
  if decide (b.val < s.bankCount) && s.remap.derived then s.freeSpareCount b else 0

/-- The status record of 40 bytes, with the latched and live sets it reports (R146, R158). -/
def State.statusRecord (s : State) (live : BitVec 32) : List Byte :=
  leBytes 1 s.control.state.code ++ leBytes 1 s.control.faultReason.code
    ++ leBytes 1 s.control.previous.outcome.code ++ leBytes 1 s.tracker.epochs.length
    ++ leBytes 4 s.control.session.toNat ++ leBytes 2 s.tracker.lastPersisted
    ++ leBytes 2 s.tracker.fenceCounter ++ leBytes 1 s.freeCount ++ leBytes 1 s.strandedCount
    ++ leBytes 1 s.remap.lost.length ++ leBytes 1 s.region.table.length
    ++ leBytes 1 s.engine.incidents.length ++ leBytes 1 s.bankCount
    ++ leBytes 2 s.control.previous.lastPersisted
    ++ allBanks.flatMap (fun b => leBytes 1 (s.reportedSpares b))
    ++ leBytes 4 s.engine.latched.toNat ++ leBytes 4 live.toNat
    ++ leBytes 1 s.control.previous.stranded ++ leBytes 3 0

/-! ## The packets the bridge sends (R142) -/

/-- The byte that carries a tag; its upper two bits are ignored by the host (R142); log entry 5. -/
def tagByte (high : BitVec 2) (tag : Nat) : Byte := high ++ BitVec.ofNat 6 tag

/-- The bytes of a packet the bridge sends (R142). -/
def Packet.bytes (high : BitVec 2) : Packet → List Byte
  | .readData tag result data =>
    [0x81#8, tagByte high tag] ++ leBytes 1 result.code ++ leBytes 1 data.length ++ data
  | .writeDone tag result fence =>
    [0x82#8, tagByte high tag] ++ leBytes 1 result.code ++ leBytes 1 0 ++ leBytes 2 fence
  | .directiveDone tag result payload =>
    [0x83#8, tagByte high tag] ++ leBytes 1 result.code ++ leBytes 1 payload.length ++ payload
  | .persisted fence lossy =>
    [0x91#8, 0x00#8] ++ leBytes 2 fence ++ leBytes 1 (if lossy then 1 else 0)
  | .rangeDone abandoned zeroed skipped =>
    [0x92#8] ++ leBytes 1 (if abandoned then 1 else 0) ++ leBytes 2 0 ++ leBytes 4 zeroed
      ++ leBytes 4 skipped
  | .credit lane full count =>
    [0x93#8] ++ leBytes 1 lane.code ++ leBytes 1 (if full then 1 else 0) ++ leBytes 1 count

end Sys2Proof.Machine
end

