-- ==== Sys2Proof/Machine/Absorb.lean ====
section
/-!
DEFINITION. The Absorb Buffer: closure, the dispatch gate, re-examination, opening, merging, freeing, and
the fence that closes an epoch (chapters 1 and 2).
-/

namespace Sys2Proof.Machine

/-! ## Closure -/

/-- A slot enters QUEUED and is handed to the dispatch gate: it joins its bank's program queue at once if
its epoch is the head, and waits otherwise (R25, R37). -/
def State.enterQueued (s : State) (i : SlotId) : State :=
  let queued := s.setSlot i { s.slot i with state := .queued }
  if s.headFence? = some (s.slot i).epoch then queued.joinProgram i else queued

/-- The fill job of a slot names the page's current location (R22). -/
def State.requestFill (s : State) (i : SlotId) : State :=
  (s.setSlot i { s.slot i with state := .filling }).joinRead (s.bankOfPage (s.slot i).page)
    { index := s.targetIndex (s.slot i).page (s.currentTarget (s.slot i).page), owner := .fill i,
      retried := false }

/-- Whether any older slot of the page is in a state other than STRANDED (R19, R20). -/
def State.olderOnTheWay (s : State) (i : SlotId) : Bool :=
  (s.olderSlots i).any (fun j => (s.slot j).state != .stranded)

/-- The bytes a closing slot's missing offsets take without an array read: from the newest older slot,
which is STRANDED, or zeros when the page is lost (R19, cases 2 and 3). -/
def State.closureBytes? (s : State) (i : SlotId) : Option (List Byte) :=
  match (s.olderSlots i).getLast? with
  | some j => some (s.slot j).image.toBytes
  | none => if s.isLost (s.slot i).page then some zeroPage else none

/-- The closure decision of a slot, by a written set that is full (R20) or not (R19). -/
def State.closureDecision (s : State) (i : SlotId) : State :=
  if s.olderOnTheWay i then s.setSlot i { s.slot i with state := .held }
  else if (s.slot i).image.full then s.enterQueued i
  else
    match s.closureBytes? i with
    | some data => (s.setSlot i { s.slot i with image := (s.slot i).image.fill data }).enterQueued i
    | none => s.requestFill i

/-- A slot closes: its close timer stops and the closure decision is made (R15, R19, R20). -/
def State.closeSlot (s : State) (i : SlotId) : State :=
  (s.setSlot i { s.slot i with closeTimer := .stopped }).closureDecision i

/-- The OPEN slots. -/
def State.openSlots (s : State) : List SlotId := allSlots.filter (fun i => (s.slot i).state == .opened)

/-- OPEN slots close one after another in ascending order of age (R18). -/
def State.closeInAgeOrder (s : State) (slots : List SlotId) : State :=
  (sortBy (fun i => (s.slot i).age) slots).foldl State.closeSlot s

/-- Closure under LOW_WATER: while the FREE count is below it, every OPEN slot closes, oldest last-merge
time first and smaller age first among equals (R17). Closing frees no slot. -/
def State.lowWaterClosure (s : State) : State :=
  if s.freeCount < s.engine.profile.lowWater then
    (sortBy (fun i => (s.slot i).lastMerge) (sortBy (fun i => (s.slot i).age) s.openSlots)).foldl
      State.closeSlot s
  else s

/-- A HELD slot is judged again; a slot in any other state is left as it is (R21). -/
def State.reexamineSlot (s : State) (i : SlotId) : State :=
  if (s.slot i).state = .held then s.closureDecision i else s

/-- Every HELD slot of a page is re-examined, in ascending order of age (R21). -/
def State.reexamine (s : State) (page : Nat) : State :=
  (s.slotList page).foldl State.reexamineSlot s

/-! ## Absorbing a write -/

/-- A close timer started now: it expires after CLOSE_AGE units of 10 microseconds, or never (R15). -/
def State.freshCloseTimer (s : State) : Timer :=
  if s.engine.profile.closeAge = 0 then .stopped
  else .running (s.now + 10 * s.engine.profile.closeAge)

/-- A write merged into a slot: its bytes replace those at their offsets and the present moment is the time
of its last merge; an OPEN slot restarts its close timer and closes if its written set has become full (R2, R9,
R16). -/
def State.mergeInto (s : State) (i : SlotId) (offset : Nat) (data : List Byte) : State :=
  let merged := { s.slot i with image := (s.slot i).image.merge offset data, lastMerge := s.now }
  if (s.slot i).state = .opened then
    let restarted := s.setSlot i { merged with closeTimer := s.freshCloseTimer }
    if merged.image.full then restarted.closeSlot i else restarted
  else s.setSlot i merged

/-- The fields a slot is opened with (R11). -/
def State.openedSlot (s : State) (page offset : Nat) (data : List Byte) (origin : Origin) : Slot :=
  { state := .opened, page := page, epoch := s.currentEpoch, image := Image.blank.merge offset data,
    age := s.absorb.opened + 1, lastMerge := s.now, closeTimer := s.freshCloseTimer, attempts := 0,
    suspends := 0, target := none, origin := origin }

/-- The lowest-numbered FREE slot (R11, R13). -/
def State.lowestFree? (s : State) : Option SlotId :=
  allSlots.find? (fun i => (s.slot i).state == .free)

/-- A slot is opened: its fields are set, it joins the end of its page's slot list, the opening counter
advances and its epoch counts it (R3, R5, R11, R35). -/
def State.placeSlot (s : State) (i : SlotId) (slot : Slot) : State :=
  ((({ s with absorb := { s.absorb with opened := s.absorb.opened + 1 } }).setSlot i slot).changeDir
    slot.page (fun e => { e with slots := e.slots ++ [i] })).epochUp slot.epoch

/-- A slot is opened for a write. A full written set takes the state closure gives it (R12); otherwise the
slot is OPEN. Then closure under LOW_WATER is judged (R17). -/
def State.openSlot (s : State) (i : SlotId) (page offset : Nat) (data : List Byte) (origin : Origin) :
    State :=
  let placed := s.placeSlot i (s.openedSlot page offset data origin)
  if (s.openedSlot page offset data origin).image.full then
    (placed.closeSlot i).lowWaterClosure
  else placed.lowWaterClosure

/-- A write absorbed: merged into the merge-eligible slot of its page, or given the lowest FREE slot
(R8). Without either it is not absorbed. -/
def State.absorbWrite (s : State) (page offset : Nat) (data : List Byte) (origin : Origin) : State :=
  match s.mergeEligible? page with
  | some i => s.mergeInto i offset data
  | none =>
    match s.lowestFree? with
    | some i => s.openSlot i page offset data origin
    | none => s

/-! ## Slots that become FREE -/

/-- The slots that become FREE together: a slot and every older slot of its page (R93). -/
def State.freedWith (s : State) (i : SlotId) : List SlotId := s.olderSlots i ++ [i]

/-- A slot becomes FREE with every older slot of its page: they leave the page's slot list, the page's
HELD slots are re-examined, and the page's bank chooses again (R26, R50, R93);
order a DESIGN CHOICE, log entry 28. -/
def State.freeSlot (s : State) (i : SlotId) : State :=
  let page := (s.slot i).page
  let freed := s.freedWith i
  let removed := (freed.foldl (fun t j => t.setSlot j Slot.unused) s).changeDir page
    (fun e => { e with slots := e.slots.filter (fun j => !freed.contains j) })
  (removed.reexamine page).arbitrate (s.bankOfPage page)

/-- A slot becomes FREE and is reported to the Epoch Tracker (R26, R35). -/
def State.freeReported (s : State) (i : SlotId) : State :=
  (s.freeSlot i).epochDown (s.slot i).epoch false

/-! ## Fences -/

/-- The OPEN entry becomes CLOSED with the notify flag given, and the fence counter becomes its number; a
new OPEN entry is appended (R32, steps 1 to 4). -/
def EpochTracker.closeCurrent (t : EpochTracker) (notify : Bool) : EpochTracker :=
  { t with
    epochs := t.epochs.map (fun e =>
        if e.state = .opened then { e with state := .closed, notify := notify } else e)
      ++ [{ fence := nextFence (nextFence t.fenceCounter), state := .opened, outstanding := 0,
            lossy := false, notify := false }],
    fenceCounter := nextFence t.fenceCounter }

/-- A fence is taken: the epoch closes, its OPEN slots close in age order, the response carrying the
assigned number is generated, and the head is judged for removal (R32). -/
def State.takeFence (s : State) (notify : Bool) (respond : Nat → State → State) : State :=
  let closed := { s with tracker := s.tracker.closeCurrent notify }
  let slots := closed.openSlots.filter (fun i => (s.slot i).epoch == s.currentEpoch)
  (respond s.currentEpoch (closed.closeInAgeOrder slots)).judgeRemoval

end Sys2Proof.Machine
end

