-- ==== Sys2Proof/Machine/Reads.lean ====
section
/-!
DEFINITION. The Read Path: the checks and the binding of a read, pins, and the ends of a read (chapter 4).
-/

namespace Sys2Proof.Machine

/-! ## Binding -/

/-- The byte of the newest slot of a page that holds the offset (R71). The images of PROGRAMMING,
SUSPENDED, RECORDING and STRANDED slots are full, so one rule serves every state. -/
def State.slotByte? (s : State) (page offset : Nat) : Option Byte :=
  (s.slotList page).reverse.findSome? (fun i => (s.slot i).image.byte offset)

/-- The slot bytes of a run of offsets, `none` where the source is the array (R71, R72). -/
def State.boundBytes (s : State) (page : Nat) : Nat → Nat → List (Option Byte)
  | _, 0 => []
  | first, length + 1 => s.slotByte? page first :: s.boundBytes page (first + 1) length

/-- The bytes of a read whose every byte has its source (R73). -/
def sourcedBytes (data : List (Option Byte)) : List Byte := data.map (·.getD 0x00#8)

/-- The array bytes laid into a read's data at its array offsets (R77). -/
def completeBytes (page : List Byte) : Nat → List (Option Byte) → List Byte
  | _, [] => []
  | offset, c :: rest => c.getD (page.getD offset 0x00#8) :: completeBytes page (offset + 1) rest

/-! ## Pins and records -/

/-- A read of the page is pinned: its directory entry is created if there is none (R75, R76). -/
def State.pin (s : State) (page : Nat) : State :=
  s.changeDir page (fun e => { e with pins := e.pins + 1 })

/-- A pin is released; when the count falls to 0 the page's bank chooses again (R50, R76). -/
def State.unpin (s : State) (page : Nat) : State :=
  (s.changeDir page (fun e => { e with pins := e.pins - 1 })).arbitrate (s.bankOfPage page)

/-- A record is removed and its pin released (R76). -/
def State.dropRecord (s : State) (r : ReadRecord) : State :=
  ({ s with reads := s.reads.filter (fun x => x.tag != r.tag) }).unpin r.page

/-- The record of a tag (R68). -/
def State.record? (s : State) (tag : Nat) : Option ReadRecord := s.reads.find? (fun r => r.tag == tag)

/-- A read is answered with a result and no data (R69). -/
def State.answerRead (s : State) (tag : Nat) (result : Result) : State :=
  s.respond tag (.readData tag result [])

/-- A record, its pin and its host read job are made (R75). -/
def State.makeRecord (s : State) (tag page first length : Nat) (data : List (Option Byte)) : State :=
  let index := s.targetIndex page (s.currentTarget page)
  let record : ReadRecord :=
    { tag := tag, page := page, first := first, length := length, data := data,
      bank := s.bankOfPage page, index := index }
  (({ s with reads := s.reads ++ [record] }).pin page).joinRead (s.bankOfPage page)
    { index := index, owner := .host tag, retried := false }

/-- A read that passed its checks is bound: answered from slots, answered LOST, or given a record (R71
to R75). -/
def State.bindRead (s : State) (r : ReadRequest) : State :=
  let page := r.address / 256
  let data := s.boundBytes page (r.address % 256) r.length
  if data.all Option.isSome then s.respond r.tag (.readData r.tag .ok (sourcedBytes data))
  else if s.isLost page then s.answerRead r.tag .lost
  else s.makeRecord r.tag page (r.address % 256) r.length data

/-- The checks of a read, in their order (R69). -/
def State.judgeRead (s : State) (r : ReadRequest) : State :=
  if r.length = 0 ∨ 64 < r.length ∨ r.extra ≠ 0 then s.answerRead r.tag .malformed
  else if 64 < r.address % 64 + r.length then s.answerRead r.tag .misaligned
  else if s.control.state = .starting then s.answerRead r.tag .starting
  else if s.control.state = .dormant ∨ s.control.state = .faulted then s.answerRead r.tag .halted
  else if s.capacityBytes ≤ r.address then s.answerRead r.tag .outOfRange
  else s.bindRead r

/-! ## Completion -/

/-- The array bytes of a host read arrive (R77). -/
def State.readComplete (s : State) (tag : Nat) (page : List Byte) : State :=
  match s.record? tag with
  | some r => (s.respond tag (.readData tag .ok (completeBytes page r.first r.data))).dropRecord r
  | none => s

/-- A host read failed after its retry, by READ_FAIL or by a timeout (R78). -/
def State.readFailed (s : State) (tag : Nat) (timeout : Bool) : State :=
  match s.record? tag with
  | some r =>
    let answered := (s.answerRead tag .mediaError).latch .mediaError
    let reported :=
      if timeout then answered
      else answered.raise { kind := .readFailed, page := some r.page, bank := some r.bank.val,
                            tag := some tag, operation := some 1 }
    reported.dropRecord r
  | none => s

/-- Every record is ended with one result, in ascending order of tag (R79, R80). -/
def State.endRecords (s : State) (result : Result) : State :=
  (sortBy ReadRecord.tag s.reads).foldl (fun t r => (t.answerRead r.tag result).dropRecord r) s

/-! ## Fills (R23, R24) -/

/-- A fill read's bytes arrive: they fill the offsets outside the written set, and the slot enters
QUEUED (R23). -/
def State.fillComplete (s : State) (i : SlotId) (page : List Byte) : State :=
  if (s.slot i).state = .filling then
    (s.setSlot i { s.slot i with image := (s.slot i).image.fill page }).enterQueued i
  else s

/-- A fill read failed after its retry: it supplies zeros, and the incident and condition are raised
(R24). -/
def State.fillFailed (s : State) (i : SlotId) : State :=
  if (s.slot i).state = .filling then
    ((s.fillComplete i zeroPage).raise
      { kind := .fillUnreadable, page := some (s.slot i).page,
        bank := some (s.bankOfPage (s.slot i).page).val, slot := some i.val,
        operation := some (s.slot i).origin.code }).latch .mediaError
  else s

end Sys2Proof.Machine
end

