-- ==== Sys2Proof/Machine/Remap.lean ====
section
/-!
DEFINITION. The Remap Unit: handoffs, claims, retirements, stranding, the requests a programmed slot makes,
and the outcome of every request's answer (chapter 5, with R122 for the region table's requests).
-/

namespace Sys2Proof.Machine

/-! ## Directives that end -/

/-- The DIRECTIVE_DONE of a directive is generated; the engine is free again (R133, R148). -/
def State.answerDirective (s : State) (tag : Nat) (result : Result) (payload : List Byte) : State :=
  ({ s with engine := { s.engine with current := .absent } }).respond tag
    (.directiveDone tag result payload)

/-! ## Spares -/

/-- The state with a bank's free spare list replaced. -/
def State.setFreeSpares (s : State) (b : BankId) (spares : List FreeSpare) : State :=
  { s with remap := { s.remap with free := s.remap.free.set b.val spares } }

/-- A spare joins its bank's retired set (R81). -/
def State.addRetired (s : State) (b : BankId) (spare : Nat) : State :=
  { s with remap := { s.remap with
      retired := s.remap.retired.set b.val (insertNat spare s.remap.retired[b.val]) } }

/-- A spare leaves its bank's free spare list; a claim on it ends with its entry. -/
def State.dropFreeSpare (s : State) (b : BankId) (spare : Nat) : State :=
  s.setFreeSpares b (s.remap.free[b.val].filter (fun e => e.index != spare))

/-- A claim on a spare is set or ended; the spare stays in the free spare list (R85, R92). -/
def State.setClaim (s : State) (b : BankId) (spare : Nat) (claim : Option SlotId) : State :=
  s.setFreeSpares b (s.remap.free[b.val].map
    (fun e => if e.index = spare then { e with claim := claim } else e))

/-- Whether a spare of a bank carries a slot's claim (R81). -/
def State.claimedBy (s : State) (b : BankId) (spare : Nat) (i : SlotId) : Bool :=
  s.remap.free[b.val].any (fun e => e.index == spare && e.claim == some i)

/-- The lowest-numbered spare of a bank that carries no claim (R85). -/
def State.unclaimedSpare? (s : State) (b : BankId) : Option Nat :=
  (s.remap.free[b.val].find? (fun e => e.claim.isNone)).map FreeSpare.index

/-! ## Stranding and the handoff -/

/-- A slot is stranded: it keeps its image, its epoch is told, the incident and condition are raised, and
the page's HELD slots are re-examined (R27, R87); order a DESIGN CHOICE, log entry 28. -/
def State.strandSlot (s : State) (i : SlotId) (spareOld : Option Nat) : State :=
  let slot := s.slot i
  ((((((s.setSlot i { slot with state := .stranded }).epochDown slot.epoch true).raise
      { kind := .stranded, page := some slot.page, bank := some (s.bankOfPage slot.page).val,
        slot := some i.val, spareOld := spareOld, operation := some slot.origin.code }).latch
      .strandedNew).reexamine slot.page).arbitrate (s.bankOfPage slot.page))

/-- The spare index of a target, if it is a spare. -/
def Target.spare? : Target → Option Nat
  | .own => none
  | .spare k => some k

/-- Step 1 of a handoff: a failed target that carries the slot's claim is retired and its retirement
goes unrecorded for now (R85, R86). -/
def State.retireFailed (s : State) (b : BankId) (i : SlotId) : State :=
  match (s.slot i).target.bind Target.spare? with
  | none => s
  | some k =>
    if s.claimedBy b k i then
      let retired := (s.dropFreeSpare b k).addRetired b k
      { retired with remap := { retired.remap with
          unrecorded := retired.remap.unrecorded ++ [(b.val, k)] } }
    else s

/-- A slot whose attempts on its target are exhausted is handed over: it is given the next unclaimed
spare and placed at the front of the program queue, or stranded (R57, R85). -/
def State.handoff (s : State) (b : BankId) (i : SlotId) : State :=
  let failedSpare := (s.slot i).target.bind Target.spare?
  let retired := s.retireFailed b i
  if s.control.state = .degraded then retired.strandSlot i failedSpare
  else
    match retired.unclaimedSpare? b with
    | some k =>
      ((retired.setClaim b k (some i)).setSlot i
        { s.slot i with target := some (.spare k), attempts := 0 }).pushFront b i
    | none => retired.strandSlot i failedSpare

/-! ## Requests outstanding -/

/-- A fresh request of a kind. -/
def Request.of (kind : RequestKind) : Request := { kind := kind, taken := 0, void := false }

/-- Every request not yet answered: held, in the list, or carried by the program in hand. -/
def State.outstandingRequests (s : State) : List Request :=
  s.remap.held ++ s.writer.list
    ++ (match s.writer.program with
        | some p => p.carried.map Carried.request
        | none => [])

/-- Whether a request is an UNLOST request of a slot that still counts. -/
def Request.isUnlostOf (r : Request) (i : SlotId) : Bool :=
  !r.void && (match r.kind with | .unlost (some j) _ => j == i | _ => false)

/-- Whether a request is a MAP request of a slot. -/
def Request.isMapOf (r : Request) (i : SlotId) : Bool :=
  match r.kind with
  | .map j _ _ _ _ => j == i
  | _ => false

/-- The request with its answer made to change nothing, if it is an UNLOST request of the slot (R91). -/
def Request.voidUnlost (i : SlotId) (r : Request) : Request :=
  if r.isUnlostOf i then { r with void := true } else r

/-- The UNLOST request made for a slot whose MAP request failed is withdrawn while the Remap Unit holds
it, and otherwise its answer changes nothing (R91). -/
def State.withdrawUnlost (s : State) (i : SlotId) : State :=
  { s with
    remap := { s.remap with held := s.remap.held.filter (fun r => !r.isUnlostOf i) },
    writer := { s.writer with
      list := s.writer.list.map (Request.voidUnlost i),
      program := s.writer.program.map (fun p => { p with
        carried := p.carried.map (fun c => { c with request := c.request.voidUnlost i }) }) } }

/-! ## Answers: failed and refused -/

/-- A page leaves the lost set (R83). -/
def State.leaveLost (s : State) (page : Nat) : State :=
  { s with remap := { s.remap with lost := s.remap.lost.filter (fun p => p != page) } }

/-- The slot of an UNLOST request becomes FREE if it is in RECORDING for the page and has no MAP request
outstanding (R90, R91). -/
def State.freeRecorded (s : State) (i : SlotId) (page : Nat) : State :=
  if (s.slot i).state = .recording ∧ (s.slot i).page = page
      ∧ s.outstandingRequests.any (fun r => r.isMapOf i) = false then
    s.freeReported i
  else s

/-- A MAP request that failed or was refused: the claim ends, the spare is retired if it failed and stays
free if it was refused, and the slot is stranded (R91, R92). -/
def State.mapNotPersisted (s : State) (refused : Bool) (i : SlotId) (bank spare : Nat) : State :=
  let b : BankId := Fin.ofNat 8 bank
  let unclaimed :=
    if refused then s.setClaim b spare none else (s.dropFreeSpare b spare).addRetired b spare
  (unclaimed.withdrawUnlost i).strandSlot i (some spare)

/-- The directive that holds the engine is answered FAILED (R95, R122). -/
def State.directiveFailed (s : State) : State :=
  match s.engine.current with
  | .release tag _ _ _ => s.answerDirective tag .failed []
  | .rangeApply tag => s.answerDirective tag .failed []
  | .absent => s

/-- The OPEN_SESSION request of start-up is answered (R167). -/
def State.noteOpenSession (s : State) (persisted : Bool) : State :=
  match s.control.startup with
  | some up =>
    match up.stage with
    | .openSession _ =>
      { s with control := { s.control with
          startup := some { up with stage := .openSession (some persisted) } } }
    | _ => s
  | none => s

/-- The SHUTDOWN of a drain is answered (R171). -/
def State.noteShutdown (s : State) : State :=
  { s with control := { s.control with
      drain := s.control.drain.map (fun d => { d with shutdown := .answered }) } }

/-- The outcome of a request answered failed or refused (R91, R92, R95, R122, R167, R171). -/
def State.requestNotPersisted (s : State) (refused : Bool) (r : Request) : State :=
  if r.void then s
  else
    match r.kind with
    | .map i _ bank spare _ => s.mapNotPersisted refused i bank spare
    | .retire _ => s
    | .unlost (some i) page => (s.leaveLost page).freeRecorded i page
    | .unlost none page => s.leaveLost page
    | .lost _ => s.directiveFailed
    | .region _ => s.directiveFailed
    | .openSession _ => s.noteOpenSession false
    | .shutdown _ _ _ _ => s.noteShutdown

/-! ## Handing requests to the writer (R102) -/

/-- A request joins the end of the pending-append list; one that joins a STOPPED writer is answered failed
at once (R102). -/
def State.joinRequest (s : State) (r : Request) : State :=
  if s.writer.state = .stopped then s.requestNotPersisted false r
  else { s with writer := { s.writer with list := s.writer.list ++ [r] } }

/-- The Remap Unit hands a request, or holds it behind those it holds already when the list is full (R88, R102). -/
def State.handRequest (s : State) (r : Request) : State :=
  if !s.remap.held.isEmpty || decide (8 ≤ s.writer.list.length) then
    { s with remap := { s.remap with held := s.remap.held ++ [r] } }
  else s.joinRequest r

/-- The two oldest unrecorded retirements, or the last one, are handed as one request and leave their list (R86). -/
def State.handRetirement (s : State) : State :=
  ({ s with remap := { s.remap with unrecorded := s.remap.unrecorded.drop 2 } }).joinRequest
    (Request.of (.retire (s.remap.unrecorded.take 2)))

/-- At most `n` requests of unrecorded retirements are handed while the list has room. Those that find none stay
unrecorded and go ahead of the held request that waits for them; DEDUCED, log entry 38. -/
def State.handRetirements : Nat → State → State
  | 0, s => s
  | n + 1, s =>
    if s.remap.unrecorded = [] ∨ 8 ≤ s.writer.list.length then s
    else State.handRetirements n s.handRetirement

/-- The Remap Unit makes a MAP, UNLOST or LOST request of its own: it hands it after the unrecorded retirements, or
holds it behind those it holds already or while the list has no room (R86, R88, R102). -/
def State.handOwn (s : State) (kind : RequestKind) : State :=
  (if s.remap.held = [] then State.handRetirements s.remap.unrecorded.length s else s).handRequest
    (Request.of kind)

/-- The Remap Unit, which holds this request in front, hands its next one: the unrecorded retirements first, one
request at a time, and then the request (R86, R88, R102). -/
def State.handHeld (s : State) (r : Request) : State :=
  if s.remap.unrecorded = [] then
    ({ s with remap := { s.remap with held := s.remap.held.drop 1 } }).joinRequest r
  else s.handRetirement

/-! ## A program that succeeded (R54, R88) -/

/-- The requests a slot programmed at its target makes (R88). -/
def State.recordingRequests (s : State) (i : SlotId) : List RequestKind :=
  let page := (s.slot i).page
  let unlost := if s.isLost page then [RequestKind.unlost (some i) page] else []
  match (s.slot i).target.bind Target.spare? with
  | none => unlost
  | some k =>
    if mapSpare? s.remap.table page = some k then unlost
    else .map i page (s.bankOfPage page).val k (mapSpare? s.remap.table page) :: unlost

/-- One request of a slot in RECORDING: handed, or in DEGRADED given the outcome of a failed one at once.
A slot that has left RECORDING makes no further request (R88, R91). -/
def State.recordOne (i : SlotId) (s : State) (kind : RequestKind) : State :=
  if (s.slot i).state ≠ .recording then s
  else if s.control.state = .degraded then s.requestNotPersisted false (Request.of kind)
  else s.handOwn kind

/-- A slot's program has completed with outcome OK: it becomes FREE, or goes to RECORDING for its
requests (R54, R88). -/
def State.programmedOk (s : State) (i : SlotId) : State :=
  match s.recordingRequests i with
  | [] => s.freeReported i
  | kinds =>
    kinds.foldl (State.recordOne i) (s.setSlot i { s.slot i with state := .recording })

/-! ## Answers: persisted -/

/-- A page's MAP entry installed or replaced, in ascending order of page (R82, R89). -/
def installMap (page spare : Nat) : List MapEntry → List MapEntry
  | [] => [{ page := page, spare := spare }]
  | e :: rest =>
    if page < e.page then { page := page, spare := spare } :: e :: rest
    else if page = e.page then { page := page, spare := spare } :: rest
    else e :: installMap page spare rest

/-- Steps 1 and 2 of a persisted MAP: the entry is installed, the claimed spare leaves the free list, and
the spare it replaces is retired (R89). -/
def State.applyMap (s : State) (page : Nat) (b : BankId) (spare : Nat) (old : Option Nat) : State :=
  let installed := { s.dropFreeSpare b spare with
    remap := { (s.dropFreeSpare b spare).remap with table := installMap page spare s.remap.table } }
  match old with
  | some k => installed.addRetired b k
  | none => installed

/-- A MAP request answered persisted (R89). -/
def State.mapPersisted (s : State) (i : SlotId) (page bank spare : Nat) (old : Option Nat) : State :=
  let b : BankId := Fin.ofNat 8 bank
  let reported := ((s.applyMap page b spare old).raise
    { kind := .remapped, page := some page, bank := some b.val, slot := some i.val, spareOld := old,
      operation := some spare }).latch .remapped
  if reported.isLost page then
    if reported.outstandingRequests.any (fun r => r.isUnlostOf i) then reported
    else reported.handOwn (.unlost (some i) page)
  else reported.freeReported i

/-- A LOST request answered persisted: the named slot, if it is still STRANDED, becomes FREE with its
older slots and the page joins the lost set; otherwise an UNLOST request is made on behalf of no slot
(R95). Either way the RELEASE is answered DONE. A slot that has been freed and opened again since, STRANDED again or
not, is told by its age and taken as already FREE: DESIGN CHOICE, log entry 43. -/
def State.lostPersisted (s : State) : State :=
  match s.engine.current with
  | .release tag i age page =>
    let settled :=
      if (s.slot i).state = .stranded ∧ (s.slot i).age = age then
        ({ s with remap := { s.remap with lost := insertNat page s.remap.lost } }).freeSlot i
      else s.handOwn (.unlost none page)
    settled.answerDirective tag .done (leBytes 4 page)
  | _ => s

/-- An entry put at its place in first-page order (R122). -/
def insertRegion (r : Region) : List Region → List Region
  | [] => [r]
  | x :: rest => if r.first < x.first then r :: x :: rest else x :: insertRegion r rest

/-- The region table after a change (R122). -/
def RegionChange.apply (table : List Region) : RegionChange → List Region
  | .add first last attr => insertRegion { first := first, last := last, attr := attr } table
  | .promote first last =>
    table.map (fun r => if r.first = first ∧ r.last = last then { r with attr := .fixed } else r)
  | .remove first last => table.filter (fun r => !(r.first == first && r.last == last))

/-- The region index of the entry that matches a range exactly (R116). -/
def exactIndex? (first last : Nat) : Nat → List Region → Option Nat
  | _, [] => none
  | k, r :: rest =>
    if r.first = first ∧ r.last = last then some k else exactIndex? first last (k + 1) rest

/-- The entry a RANGE_APPLY's DONE carries: as it stands after the change, or for a removal the removed
entry with attribute NONE and the index it had (R122). -/
def RegionChange.report (table : List Region) (c : RegionChange) : List Byte :=
  match c with
  | .add first last attr =>
    regionEntryBytes ((exactIndex? first last 0 (c.apply table)).getD 0) (some attr) first last
  | .promote first last =>
    regionEntryBytes ((exactIndex? first last 0 table).getD 0) (some .fixed) first last
  | .remove first last => regionEntryBytes ((exactIndex? first last 0 table).getD 0) none first last

/-- A RANGE_APPLY's request answered persisted: the table changes and the directive is answered DONE
with the entry, together (R122). -/
def State.regionPersisted (s : State) (c : RegionChange) : State :=
  match s.engine.current with
  | .rangeApply tag =>
    ({ s with region := { s.region with table := c.apply s.region.table } }).answerDirective tag .done
      (c.report s.region.table)
  | _ => s

/-- The outcome of a request answered persisted (R89, R90, R95, R122, R167, R171). -/
def State.requestPersisted (s : State) (r : Request) : State :=
  if r.void then s
  else
    match r.kind with
    | .map i page bank spare old => s.mapPersisted i page bank spare old
    | .retire _ => s
    | .unlost (some i) page => (s.leaveLost page).freeRecorded i page
    | .unlost none page => s.leaveLost page
    | .lost _ => s.lostPersisted
    | .region c => s.regionPersisted c
    | .openSession _ => s.noteOpenSession true
    | .shutdown _ _ _ _ => s.noteShutdown

/-- Requests answered failed or refused one after another. A MAP request so answered makes the answer of
the UNLOST request of its slot, behind it, change nothing (R91). -/
def answerRequests (refused : Bool) : List SlotId → List Request → State → State
  | _, [], s => s
  | voided, r :: rest, s =>
    let asked := if voided.any (fun i => r.isUnlostOf i) then { r with void := true } else r
    let more := match r.kind with
      | .map i _ _ _ _ => i :: voided
      | _ => voided
    answerRequests refused more rest (s.requestNotPersisted refused asked)

end Sys2Proof.Machine
end

