-- ==== Sys2Proof/Machine/Writer.lean ====
section
/-!
DEFINITION. The Metadata Writer: appends, compaction, format, the outcome of its programs, and the end
point of a drain with its SHUTDOWN (chapter 6, R171).
-/

namespace Sys2Proof.Machine

/-! ## Records and page images -/

/-- The records a request asks for, in order (R88, R99, R102). -/
def RequestKind.records : RequestKind → List Record
  | .map _ page bank spare old =>
    .map page spare :: (match old with | some k => [.retire bank k] | none => [])
  | .retire spares => spares.map (fun x => .retire x.1 x.2)
  | .unlost _ page => [.unlost page]
  | .lost page => [.lost page]
  | .region (.add first last attr) => [.regionSet first last attr]
  | .region (.promote first last) => [.regionSet first last .fixed]
  | .region (.remove first last) => [.regionClear first last]
  | .openSession session => [.openSession session]
  | .shutdown session outcome fence stranded => [.shutdown session outcome fence stranded]

/-- The records of a request not yet taken into a program (R103). -/
def Request.remaining (r : Request) : List Record := r.kind.records.drop r.taken

/-- A page image of 16 records: those given, and BLANK in every place after them (R103). -/
def padBlank (records : List Record) : List Record :=
  (records ++ List.replicate 16 Record.blank).take 16

/-- The images of the half pages of a half, from a list of its records (R107). -/
def pageImages : Nat → List Record → List (List Record)
  | 0, _ => []
  | n + 1, records => padBlank (records.take 16) :: pageImages n (records.drop 16)

/-! ## What an append takes (R103, R106) -/

/-- What an append does with the pending-append list: the records it takes, the requests they belong to,
the requests that stay, those refused by the room check, and all the others as they stood. -/
structure AppendPlan where
  records : List Record
  carried : List Carried
  rest : List Request
  refused : List Request
  kept : List Request
deriving DecidableEq, Repr

/-- Whether the room check of a drain refuses a request when `used` positions of the half are taken:
its records would leave no free position, or, for the SHUTDOWN, there is none (R106). -/
def roomRefused (draining : Bool) (used : Nat) (r : Request) : Bool :=
  draining &&
    (if r.isShutdown then decide (1024 ≤ used) else decide (1023 < used + r.remaining.length))

/-- Records are taken from the front of the list, as many as fit in `free` places; a request whose first
record alone fits is split, and while DRAINING each request passes the room check first (R103, R106). -/
def planAppend (draining : Bool) : Nat → Nat → List Request → AppendPlan
  | _, _, [] => { records := [], carried := [], rest := [], refused := [], kept := [] }
  | used, free, r :: rest =>
    if free = 0 then { records := [], carried := [], rest := r :: rest, refused := [], kept := r :: rest }
    else if roomRefused draining used r then
      { planAppend draining used free rest with
        refused := r :: (planAppend draining used free rest).refused }
    else if r.remaining.length ≤ free then
      let more := planAppend draining (used + r.remaining.length) (free - r.remaining.length) rest
      { more with records := r.remaining ++ more.records,
                  carried := { request := r, complete := true } :: more.carried, kept := r :: more.kept }
    else
      { records := r.remaining.take free, carried := [{ request := r, complete := false }],
        rest := { r with taken := r.taken + free } :: rest, refused := [], kept := r :: rest }

/-! ## Stopping -/

/-- The requests whose last record the program in hand carries, in the order their records were taken (R104). -/
def Writer.completing (w : Writer) : List Request :=
  match w.program with
  | some p => (p.carried.filter Carried.complete).map Carried.request
  | none => []

/-- The request at the front of the list whose first record alone the program in hand carries (R103). -/
def Writer.splitRequest (w : Writer) : List Request :=
  match w.program with
  | some p => if p.carried.all Carried.complete then [] else w.list.take 1
  | none => []

/-- The requests the writer has not answered, in the order it answers them: those whose last record the
program carries, then the list (R105). A split request stands at the front of the list. -/
def Writer.unanswered (w : Writer) : List Request := w.completing ++ w.list

/-- The writer with its list, its program in hand and its compaction record emptied. -/
def Writer.emptied (w : Writer) : Writer := { w with list := [], program := none, compaction := none }

/-- The record-permitted flag is cleared when the writer stops during a drain (R169). -/
def State.forbidRecord (s : State) : State :=
  { s with control := { s.control with
      drain := s.control.drain.map (fun d => { d with recordPermitted := false }) } }

/-- Every request is answered failed and the writer enters STOPPED (R105, steps 2 and 3). -/
def State.stopWriter (s : State) : State :=
  let answered := answerRequests false [] s.writer.unanswered { s with writer := s.writer.emptied }
  ({ answered with writer := { answered.writer with state := .stopped } }).forbidRecord

/-- The operation field of a METADATA_FAULT incident (R147). -/
def WriterState.operation : WriterState → Nat
  | .compacting => 1
  | .formatting => 2
  | .unloaded => 0
  | .idle => 0
  | .appending => 0
  | .stopped => 0

/-- A failure beyond RETRY_LIMIT, or one that is not retried (R105, steps 1 to 3). -/
def State.giveUp (s : State) (page : Nat) : State :=
  ((s.latch .metadataFault).raise
    { kind := .metadataFault, metadataPage := some page,
      operation := some s.writer.state.operation }).stopWriter

/-- The program in hand ends without a retry and without stopping the writer: every request it carries is
answered failed or refused, a split one last, and the writer is IDLE (R106, R171). -/
def State.dropProgram (s : State) (refused : Bool) : State :=
  answerRequests refused [] (s.writer.completing ++ s.writer.splitRequest)
    { s with writer := { s.writer with
        state := .idle, list := s.writer.list.drop s.writer.splitRequest.length, program := none } }

/-! ## Handing programs -/

/-- The program in hand is handed to the scheduler (R48, R103). To a bank marked absent it fails at once,
retries included (R175); log entry 16. -/
def State.handProgram (s : State) : State :=
  match s.writer.program with
  | none => s
  | some p =>
    if (s.bank (s.metaBank p.page)).presence = .absent then s.giveUp p.page
    else
      (s.setPendingMeta (some { page := p.page, image := p.image })).arbitrate (s.metaBank p.page)

/-- A page with no request of its own is handed: a page of a compaction or of a format (R108, R112). -/
def State.handImage (s : State) (page : Nat) (image : List Record) : State :=
  ({ s with writer := { s.writer with
      program := some { page := page, image := image, carried := [], records := 0, attempts := 0 } } }
    ).handProgram

/-! ## The end point of a drain (R106, R171) -/

/-- Whether the drain is at its end point (R171). -/
def State.drainAtEnd (s : State) (d : Drain) : Bool :=
  s.slotsAtRest ||
    (match d.budget with
     | some budget => decide (budget ≤ d.count + 1) && s.banksInUse.all (fun b => !(s.bank b).carriesData)
     | none => false)

/-- The outcome the SHUTDOWN of a drain carries (R171). -/
def State.shutdownOutcome (s : State) (d : Drain) : ShutdownOutcome :=
  match d.kind with
  | .restart => .restart
  | .power => if s.slotsAtRest then .complete else .truncated

/-- The SHUTDOWN request as it stands at the end point (R171). -/
def State.shutdownRequest (s : State) (d : Drain) : Request :=
  Request.of (.shutdown s.control.session (s.shutdownOutcome d) s.tracker.lastPersisted s.strandedCount)

/-- Every request of the list that the program in hand does not carry is answered refused, and the SHUTDOWN
joins the list, which it may do when the list holds 8 requests (R106). -/
def State.listShutdown (s : State) (r : Request) : State :=
  let refused := answerRequests true [] (s.writer.list.drop s.writer.splitRequest.length)
    { s with writer := { s.writer with list := s.writer.splitRequest } }
  { refused with writer := { refused.writer with list := refused.writer.list ++ [r] } }

/-- The drain whose end point has come, with its SHUTDOWN still to be handed and the record permitted (R171). -/
def State.endingDrain? (s : State) : Option Drain :=
  s.control.drain.filter (fun d => d.shutdown == .notHanded && d.recordPermitted && s.drainAtEnd d)

/-- The SHUTDOWN of a drain is with the writer (R171). -/
def State.markHanded (s : State) (d : Drain) : State :=
  { s with control := { s.control with drain := some { d with shutdown := .handed } } }

/-- The end point of a drain is judged while the program in hand is being answered, or before one is built: there,
the SHUTDOWN only refuses the list and joins it (R106, R171). -/
def State.judgeEndListing (s : State) : State :=
  match s.endingDrain? with
  | some d => (s.markHanded d).listShutdown (s.shutdownRequest d)
  | none => s

/-! ## Appends -/

/-- What an append would do with the list now (R103, R106). -/
def State.appendPlan (s : State) : AppendPlan :=
  planAppend (s.control.state == .draining) s.writer.used (16 - s.writer.used % 16) s.writer.list

/-- Records are taken into the image of the current log page, and requests that find no room are answered refused
(R103, R106). -/
def State.takeAppend (s : State) : State :=
  let w := s.writer
  let plan := s.appendPlan
  if plan.carried.isEmpty then
    answerRequests true [] plan.refused { s with writer := { w with list := plan.rest } }
  else
    (answerRequests true [] plan.refused
      { s with writer := { w with
          state := .appending, list := plan.rest,
          program := some { page := 64 * w.activeHalf + w.used / 16,
                            image := padBlank (w.buffer.take (w.used % 16) ++ plan.records),
                            carried := plan.carried, records := plan.records.length,
                            attempts := 0 } } }).handProgram

/-- An append begins: the requests that the room check refuses are answered, which can bring the end point of the drain
and its SHUTDOWN, and then the records are taken (R103, R106, R171). -/
def State.startAppend (s : State) : State :=
  let plan := s.appendPlan
  (if plan.refused.isEmpty then s
   else (answerRequests true [] plan.refused { s with writer := { s.writer with list := plan.kept } }
     ).judgeEndListing).takeAppend

/-- Whether the SHUTDOWN of the drain in progress has been answered: the drain is over (R171). -/
def State.drainOver (s : State) : Bool :=
  match s.control.drain with
  | some d => d.shutdown == .answered
  | none => false

/-- An append begins if the writer is IDLE with a non-empty list and a current log page, and the scheduler
holds no metadata program (R48, R102, R103). In a drain a half without a free position refuses its
requests (R106), and once the SHUTDOWN has been answered, which ends the drain, none begins (R171); DEDUCED,
log entries 12 and 39. -/
def State.kick (s : State) : State :=
  if s.writer.state = .idle ∧ s.writer.list ≠ [] ∧ s.sched.pendingMeta = none
      ∧ (s.writer.used < 1024 ∨ s.control.state = .draining) ∧ s.drainOver = false then
    s.startAppend
  else s

/-! ## The SHUTDOWN of a drain (R106, R171) -/

/-- The SHUTDOWN is taken at once: first the list is refused and the SHUTDOWN joins it, and then a program
handed but not dispatched is withdrawn and its requests are refused; a program in flight keeps them (R106);
the order against R90 DEDUCED, log entry 19. -/
def State.handShutdown (s : State) (r : Request) : State :=
  let listed := s.listShutdown r
  if listed.metaInFlight then listed
  else ((listed.setPendingMeta none).dropProgram true).kick

/-- The end point of a drain is judged: at it, a SHUTDOWN that is permitted is handed, once (R171). -/
def State.judgeEnd (s : State) : State :=
  match s.endingDrain? with
  | some d => (s.markHanded d).handShutdown (s.shutdownRequest d)
  | none => s

/-! ## Compaction -/

/-- The RETIRE records of a snapshot: every retired spare, by bank and then by spare index (R107). -/
def State.retireRecords (s : State) : List Record :=
  allBanks.flatMap (fun b => (s.remap.retired[b.val]).map (fun k => Record.retire b.val k))

/-- Items 2 to 5 of the snapshot (R107). -/
def State.snapshotFacts (s : State) : List Record :=
  s.remap.table.map (fun e => .map e.page e.spare) ++ s.retireRecords
    ++ s.remap.lost.map Record.lost
    ++ s.region.table.map (fun r => .regionSet r.first r.last r.attr)

/-- The snapshot: the live facts between a HALF_HEADER of the next generation and a SNAPSHOT_END with
their number, and an OPEN_SESSION (R107). -/
def State.snapshot (s : State) (session : BitVec 32) : List Record :=
  .halfHeader (s.writer.generation + 1) true
    :: (s.snapshotFacts ++ [.snapshotEnd s.snapshotFacts.length, .openSession session])

/-- A compaction begins: the snapshot is laid out for the inactive half and its half page 63 is handed
(R107, R108). -/
def State.beginCompaction (s : State) (session : BitVec 32) (opensSession : Bool) : State :=
  let half := 1 - s.writer.activeHalf
  let images := pageImages 64 (s.snapshot session)
  ({ s with writer := { s.writer with
      state := .compacting,
      compaction := some { images := images, next := 63, half := half,
                           generation := s.writer.generation + 1, used := (s.snapshot session).length,
                           covered := s.remap.unrecorded, opensSession := opensSession } } }).handImage
    (64 * half + 63) (images.getD 63 [])

/-- The OPEN_SESSION request of start-up leaves the list and is answered persisted (R111). -/
def State.answerOpenSession (s : State) : State :=
  match s.writer.list with
  | r :: rest => ({ s with writer := { s.writer with list := rest } }).requestPersisted r
  | [] => s

/-- Half page 0 of a compaction has persisted (R109, R111). -/
def State.compactionDone (s : State) (c : Compaction) : State :=
  let switched := { s with
    writer := { s.writer with
      state := .idle, activeHalf := c.half, generation := c.generation, used := c.used,
      buffer := c.images.getD (c.used / 16) [], program := none, compaction := none },
    remap := { s.remap with
      unrecorded := s.remap.unrecorded.filter (fun x => !c.covered.contains x) } }
  (if c.opensSession then switched.answerOpenSession else switched).kick

/-- A compaction page has persisted: the next lower page is handed (R108). -/
def State.compactionOk (s : State) : State :=
  match s.writer.compaction with
  | none => s
  | some c =>
    if c.next = 0 then s.compactionDone c
    else
      ({ s with writer := { s.writer with compaction := some { c with next := c.next - 1 } } }).handImage
        (64 * c.half + (c.next - 1)) (c.images.getD (c.next - 1) [])

/-- A compaction in progress is abandoned at the start of a drain: a page handed but not dispatched is
withdrawn, and the writer returns to the active half (R110); DEDUCED, log entry 18. The end of the drain is judged at
once (R169), before a waiting request is appended: DESIGN CHOICE, log entry 27. -/
def State.abandonCompaction (s : State) : State :=
  if s.writer.state = .compacting then
    let returned := { s with writer := { s.writer with
      state := .idle, program := none, compaction := none } }
    ((if s.metaInFlight then returned else returned.setPendingMeta none).judgeEnd).kick
  else s.judgeEnd

/-! ## Format -/

/-- The image a format gives a metadata page (R112). -/
def formatImage (page : Nat) : List Record :=
  if page = 0 then padBlank [.halfHeader 1 true, .snapshotEnd 0] else padBlank []

/-- A format begins: half page 0 alone at start-up, all 128 pages from page 127 down at a REFORMAT (R112). -/
def State.beginFormat (s : State) (all : Bool) : State :=
  ({ s with writer := { s.writer.emptied with state := .formatting, formatAll := all } }).handImage
    (if all then 127 else 0) (formatImage (if all then 127 else 0))

/-- A format page has persisted: the next lower page is handed, or the writer is IDLE on a fresh half 0
(R112). -/
def State.formatOk (s : State) (page : Nat) : State :=
  if page = 0 then
    ({ s with writer := { s.writer with
        state := .idle, activeHalf := 0, generation := 1, used := 2, buffer := formatImage 0,
        program := none } }).kick
  else s.handImage (page - 1) (formatImage (page - 1))

/-! ## The outcome of a metadata program -/

/-- The requests whose last record a program carried are answered persisted, in order; each leaves the
program before its answer is taken (R104, step 2). An answer can free the last slot of a drain: its end point is judged
after each (R171). -/
def answerCarried : List Carried → State → State
  | [], s => s
  | c :: rest, s =>
    let taken := { s with writer := { s.writer with
      program := s.writer.program.map (fun p => { p with carried := rest }) } }
    answerCarried rest (if c.complete then (taken.requestPersisted c.request).judgeEndListing else taken)

/-- The buffer once an image has been programmed and `used` positions are taken: the image, 16 BLANK
records when the page is full, and nothing when the half is (R104, steps 1 and 3). -/
def bufferAfter (used : Nat) (image : List Record) : List Record :=
  if 1024 ≤ used then [] else if used % 16 = 0 then padBlank [] else image

/-- A log page program has persisted (R104). -/
def State.appendOk (s : State) (p : WriterProgram) : State :=
  let used := s.writer.used + p.records
  let answered := answerCarried p.carried
    { s with writer := { s.writer with used := used, buffer := p.image } }
  let ended := { answered with writer := { answered.writer with
    state := .idle, program := none, buffer := bufferAfter used p.image } }
  if ended.control.state = .running ∧ 1024 < used + 32 then
    ended.beginCompaction ended.control.session false
  else ended.kick

/-- The program in hand has been reported OK (R104, R108, R112). -/
def State.metaOk (s : State) (p : WriterProgram) : State :=
  match s.writer.state with
  | .appending => s.appendOk p
  | .compacting => s.compactionOk
  | .formatting => s.formatOk p.page
  | .unloaded => s
  | .idle => s
  | .stopped => s

/-- Whether the bridge is DRAINING and the list holds the SHUTDOWN: it was handed while the program in hand was
in flight (R106). -/
def State.shutdownListed (s : State) : Bool :=
  s.control.state == .draining && s.writer.list.any Request.isShutdown

/-- Whether the drain count has reached the budget (R171). -/
def State.budgetSpent (s : State) : Bool :=
  match s.control.drain with
  | some d =>
    match d.budget with
    | some budget => decide (budget ≤ d.count)
    | none => false
  | none => false

/-- The program in hand has been reported failed. With a SHUTDOWN listed behind it that is a failure without
retry, and the SHUTDOWN is written by the next append (R106). Otherwise the attempt count is judged against
RETRY_LIMIT, and the writer gives up or hands the same page again (R105), but for a retry of the SHUTDOWN's
program that the budget forbids: it is withdrawn and its requests are refused (R171). That no METADATA_FAULT is
raised in the first case, and that RETRY_LIMIT is judged before the budget, is DEDUCED, log entry 19. -/
def State.metaFailed (s : State) (p : WriterProgram) : State :=
  if s.shutdownListed then (s.dropProgram false).kick
  else if s.engine.profile.retryLimit < p.attempts + 1 then s.giveUp p.page
  else if s.carriesShutdown && s.budgetSpent then s.dropProgram true
  else
    ({ s with writer := { s.writer with
        program := some { p with attempts := p.attempts + 1 } } }).handProgram

/-- The scheduler reports the outcome of the pending metadata program and clears it (R65). The outcome of
a page of an abandoned compaction is not acted on (R110). -/
def State.writerOutcome (s : State) (ok : Bool) : State :=
  let cleared := s.setPendingMeta none
  match s.writer.program with
  | none => cleared.kick
  | some p => if ok then cleared.metaOk p else cleared.metaFailed p

end Sys2Proof.Machine
end

