-- ==== Sys2Proof/Machine/Control.lean ====
section
/-!
DEFINITION. Bridge Control: leaving RUNNING, DEGRADED, FAULTED and DORMANT (chapter 10, sections 10.1 and
10.4, with R66, R79, R105 and R129 for the blocks they reach).
-/

namespace Sys2Proof.Machine

/-- The state with the bridge state replaced (R162). -/
def State.setBridge (s : State) (b : BridgeState) : State :=
  { s with control := { s.control with state := b } }

/-! ## Leaving RUNNING (R163) -/

/-- Staging in FIRST_SET or BOTH_SET is discarded and RANGE_ABANDONED is latched (R120). -/
def State.discardStaging (s : State) : State :=
  if s.region.staging = .empty then s
  else ({ s with region := { s.region with staging := .empty } }).latch .rangeAbandoned

/-- An active scrub is abandoned with its RANGE_DONE notice (R129). -/
def State.abandonScrub (s : State) : State :=
  match s.region.walker with
  | some w =>
    ({ s with region := { s.region with walker := none } }).push (.rangeDone true w.zeroed w.skipped)
  | none => s

/-- The write at the memory lane head is answered and the head is empty (R132). -/
def State.answerHead (s : State) (w : WriteRequest) (result : Result) : State :=
  ({ s with link := { s.link with head := none } }).respond w.tag (.writeDone w.tag result 0)

/-- A write waiting at the memory lane head is answered HALTED (R14). -/
def State.haltHead (s : State) : State :=
  match s.link.head with
  | some w => s.answerHead w .halted
  | none => s

/-- The actions of leaving RUNNING: every OPEN slot closes in age order, staging is discarded, a scrub is
abandoned, and a waiting write is answered HALTED (R18, R163). No rule orders them: that the RANGE_DONE notice of the
scrub is generated before the WRITE_DONE of the write is a DESIGN CHOICE, log entry 28. -/
def State.leaveRunning (s : State) : State :=
  (((s.closeInAgeOrder s.openSlots).discardStaging).abandonScrub).haltHead

/-! ## DEGRADED -/

/-- From RUNNING, a writer that has stopped moves the bridge to DEGRADED (R105, R163). -/
def State.degradeIfStopped (s : State) : State :=
  if s.control.state = .running ∧ s.writer.state = .stopped then
    ((s.setBridge .degraded).leaveRunning).arbitrateAll
  else s

/-- The scheduler reports the outcome of a metadata program, and Bridge Control takes the writer's report
(R65, R105). -/
def State.metadataOutcome (s : State) (ok : Bool) : State := (s.writerOutcome ok).degradeIfStopped

/-! ## The directive that holds the engine (R151) -/

/-- Whether a directive that holds the engine waits for the answer to a request: the LOST of a RELEASE, the record of a
RANGE_APPLY (R151). -/
def Request.holdsEngine (r : Request) : Bool :=
  match r.kind with
  | .lost _ => true
  | .region _ => true
  | .map _ _ _ _ _ => false
  | .retire _ => false
  | .unlost _ _ => false
  | .openSession _ => false
  | .shutdown _ _ _ _ => false

/-- As the bridge enters DORMANT or FAULTED, the request of a directive that holds the engine is answered, in the list
or held for room, and the directive FAILED, because a held directive is always answered (R151). The other requests,
those of slots in RECORDING among them, stay where they are until a hard reset or a REFORMAT (R43, R171); DEDUCED, log
entry 39. -/
def State.answerHolder (s : State) : State :=
  answerRequests true []
    ((s.writer.list ++ s.remap.held).filter Request.holdsEngine ++ s.region.held.toList)
    { s with
      writer := { s.writer with list := s.writer.list.filter (fun r => !r.holdsEngine) },
      remap := { s.remap with held := s.remap.held.filter (fun r => !r.holdsEngine) },
      region := { s.region with held := none } }

/-! ## DORMANT -/

/-- The bridge enters DORMANT: the drain or the start-up in progress is over (R168, R171). -/
def State.enterDormant (s : State) : State :=
  ({ s with control := { s.control with state := .dormant, drain := none, startup := none } }).arbitrateAll

/-! ## FAULTED -/

/-- A bank record as the bridge enters FAULTED: its timers stop, nothing is awaited, and its read jobs
are ended (R66, R176). It keeps its program in hand, a metadata program among them, until a REFORMAT or a hard
reset: DESIGN CHOICE, log entry 37. -/
def Bank.faulted (bank : Bank) : Bank :=
  { bank with monitor := .faulted, readQueue := [], batch := 0, read := none, programTimer := .stopped,
              readTimer := .stopped, resetTimer := .stopped, awaited := [] }

/-- Every bank record becomes FAULTED and the pending metadata program is cleared (R66). -/
def State.faultBanks (s : State) : State :=
  (allBanks.foldl (fun t b => t.setBank b (t.bank b).faulted) s).setPendingMeta none

/-- Bridge Control's record as the bridge enters FAULTED: the reason is set, and a drain or start-up in
progress is ended (R162, R163). -/
def BridgeControl.faulted (c : BridgeControl) (reason : FaultReason) : BridgeControl :=
  { c with state := .faulted, faultReason := reason, drain := none, startup := none,
           identifyTimer := .stopped }

/-- The bridge enters FAULTED: the banks become FAULTED, the actions of leaving RUNNING follow if it was
RUNNING, waiting reads are answered HALTED, and the writer answers every request failed (R163), with that of a
directive which holds it for room (R151); order DEDUCED, log entry 31. -/
def State.enterFaulted (s : State) (reason : FaultReason) : State :=
  let faulted := { s.faultBanks with control := s.control.faulted reason }
  let left := if s.control.state = .running then faulted.leaveRunning else faulted
  ((left.endRecords .halted).stopWriter).answerHolder

end Sys2Proof.Machine
end

