-- ==== Sys2Proof/Machine/Startup.lean ====
section
/-!
DEFINITION. Start-up: its six stages, the choice of the active half, replay, and REFORMAT (sections 6.1,
6.6, 10.3 and 10.5).
-/

namespace Sys2Proof.Machine

/-! ## Stages -/

/-- The start-up in progress is at a stage. -/
def State.setStage (s : State) (stage : Stage) : State :=
  { s with control := { s.control with
      startup := s.control.startup.map (fun up => { up with stage := stage }) } }

/-- The stage in progress. -/
def State.stage? (s : State) : Option Stage := s.control.startup.map Startup.stage

/-- A stage has ended: start-up goes on, or the bridge enters DORMANT if POWER_WARN was taken meanwhile
(R168). -/
def State.endStage (s : State) (next : State → State) : State :=
  match s.control.startup with
  | some up => if up.stopAsked then s.enterDormant else next s
  | none => s

/-! ## Stage 6 (R167) -/

/-- The bridge enters RUNNING, and the compaction trigger is judged (R30, R107, R167). -/
def State.enterRunning (s : State) : State :=
  let running := { s with
    absorb := AbsorbBuffer.afterReset,
    tracker := EpochTracker.afterReset,
    region := { s.region with staging := .empty, walker := none },
    control := { s.control with state := .running, startup := none } }
  if running.writer.state = .idle ∧ 1024 < running.writer.used + 32 then
    running.beginCompaction running.control.session false
  else running

/-! ## Stage 5 (R167) -/

/-- The session number after this one; 1 follows 4,294,967,295 (R167). -/
def nextSession (n : BitVec 32) : BitVec 32 := if n = 0xFFFFFFFF#32 then 1#32 else n + 1#32

/-- Stage 5 hands the OPEN_SESSION request; a half with no free position is compacted first (R111, R167). -/
def State.beginOpenSession (s : State) : State :=
  let session := nextSession s.control.session
  let handed := (s.setStage (.openSession none)).joinRequest (Request.of (.openSession session))
  if 1024 ≤ handed.writer.used then handed.beginCompaction session true else handed.kick

/-- The answer to the OPEN_SESSION request is taken (R167). -/
def State.takeOpenSession (s : State) : State :=
  match s.stage? with
  | some (.openSession (some true)) =>
    ({ s with control := { s.control with session := nextSession s.control.session } }).endStage
      State.enterRunning
  | some (.openSession (some false)) => s.enterFaulted .metadataCorrupt
  | _ => s

/-! ## Stage 4: replay (R113 to R115) -/

/-- What replay has built before the first record (R113). -/
def Replay.start (half generation : Nat) : Replay :=
  { half := half, generation := generation, table := [], retired := [], lost := [], regions := [],
    session := none, shutdown := none, inSnapshot := true, used := 1, buffer := [] }

/-- Whether a spare of a bank is the target of a MAP entry of some page but this one (R114). -/
def Replay.targetOfOther (g : Geometry) (r : Replay) (page bank spare : Nat) : Bool :=
  r.table.any (fun e => e.spare == spare && e.page % g.banks == bank && e.page != page)

/-- Whether a spare of a bank is a MAP target (R114). -/
def Replay.isTarget (g : Geometry) (r : Replay) (bank spare : Nat) : Bool :=
  r.table.any (fun e => e.spare == spare && e.page % g.banks == bank)

/-- Whether two ranges overlap (R116). -/
def overlaps (first last : Nat) (r : Region) : Bool := decide (first ≤ r.last) && decide (r.first ≤ last)

/-- The entry that matches a range exactly (R116). -/
def exactMatch? (first last : Nat) (table : List Region) : Option Region :=
  table.find? (fun r => r.first == first && r.last == last)

/-- A REGION_SET at replay (R114). -/
def Replay.setRegion (g : Geometry) (r : Replay) (first last : Nat) (attr : RegionAttr) : Option Replay :=
  if last < first ∨ g.capacityPages ≤ last then none
  else
    match exactMatch? first last r.regions with
    | some _ =>
      match attr with
      | .fixed => some { r with regions := (RegionChange.promote first last).apply r.regions }
      | .guarded => some r
    | none =>
      if r.regions.any (overlaps first last) || decide (16 ≤ r.regions.length) then none
      else some { r with regions := (RegionChange.add first last attr).apply r.regions }

/-- A REGION_CLEAR at replay (R114). -/
def Replay.clearRegion (r : Replay) (first last : Nat) : Option Replay :=
  match exactMatch? first last r.regions with
  | some x =>
    match x.attr with
    | .guarded => some { r with regions := (RegionChange.remove first last).apply r.regions }
    | .fixed => none
  | none => none

/-- One record of the active half acts on what replay is building; `none` when it makes the metadata
corrupt (R114). A BLANK does not act: replay stops at it. -/
def Replay.apply (g : Geometry) (r : Replay) : Record → Option Replay
  | .blank => some r
  | .halfHeader _ _ => none
  | .snapshotEnd _ => if r.inSnapshot then some { r with inSnapshot := false } else none
  | .map page spare =>
    if g.capacityPages ≤ page ∨ g.spares ≤ spare ∨ r.retired.contains (page % g.banks, spare) = true
        ∨ r.targetOfOther g page (page % g.banks) spare = true then none
    else some { r with table := installMap page spare r.table }
  | .retire bank spare =>
    if g.banks ≤ bank ∨ g.spares ≤ spare ∨ r.isTarget g bank spare = true then none
    else if r.retired.contains (bank, spare) then some r
    else some { r with retired := r.retired ++ [(bank, spare)] }
  | .lost page =>
    if g.capacityPages ≤ page then none
    else if r.lost.contains page then some r
    else if 32 ≤ r.lost.length then none
    else some { r with lost := insertNat page r.lost }
  | .unlost page =>
    if g.capacityPages ≤ page then none
    else some { r with lost := r.lost.filter (fun p => p != page) }
  | .regionSet first last attr => r.setRegion g first last attr
  | .regionClear first last => r.clearRegion first last
  | .openSession session => some { r with session := some session, shutdown := none }
  | .shutdown session outcome fence stranded =>
    if r.session = some session then some { r with shutdown := some (outcome, fence, stranded) } else some r
  | .unknownKind => none

/-- How the reading of a page leaves replay. -/
inductive ReplayResult where
  | corrupt
  | stopped (built : Replay)
  | more (built : Replay)
deriving DecidableEq, Repr

/-- Records applied in position order, up to the first BLANK (R113). -/
def Replay.run (g : Geometry) : List Record → Replay → ReplayResult
  | [], r => if 1024 ≤ r.used then .stopped r else .more r
  | x :: rest, r =>
    if x = .blank then .stopped r
    else
      match r.apply g x with
      | some built => Replay.run g rest { built with used := r.used + 1 }
      | none => .corrupt

/-- The previous-session facts replay yields (R115). -/
def Replay.facts (r : Replay) : PreviousFacts :=
  match r.session, r.shutdown with
  | none, _ => PreviousFacts.fresh
  | some _, none => { outcome := .unclean, lastPersisted := 0, stranded := 0 }
  | some _, some (.truncated, fence, stranded) =>
    { outcome := .truncated, lastPersisted := fence, stranded := stranded }
  | some _, some (_, fence, stranded) =>
    { outcome := .clean, lastPersisted := fence, stranded := stranded }

/-- `count` spare indices from `k` on that are neither a MAP target nor retired, with no claim (R84). -/
def freeFrom (taken : Nat → Bool) : Nat → Nat → List FreeSpare
  | _, 0 => []
  | k, count + 1 =>
    if taken k then freeFrom taken (k + 1) count
    else { index := k, claim := none } :: freeFrom taken (k + 1) count

/-- The Remap Unit derives each bank's free spare list from its tables (R84). -/
def State.deriveFree (s : State) (g : Geometry) : State :=
  let derived := s.banksInUse.foldl (fun t b => t.setFreeSpares b (freeFrom (fun k =>
    s.remap.table.any (fun e => e.spare == k && e.page % g.banks == b.val)
      || (s.remap.retired[b.val]).contains k) 0 g.spares)) s
  { derived with remap := { derived.remap with derived := true } }

/-- What replay has built is loaded into the blocks (R84, R101, R113, R167). -/
def State.loadReplay (s : State) (g : Geometry) (r : Replay) : State :=
  let emptied := { s with
    remap := { RemapUnit.afterReset with table := r.table, lost := r.lost },
    region := { s.region with table := r.regions },
    writer := { s.writer with
      state := .idle, activeHalf := r.half, generation := r.generation, used := r.used,
      buffer := if 1024 ≤ r.used then [] else r.buffer },
    control := { s.control with session := r.session.getD 0#32, previous := r.facts } }
  (r.retired.foldl (fun t x => t.addRetired (Fin.ofNat 8 x.1) x.2) emptied).deriveFree g

/-- A start-up read job for a metadata page joins its bank's read queue (R47, R166). -/
def State.startupRead (s : State) (page : Nat) : State :=
  s.joinRead (s.metaBank page) { index := s.metaIndex page, owner := .startup page, retried := false }

/-- Stage 4 begins: half page 0 of the active half is read (R113). -/
def State.beginReplay (s : State) (half generation : Nat) : State :=
  (s.setStage (.replay (Replay.start half generation))).startupRead (64 * half)

/-- A page of the active half has been read (R113, R114). Position 0 is not replayed. -/
def State.replayPage (s : State) (built : Replay) (page : Nat) (records : List Record) : State :=
  match s.geometry with
  | none => s
  | some g =>
    match Replay.run g (if page % 64 = 0 then records.drop 1 else records)
        { built with buffer := records } with
    | .corrupt => s.enterFaulted .metadataCorrupt
    | .stopped r => (s.loadReplay g r).endStage State.beginOpenSession
    | .more r => (s.setStage (.replay r)).startupRead (page + 1)

/-! ## Stage 3: the active half (R100, R166) -/

/-- The records from position 1 up to a SNAPSHOT_END, and the count it carries; `none` when a BLANK or
the end of the records comes first (R100). -/
def snapshotOf : List Record → Option (List Record × Nat)
  | [] => none
  | .snapshotEnd count :: _ => some ([], count)
  | .blank :: _ => none
  | x :: rest => (snapshotOf rest).map (fun y => (x :: y.1, y.2))

/-- Whether a record may stand in a snapshot (R100). -/
def Record.inSnapshot : Record → Bool
  | .map _ _ => true
  | .retire _ _ => true
  | .lost _ => true
  | .regionSet _ _ _ => true
  | _ => false

/-- The generation of a half, if it is valid (R100). -/
def validHalf : List Record → Option Nat
  | .halfHeader generation true :: rest =>
    match snapshotOf rest with
    | some (facts, count) =>
      if facts.all Record.inSnapshot && count == facts.length then some generation else none
    | none => none
  | _ => none

/-- The scan of a half before its first page is read (R166). -/
def HalfScan.start : HalfScan := { records := [], pages := 0, zero := true, done := false }

/-- The scan of a half with one more page: reading goes on as far as the SNAPSHOT_END, the first BLANK or
the end of the half (R166). -/
def HalfScan.add (h : HalfScan) (data : PageData) : HalfScan :=
  { records := h.records ++ PageData.records data, pages := h.pages + 1,
    zero := h.zero && PageData.zero data,
    done := decide (63 ≤ h.pages) || (PageData.records data).any (fun x =>
      match x with
      | .snapshotEnd _ => true
      | .blank => true
      | _ => false) }

/-- The metadata pages that the two scans have not read (R166). -/
def unreadPages (half0 half1 : HalfScan) : List Nat :=
  (List.range 64).drop half0.pages ++ ((List.range 64).drop half1.pages).map (· + 64)

/-- The writer formats half 0 of a blank array (R112, R166). -/
def State.startupFormat (s : State) : State := (s.setStage .format).beginFormat false

/-- The metadata pages not yet read are read, one after another; when all 128 have been, the array is
blank or corrupt (R166). -/
def State.readRemaining (s : State) (remaining : List Nat) (zero : Bool) : State :=
  match remaining with
  | page :: _ => (s.setStage (.blankCheck remaining zero)).startupRead page
  | [] => if zero then s.startupFormat else s.enterFaulted .metadataCorrupt

/-- Both halves have been read as far as they need be: the active half is chosen (R100, R166). -/
def State.chooseHalf (s : State) (half0 half1 : HalfScan) : State :=
  match validHalf half0.records, validHalf half1.records with
  | some a, some b =>
    if a = b then s.enterFaulted .metadataCorrupt
    else if a < b then s.endStage (fun t => t.beginReplay 1 b)
    else s.endStage (fun t => t.beginReplay 0 a)
  | some a, none => s.endStage (fun t => t.beginReplay 0 a)
  | none, some b => s.endStage (fun t => t.beginReplay 1 b)
  | none, none => s.readRemaining (unreadPages half0 half1) (half0.zero && half1.zero)

/-- A page of a half has been scanned: the half's next page is read, or the choice is made when both
halves are done (R166). -/
def State.scanned (s : State) (half0 half1 : HalfScan) (page : Nat) (done : Bool) : State :=
  let staged := s.setStage (.choose half0 half1)
  if half0.done && half1.done then staged.chooseHalf half0 half1
  else if done then staged
  else staged.startupRead (page + 1)

/-- Stage 3 begins: half page 0 of each half is read (R166); order of reads a DESIGN CHOICE, log entry 13. -/
def State.beginChoice (s : State) : State :=
  ((s.setStage (.choose HalfScan.start HalfScan.start)).startupRead 0).startupRead 64

/-- A start-up read job has completed (R166, R167). -/
def State.startupPage (s : State) (page : Nat) (data : PageData) : State :=
  match s.stage? with
  | some (.choose half0 half1) =>
    if page < 64 then s.scanned (half0.add data) half1 page (half0.add data).done
    else s.scanned half0 (half1.add data) page (half1.add data).done
  | some (.blankCheck remaining zero) => s.readRemaining (remaining.drop 1) (zero && PageData.zero data)
  | some (.replay built) => s.replayPage built page (PageData.records data)
  | _ => s

/-- A start-up read job has failed after its retry, or its bank has been marked absent: the metadata is
corrupt (R165, R166). -/
def State.startupReadFailed (s : State) : State :=
  match s.stage? with
  | some _ => s.enterFaulted .metadataCorrupt
  | none => s

/-! ## Stages 1 and 2 (R165) -/

/-- A bank record as stage 1 begins, or a REFORMAT: its queues are empty and it is not yet marked. The
job a reset in progress has interrupted is abandoned (R80, R165, R174). -/
def Bank.unmarked (bank : Bank) : Bank :=
  { bank with programQueue := [], readQueue := [], batch := 0, program := .absent, read := none,
              programTimer := .stopped, readTimer := .stopped, presence := .unmarked }

/-- A bank is sent BANK_RESET unless it is RESETTING already (R165, R174). Its mark is taken from it, so that a bank
marked absent is sent it too: for a REFORMAT, R174 is followed against R175; DESIGN CHOICE, log entry 44. -/
def State.startReset (s : State) (b : BankId) : State :=
  let cleared := s.setBank b (s.bank b).unmarked
  if (s.bank b).monitor = .resetting then cleared else cleared.sendReset b

/-- Stage 1 begins: BANK_RESET goes to each of banks 0 to 7 (R165). -/
def State.beginStartup (s : State) (stopAsked : Bool) : State :=
  allBanks.foldl State.startReset
    { s with control := { s.control with startup := some { stage := .resetBanks, stopAsked := stopAsked } } }

/-- Stage 2 begins: IDENTIFY is sent and its 1 ms timer starts (R165, R178). -/
def State.beginIdentify (s : State) : State :=
  ({ s.setStage .identify with
    control := { (s.setStage .identify).control with
      identifyTimer := .running (s.now + 1000) } }).emit .identify

/-- The REFORMAT's format of all 128 pages begins (R112, R174). -/
def State.reformatBegin (s : State) : State := (s.setStage .reformatFormat).beginFormat true

/-- A bank has been marked: stage 1, or the resets of a REFORMAT, ends when every bank is (R165, R174).
The resets and the format of a REFORMAT are one stage; DEDUCED, log entry 29. -/
def State.bankMarked (s : State) : State :=
  match s.stage? with
  | some .resetBanks =>
    if allBanks.all (fun b => (s.bank b).presence != .unmarked) then s.endStage State.beginIdentify else s
  | some .reformatReset =>
    if s.banksInUse.all (fun b => (s.bank b).presence != .unmarked) then s.reformatBegin else s
  | _ => s

/-- Whether start-up waits for this bank's mark: stage 1, or the resets of a REFORMAT (R165, R174). -/
def State.awaitsMark (s : State) (b : BankId) : Bool :=
  (match s.stage? with
   | some .resetBanks => true
   | some .reformatReset => true
   | _ => false) && (s.bank b).presence == .unmarked

/-- A bank is marked and its reset is over (R165);
monitor state of an absent bank a DESIGN CHOICE, log entry 16. -/
def State.markBank (s : State) (b : BankId) (presence : Presence) : State :=
  s.setBank b { s.bank b with monitor := .idle, resetTimer := .stopped, awaited := [], presence := presence }

/-- Whether the figures of an IDENTIFY_DONE are accepted (R178). -/
def figuresAccepted (bankCount exponent spares version : Nat) : Bool :=
  (bankCount == 1 || bankCount == 2 || bankCount == 4 || bankCount == 8)
    && decide (12 ≤ exponent) && decide (exponent ≤ 22)
    && decide (16 ≤ spares) && decide (spares ≤ 64) && spares % 8 == 0 && version == 1

/-- An IDENTIFY_DONE is taken in stage 2 (R165, R178). -/
def State.takeIdentify (s : State) (bankCount exponent spares version : Nat) : State :=
  let stopped := { s with control := { s.control with identifyTimer := .stopped } }
  if figuresAccepted bankCount exponent spares version
      && (allBanks.filter (fun b => decide (b.val < bankCount))).all
        (fun b => (s.bank b).presence == .present) then
    ({ stopped with
      geometry := some { banks := bankCount, pages := 2 ^ exponent, spares := spares } }).endStage
        State.beginChoice
  else stopped.enterFaulted .geometry

/-! ## After a format -/

/-- The log a REFORMAT has formatted stands for stages 3 and 4: session 0, FRESH, and every spare free
(R174). -/
def State.takeReformat (s : State) : State :=
  match s.geometry with
  | some g =>
    (State.deriveFree { s with
        control := { s.control with session := 0#32, previous := PreviousFacts.fresh } } g).endStage
      State.beginOpenSession
  | none => s.enterFaulted .geometry

/-- A format has ended: the start-up's is followed by stage 4, the REFORMAT's stands for stages 3 and 4
(R166, R167, R174). A writer that stopped makes the metadata corrupt; DEDUCED, log entry 14. -/
def State.takeFormat (s : State) : State :=
  match s.stage?, s.writer.state with
  | some .format, .idle => s.endStage (fun t => t.beginReplay 0 1)
  | some .format, .stopped => s.enterFaulted .metadataCorrupt
  | some .reformatFormat, .idle => s.takeReformat
  | some .reformatFormat, .stopped => s.enterFaulted .metadataCorrupt
  | _, _ => s

/-- Start-up goes on where a stage waited for the writer (R166, R167). -/
def State.advanceStartup (s : State) : State := s.takeFormat.takeOpenSession

/-! ## REFORMAT (R174) -/

/-- The slots, the counter and the directory are emptied, the epoch list is as R30 gives, and the tables
of the log are emptied (R173, R174). -/
def State.emptyForReplay (s : State) : State :=
  { s with absorb := AbsorbBuffer.afterReset, tracker := EpochTracker.afterReset,
           remap := RemapUnit.afterReset, region := { s.region with table := [], held := none } }

/-- REFORMAT: the bridge enters STARTING and banks 0 to B - 1 are reset (R174), one marked absent among them; DESIGN
CHOICE, log entry 44. -/
def State.beginReformat (s : State) : State :=
  let entered := { s.emptyForReplay with control := { s.control with
    state := .starting, faultReason := .none,
    startup := some { stage := .reformatReset, stopAsked := false } } }
  entered.banksInUse.foldl State.startReset entered

end Sys2Proof.Machine
end

