-- ==== Sys2Proof/Machine/Drain.lean ====
section
/-!
DEFINITION. The beginning and the end of a drain, the start-up of a RESTART, and what every command
ends with (sections 10.4 and 10.5, R141).
-/

namespace Sys2Proof.Machine

/-! ## The beginning of a drain -/

/-- The drain record as a drain begins (R169). -/
def State.drainRecord (s : State) (kind : DrainKind) : Drain :=
  { kind := kind,
    budget := (match kind with | .power => some s.engine.profile.drainBudget | .restart => none),
    count := 0, recordPermitted := s.control.state == .running, shutdown := .notHanded }

/-- A drain begins: the record is set, the bridge enters DRAINING, the actions of leaving RUNNING follow,
a compaction in progress is abandoned, and the end of the drain is judged (R169). -/
def State.beginDrain (s : State) (kind : DrainKind) : State :=
  ((({ s with control := { s.control with
      state := .draining, drain := some (s.drainRecord kind) } }).leaveRunning).abandonCompaction
    ).arbitrateAll

/-- POWER_WARN turns a RESTART drain into a POWER drain; its count starts at 1 when the SHUTDOWN's
program is in flight (R168). A program whose timer has expired is in flight until its bank's RESET_DONE: DEDUCED,
log entry 40. -/
def State.convertDrain (s : State) (d : Drain) : State :=
  { s with control := { s.control with
      drain := some { d with
        kind := .power, budget := some s.engine.profile.drainBudget,
        count := if s.carriesShutdown && s.metaInFlight then 1 else 0 } } }

/-! ## The start-up of a RESTART (R141, R173) -/

/-- A request of the memory lane is taken and answered STARTING, without a RETURN grant (R141, step 1). A badly
formed one is answered STARTING too, and not MALFORMED or MISALIGNED (R69, R135, R136): DESIGN CHOICE, log
entry 41. -/
def State.answerMemStarting (s : State) : MemRequest → State
  | .read r => s.examineTag .memory r.tag (fun t => t.answerRead r.tag .starting)
  | .write w => s.examineTag .memory w.tag (fun t => t.respond w.tag (.writeDone w.tag .starting 0))

/-- A request of the directive lane is taken and answered STARTING or UNKNOWN (R141, step 2), a STATUS_FETCH among
them: DESIGN CHOICE, log entry 41. -/
def State.answerDirStarting (s : State) (d : DirRequest) : State :=
  s.examineTag .directive d.tag (fun t => t.respond d.tag (.directiveDone d.tag
    (if (directiveOf? d.code).isSome then .starting else .unknown) []))

/-- The Host Link Interface empties its lanes and generates the FULL grants (R141). -/
def State.answerLanes (s : State) : State :=
  (s.link.dirLane.foldl State.answerDirStarting
    (s.link.memLane.foldl State.answerMemStarting
      { s with link := { s.link with memLane := [], dirLane := [] } })).fullGrants

/-- The requests given are answered failed or refused, and then those that the Remap Unit and the Region Unit hold
for room, which they hold no more (R101, R102, R151). -/
def State.answerWaiting (s : State) (refused : Bool) (listed : List Request) : State :=
  answerRequests refused [] (listed ++ s.remap.held ++ s.region.held.toList)
    { s with remap := { s.remap with held := [] }, region := { s.region with held := none } }

/-- The writer becomes UNLOADED and the requests still waiting, held ones among them, are answered
refused (R101, R151, R173 step 3). -/
def State.unloadWriter (s : State) : State :=
  ({ s.setPendingMeta none with writer := { s.writer.emptied with state := .unloaded } }).answerWaiting true
    s.writer.unanswered

/-- A RESTART drain has ended: the blocks take their actions in order and start-up runs from stage 1. The geometry,
which R173 does not name, stays as it is until stage 2 (R173); DESIGN CHOICE, log entry 15. -/
def State.restartStartup (s : State) : State :=
  let entered := { s with control := { s.control with state := .starting, drain := none } }
  let unloaded := ((entered.endRecords .starting).answerLanes).unloadWriter
  unloaded.emptyForReplay.beginStartup false

/-! ## The end of a drain (R171) -/

/-- The drain has ended: the bridge is DORMANT, where the slots and the epoch list stay as they are and a directive that
holds the engine is answered (R43, R151, R171), or starts up again (R173). -/
def State.endDrain (s : State) (d : Drain) : State :=
  match d.kind with
  | .power => s.enterDormant.answerHolder
  | .restart => s.restartStartup

/-- The drain is judged as a command ends: its end point, and then whether it is over, its SHUTDOWN being answered, or
at its end point with no record permitted (R171). That the end itself takes place after the command's other effects
is a DESIGN CHOICE, log entry 27. -/
def State.judgeDrain (s : State) : State :=
  let judged := s.judgeEnd
  match judged.control.drain with
  | none => judged
  | some d =>
    match d.shutdown with
    | .answered => judged.endDrain d
    | .handed => judged
    | .notHanded => if judged.drainAtEnd d then judged.endDrain d else judged

/-! ## The end of every command -/

/-- What every command ends with: the drain is judged, start-up goes on, and ALERT is judged (R159, R167,
R171). -/
def State.settle (s : State) : State := (s.judgeDrain.advanceStartup).judgeAlert

/-- A command whose effect is `t` acts when its occasion has come; otherwise it changes nothing. Nothing is
taken while RESET_N is asserted (R164); DESIGN CHOICE, log entry 1. -/
def State.act (s : State) (occasion : Bool) (t : State) : State :=
  if occasion && !s.pins.resetAsserted then t.settle else s

end Sys2Proof.Machine
end

