-- ==== Sys2Proof/Machine/ArrayCompletions.lean ====
section
/-!
DEFINITION. The completions of the Array Link: READ_DONE, PROGRAM_DONE, SUSPEND_ACK, RESET_DONE and
IDENTIFY_DONE (chapters 3, 10 and 11).
-/

namespace Sys2Proof.Machine

/-! ## What is taken and what is stale (R175, R176) -/

/-- Whether a completion may name this bank: it is one of the array's, once IDENTIFY has been adopted. Stage 1
comes before IDENTIFY and awaits all eight banks (R165, R175); in the start-up of a RESTART, which keeps the
geometry until then, DESIGN CHOICE, log entry 15. -/
def State.namesBank (s : State) (bank : Nat) : Bool :=
  s.geometry.isNone || decide (bank < s.bankCount)
    || (match s.stage? with
        | some .resetBanks => true
        | _ => false)

/-- The bank of a completion that is taken: it may name this bank, and the bank's awaited set holds the completion.
Every other completion is discarded (R175, R176). -/
def State.takingBank? (s : State) (bank : Nat) (a : Awaited) : Option BankId :=
  match bankId? bank with
  | some b => if s.namesBank bank && (s.bank b).awaited.contains a then some b else none
  | none => none

/-- A taken completion leaves the awaited set (R176). -/
def State.untilTaken (s : State) (b : BankId) (a : Awaited) : State :=
  s.setBank b { s.bank b with awaited := (s.bank b).awaited.filter (fun x => x != a) }

/-- Whether a completion of a bank is taken now; none is while RESET_N is asserted (R164, R176). -/
def State.taking (s : State) (bank : Nat) (a : Awaited) : Bool := (s.takingBank? bank a).isSome

/-! ## READ_DONE (R62, R63) -/

/-- A read job has ended well: its owner takes the page (R47, R62). -/
def State.jobComplete (s : State) (job : ReadJob) (data : PageData) : State :=
  match job.owner with
  | .fill i => s.fillComplete i (PageData.toBytes data)
  | .host tag => s.readComplete tag (PageData.toBytes data)
  | .startup page => s.startupPage page data

/-- A read job has failed after its retry: its owner gives the consequence (R24, R63, R78, R166). -/
def State.jobFailed (s : State) (job : ReadJob) (timeout : Bool) : State :=
  match job.owner with
  | .fill i => s.fillFailed i
  | .host tag => s.readFailed tag timeout
  | .startup _ => s.startupReadFailed

/-- The page an outcome carries: a page of other than 256 bytes is taken as READ_FAIL (R175). -/
def pageOf? : ReadOutcome → Option PageData
  | .ok data => if PageData.whole data then some data else none
  | .readFail => none

/-- The read in hand has ended: it is absent and its timer is stopped (R62). -/
def State.clearRead (s : State) (b : BankId) : State :=
  s.setBank b { s.bank b with read := none, readTimer := .stopped }

/-- The outcome of the read in hand: its owner takes the page, or the job is retried once, or it ends as
failed; then the bank goes on (R62, R63). -/
def State.takeRead? (s : State) (b : BankId) (outcome : ReadOutcome) : State :=
  match (s.bank b).read with
  | none => s
  | some job =>
    match pageOf? outcome with
    | some data => ((s.clearRead b).jobComplete job data).afterRead b
    | none =>
      if job.retried then ((s.clearRead b).jobFailed job false).afterRead b
      else (s.requeueRead b job).afterRead b

/-- A READ_DONE that is taken (R62). -/
def State.takeReadDone (s : State) (bank tag : Nat) (outcome : ReadOutcome) : State :=
  match s.takingBank? bank (.readDone tag) with
  | some b => (s.untilTaken b (.readDone tag)).takeRead? b outcome
  | none => s

/-- READ_DONE (R62). -/
def execReadDone (bank tag : Nat) (outcome : ReadOutcome) (s : State) :
    Host.Outcome State Fault Refusal :=
  .next (s.act (s.taking bank (.readDone tag)) (s.takeReadDone bank tag outcome))

/-! ## PROGRAM_DONE (R54, R55, R60, R65) -/

/-- The program in hand of a bank replaced. -/
def State.setProgram (s : State) (b : BankId) (p : ProgramInHand) : State :=
  s.setBank b { s.bank b with program := p }

/-- The attempt count of a slot rises by one (R55, R56, R61). -/
def State.countAttempt (s : State) (i : SlotId) : State :=
  s.setSlot i { s.slot i with attempts := (s.slot i).attempts + 1 }

/-- A failed attempt is judged against RETRY_LIMIT: a retry is due and the slot is placed at the front of
the program queue, or the slot is handed to the Remap Unit (R55, R57). -/
def State.judgeAttempt (s : State) (b : BankId) (i : SlotId) : State :=
  if (s.slot i).attempts ≤ s.engine.profile.retryLimit then
    (s.setProgram b (.data i .retryDue)).pushFront b i
  else (s.setProgram b .absent).handoff b i

/-- The outcome of a data program (R54, R55). The end point of a drain is judged as it is taken (R171). -/
def State.dataOutcome (s : State) (b : BankId) (i : SlotId) (outcome : ProgramOutcome) : State :=
  match outcome with
  | .ok => ((s.setProgram b .absent).programmedOk i).judgeEnd.kick
  | .programFail => ((s.countAttempt i).judgeAttempt b i).judgeEnd

/-- The program timer stops if the bank is PROGRAMMING (R54, R55). -/
def State.stopProgramTimer (s : State) (b : BankId) : State :=
  if (s.bank b).monitor = .programming then
    s.setBank b { s.bank b with programTimer := .stopped }
  else s

/-- The bank leaves its program unless an answer to its SUSPEND is still awaited (R60). -/
def State.endProgram (s : State) (b : BankId) : State :=
  if (s.bank b).awaited.isEmpty then s.leaveProgram b else s

/-- A PROGRAM_DONE that is taken, for the data or the metadata program in hand (R54, R55, R65). -/
def State.takeProgramDone (s : State) (bank tag : Nat) (outcome : ProgramOutcome) : State :=
  match s.takingBank? bank (.programDone tag) with
  | none => s
  | some b =>
    let taken := (s.untilTaken b (.programDone tag)).stopProgramTimer b
    match (s.bank b).program with
    | .data i _ => (taken.dataOutcome b i outcome).endProgram b
    | .metadata =>
      ((taken.setProgram b .absent).metadataOutcome (outcome == .ok)).endProgram b
    | .absent => taken

/-- PROGRAM_DONE (R54). -/
def execProgramDone (bank tag : Nat) (outcome : ProgramOutcome) (s : State) :
    Host.Outcome State Fault Refusal :=
  .next (s.act (s.taking bank (.programDone tag)) (s.takeProgramDone bank tag outcome))

/-! ## SUSPEND_ACK (R59, R60) -/

/-- A program is suspended: the slot goes to SUSPENDED, the timer pauses, a batch is fixed and served
(R59, R177). -/
def State.suspendProgram (s : State) (b : BankId) (i : SlotId) : State :=
  ((s.setSlot i { s.slot i with state := .suspended, suspends := (s.slot i).suspends + 1 }).setBank b
    { s.bank b with
      monitor := .suspended, programTimer := (s.bank b).programTimer.pause s.now, awaited := [],
      batch := (s.bank b).readQueue.length }).serveSuspended b

/-- A SUSPEND_ACK that is taken: it suspends a program whose outcome has not been taken, and otherwise
ends SUSPEND_PENDING once the outcome is there (R59, R60). -/
def State.takeSuspendAck (s : State) (bank tag : Nat) (answer : SuspendAnswer) : State :=
  match s.takingBank? bank (.suspendAck tag) with
  | none => s
  | some b =>
    let taken := s.untilTaken b (.suspendAck tag)
    match (s.bank b).program, answer with
    | .data i .inFlight, .suspended => taken.suspendProgram b i
    | .data _ .inFlight, .notActive => taken
    | _, _ => taken.endProgram b

/-- SUSPEND_ACK (R59). -/
def execSuspendAck (bank tag : Nat) (answer : SuspendAnswer) (s : State) :
    Host.Outcome State Fault Refusal :=
  .next (s.act (s.taking bank (.suspendAck tag)) (s.takeSuspendAck bank tag answer))

/-! ## RESET_DONE (R61, R63, R64, R165) -/

/-- The outcome of the program a reset has interrupted: a failed attempt is judged, a metadata program is
reported failed (R56, R61, R65). One whose outcome was taken before stands (R60). A POWER drain can end while a bank is
in reset after a read timeout under a suspended program, and the attempt is judged in DORMANT too, where its slot may be
stranded and the epoch list change: R61 and R64 against R43; DESIGN CHOICE, log entry 46. -/
def State.interruptedProgram (s : State) (b : BankId) : State :=
  match (s.bank b).program with
  | .data i .failed => s.judgeAttempt b i
  | .data i .interrupted => s.judgeAttempt b i
  | .data _ .inFlight => s
  | .data _ .retryDue => s
  | .metadata => (s.setProgram b .absent).metadataOutcome false
  | .absent => s

/-- The end of a read that a reset has interrupted after its second failure, a timeout (R63). -/
def State.interruptedRead (s : State) (b : BankId) : State :=
  match (s.bank b).read with
  | some job => (s.clearRead b).jobFailed job true
  | none => s

/-- A bank leaves RESETTING: the interrupted program and read take their outcomes, the end point of a drain is judged
(R171), and then a retry due is issued or the bank enters IDLE and fixes a batch (R64). -/
def State.leaveReset (s : State) (b : BankId) : State :=
  let settled := ((s.interruptedProgram b).judgeEnd).interruptedRead b
  if (settled.bank b).monitor = .resetting then settled.leaveProgram b else settled

/-- A RESET_DONE that is taken: it marks the bank present in stage 1 and at a REFORMAT, and otherwise ends
the reset (R64, R165, R174). -/
def State.takeResetDone (s : State) (bank : Nat) : State :=
  match s.takingBank? bank .resetDone with
  | none => s
  | some b =>
    if s.awaitsMark b then (s.markBank b .present).bankMarked
    else
      (s.setBank b { s.bank b with resetTimer := .stopped, awaited := [] }).leaveReset b

/-- RESET_DONE (R64). -/
def execResetDone (bank : Nat) (s : State) : Host.Outcome State Fault Refusal :=
  .next (s.act (s.taking bank .resetDone) (s.takeResetDone bank))

/-! ## IDENTIFY_DONE (R165, R178) -/

/-- Whether an IDENTIFY_DONE is taken: in stage 2, while its timer runs (R178). -/
def State.identifyDue (s : State) : Bool :=
  (match s.stage? with
   | some .identify => true
   | _ => false) && s.control.identifyTimer.isRunning

/-- IDENTIFY_DONE (R178). -/
def execIdentifyDone (bankCount exponent spares version : Nat) (s : State) :
    Host.Outcome State Fault Refusal :=
  .next (s.act s.identifyDue (s.takeIdentify bankCount exponent spares version))

end Sys2Proof.Machine
end

