-- ==== Sys2Proof/Machine/Directives.lean ====
section
/-!
DEFINITION. The Directive Engine: taking, judging and carrying out the directives, and the joining of
requests held for room in the pending-append list (chapters 2, 5, 7, 9 and 10).
-/

namespace Sys2Proof.Machine

/-! ## Taking and judging (R133, R149, R150) -/

/-- The directive at the front of its lane, if the engine may take it (R133, R137). -/
def State.directiveDue? (s : State) : Option DirRequest :=
  match s.link.dirLane, s.engine.current with
  | d :: _, .absent => if s.canTake then some d else none
  | _, _ => none

/-- The directive at the front of its lane, if it may be taken and its code names this directive (R133,
R143). -/
def State.dueAs? (s : State) (which : Directive) : Option DirRequest :=
  match s.directiveDue? with
  | some d => if directiveOf? d.code = some which then some d else none
  | none => none

/-- The oldest directive leaves its lane and its credit is returned (R130, R133). -/
def State.popDirective (s : State) : State :=
  ({ s with link := { s.link with dirLane := s.link.dirLane.drop 1 } }).returnCredit .directive

/-- Whether a directive leaves range staging as it is (R120). -/
def Directive.exempt : Directive → Bool
  | .rangeFirst => true
  | .rangeLast => true
  | .rangeApply => true
  | .rangeScrub => true
  | .statusFetch => true
  | .incidentTake => true
  | .regionList => true
  | .remapQuery => true
  | .flush => false
  | .release => false
  | .restart => false
  | .reformat => false
  | .profile => false

/-- Whether a directive is admitted in DEGRADED (R150). -/
def Directive.inDegraded : Directive → Bool
  | .statusFetch => true
  | .incidentTake => true
  | .regionList => true
  | .remapQuery => true
  | .profile => true
  | .flush => true
  | .restart => true
  | _ => false

/-- Whether a directive is admitted (R150). -/
def State.admits (s : State) (which : Directive) : Bool :=
  match s.control.state with
  | .starting => which == .statusFetch
  | .running => which != .reformat
  | .degraded => which.inDegraded
  | .draining => which == .statusFetch || which == .incidentTake
  | .dormant => which == .statusFetch || which == .incidentTake
  | .faulted =>
    which == .statusFetch || which == .incidentTake
      || (which == .reformat && s.control.faultReason == .metadataCorrupt)

/-- Whether a directive's payload is of its length (R142, R149 step 4). -/
def DirRequest.lengthOk (d : DirRequest) (which : Directive) : Bool :=
  decide (d.payloadLength ≤ 64) && d.payloadLength == d.payload.length
    && d.payloadLength == which.payloadLength

/-- A directive is judged in its order, and carried out if it is admitted with a payload of its length
(R149). -/
def State.judgeDirective (s : State) (which : Directive) (d : DirRequest)
    (body : DirRequest → State → State) : State :=
  let staged := if which.exempt then s else s.discardStaging
  if !staged.admits which then
    staged.answerDirective d.tag (if staged.control.state = .starting then .starting else .halted) []
  else if !d.lengthOk which then staged.answerDirective d.tag .badArgument []
  else body d staged

/-- A directive is taken, its tag examined, and judged (R133, R134, R149). -/
def State.takeDirective (s : State) (which : Directive) (d : DirRequest)
    (body : DirRequest → State → State) : State :=
  s.popDirective.examineTag .directive d.tag (fun t => t.judgeDirective which d body)

/-- What every command of a directive does: it acts when the directive at the front of the lane may be
taken and is this one. -/
def execDirective (which : Directive) (body : DirRequest → State → State) (s : State) :
    Host.Outcome State Fault Refusal :=
  match s.dueAs? which with
  | some d => .next (s.act true (s.takeDirective which d body))
  | none => .next s

/-! ## FLUSH (R34) -/

/-- FLUSH takes a fence, or is answered BUSY when the epoch list is full (R34). -/
def flushBody (d : DirRequest) (s : State) : State :=
  if s.tracker.epochs.length < 8 then
    s.takeFence true (fun fence t => t.answerDirective d.tag .done (leBytes 2 fence))
  else s.answerDirective d.tag .busy []

/-- FLUSH (R34). -/
def execFlush (s : State) : Host.Outcome State Fault Refusal := execDirective .flush flushBody s

/-! ## Range staging (R119) -/

/-- The state with the staging replaced (R119). -/
def State.setStaging (s : State) (staging : Staging) : State :=
  { s with region := { s.region with staging := staging } }

/-- RANGE_FIRST (R119). -/
def rangeFirstBody (d : DirRequest) (s : State) : State :=
  match s.region.staging with
  | .empty =>
    if d.field 0 4 < s.capacityPages then
      (s.setStaging (.firstSet (d.field 0 4))).answerDirective d.tag .done []
    else s.answerDirective d.tag .badArgument []
  | .firstSet _ => (s.setStaging .empty).answerDirective d.tag .sequence []
  | .bothSet _ _ => (s.setStaging .empty).answerDirective d.tag .sequence []

/-- RANGE_FIRST (R119). -/
def execRangeFirst (s : State) : Host.Outcome State Fault Refusal :=
  execDirective .rangeFirst rangeFirstBody s

/-- RANGE_LAST (R119). -/
def rangeLastBody (d : DirRequest) (s : State) : State :=
  match s.region.staging with
  | .firstSet first =>
    if first ≤ d.field 0 4 ∧ d.field 0 4 < s.capacityPages then
      (s.setStaging (.bothSet first (d.field 0 4))).answerDirective d.tag .done []
    else s.answerDirective d.tag .badArgument []
  | .empty => (s.setStaging .empty).answerDirective d.tag .sequence []
  | .bothSet _ _ => (s.setStaging .empty).answerDirective d.tag .sequence []

/-- RANGE_LAST (R119). -/
def execRangeLast (s : State) : Host.Outcome State Fault Refusal :=
  execDirective .rangeLast rangeLastBody s

/-! ## RANGE_APPLY (R121, R122) -/

/-- What RANGE_APPLY comes to: a result without a record, with the matching entry for DONE, or a change
whose record is requested (R121). -/
inductive ApplyOutcome where
  | answer (result : Result) (entry : Option (Nat × Region))
  | change (c : RegionChange)
deriving DecidableEq, Repr

/-- RANGE_APPLY of GUARDED or FIXED on a table (R121). -/
def judgeProtect (first last : Nat) (attr : RegionAttr) (table : List Region) : ApplyOutcome :=
  match exactMatch? first last table, attr with
  | some { first := f, last := l, attr := .guarded }, .guarded =>
    .answer .done (some ((exactIndex? first last 0 table).getD 0,
      { first := f, last := l, attr := .guarded }))
  | some { first := _, last := _, attr := .guarded }, .fixed => .change (.promote first last)
  | some { first := f, last := l, attr := .fixed }, .fixed =>
    .answer .done (some ((exactIndex? first last 0 table).getD 0,
      { first := f, last := l, attr := .fixed }))
  | _, _ =>
    if table.any (overlaps first last) then .answer .overlap none
    else if 16 ≤ table.length then .answer .full none
    else .change (.add first last attr)

/-- RANGE_APPLY of NONE on a table (R121). -/
def judgeClear (first last : Nat) (table : List Region) : ApplyOutcome :=
  match exactMatch? first last table with
  | some r =>
    match r.attr with
    | .guarded => .change (.remove first last)
    | .fixed => .answer .refusedFixed none
  | none => .answer .noMatch none

/-- RANGE_APPLY on the staged range, by its attribute: 0 NONE, 1 GUARDED, 2 FIXED (R121, R143). -/
def judgeApply (attr first last : Nat) (table : List Region) : ApplyOutcome :=
  if attr = 0 then judgeClear first last table
  else if attr = 1 then judgeProtect first last .guarded table
  else if attr = 2 then judgeProtect first last .fixed table
  else .answer .badArgument none

/-- A region change's request joins the pending-append list, or waits for room while the directive holds
the engine (R122, R151). -/
def State.requestRegion (s : State) (c : RegionChange) : State :=
  if 8 ≤ s.writer.list.length then
    { s with region := { s.region with held := some (Request.of (.region c)) } }
  else (s.joinRequest (Request.of (.region c))).kick

/-- The outcome of RANGE_APPLY (R121, R122). -/
def State.takeApply (s : State) (tag : Nat) : ApplyOutcome → State
  | .answer result none => s.answerDirective tag result []
  | .answer result (some (k, r)) =>
    s.answerDirective tag result (regionEntryBytes k (some r.attr) r.first r.last)
  | .change c => ({ s with engine := { s.engine with current := .rangeApply tag } }).requestRegion c

/-- RANGE_APPLY (R119, R121). -/
def rangeApplyBody (d : DirRequest) (s : State) : State :=
  match s.region.staging with
  | .bothSet first last =>
    (s.setStaging .empty).takeApply d.tag (judgeApply (d.field 0 1) first last s.region.table)
  | .empty => (s.setStaging .empty).answerDirective d.tag .sequence []
  | .firstSet _ => (s.setStaging .empty).answerDirective d.tag .sequence []

/-- RANGE_APPLY (R121). -/
def execRangeApply (s : State) : Host.Outcome State Fault Refusal :=
  execDirective .rangeApply rangeApplyBody s

/-! ## RANGE_SCRUB (R124) -/

/-- The walker's record at the beginning of a scrub (R124). -/
def Walker.start (first last : Nat) : Walker :=
  { first := first, last := last, next := first, zeroed := 0, skipped := 0 }

/-- RANGE_SCRUB (R119, R124). -/
def rangeScrubBody (d : DirRequest) (s : State) : State :=
  match s.region.staging, s.region.walker with
  | .bothSet _ _, some _ => (s.setStaging .empty).answerDirective d.tag .busy []
  | .bothSet first last, none =>
    ({ s with region := { s.region with
        staging := .empty, walker := some (Walker.start first last) } }).answerDirective d.tag .started []
  | .empty, _ => (s.setStaging .empty).answerDirective d.tag .sequence []
  | .firstSet _, _ => (s.setStaging .empty).answerDirective d.tag .sequence []

/-- RANGE_SCRUB (R124). -/
def execRangeScrub (s : State) : Host.Outcome State Fault Refusal :=
  execDirective .rangeScrub rangeScrubBody s

/-! ## REGION_LIST (R123) -/

/-- Whether a start index is 0, 4, 8 or 12 (R123). -/
def startIndexOk (start : Nat) : Bool := start == 0 || start == 4 || start == 8 || start == 12

/-- REGION_LIST (R123). -/
def regionListBody (d : DirRequest) (s : State) : State :=
  if startIndexOk (d.field 0 1) then
    s.answerDirective d.tag .done (regionListBytes (d.field 0 1) s.region.table)
  else s.answerDirective d.tag .badArgument []

/-- REGION_LIST (R123). -/
def execRegionList (s : State) : Host.Outcome State Fault Refusal :=
  execDirective .regionList regionListBody s

/-! ## RELEASE (R94) -/

/-- RELEASE of a STRANDED slot (R94, steps 3 to 5). -/
def State.releaseStranded (s : State) (tag : Nat) (i : SlotId) : State :=
  let page := (s.slot i).page
  if s.isLost page then (s.freeSlot i).answerDirective tag .done (leBytes 4 page)
  else if 32 ≤ s.remap.lost.length then s.answerDirective tag .full []
  else
    (({ s with engine := { s.engine with
        current := .release tag i (s.slot i).age page } }).handOwn (.lost page)).kick

/-- RELEASE (R94). -/
def releaseBody (d : DirRequest) (s : State) : State :=
  if h : d.field 0 1 < 32 then
    if (s.slot ⟨d.field 0 1, h⟩).state = .stranded then s.releaseStranded d.tag ⟨d.field 0 1, h⟩
    else s.answerDirective d.tag .noMatch []
  else s.answerDirective d.tag .badArgument []

/-- RELEASE (R94). -/
def execRelease (s : State) : Host.Outcome State Fault Refusal := execDirective .release releaseBody s

/-! ## REMAP_QUERY (R96) -/

/-- REMAP_QUERY (R96). -/
def remapQueryBody (d : DirRequest) (s : State) : State :=
  if d.field 0 4 < s.capacityPages then
    s.answerDirective d.tag .done (s.remapReport (d.field 0 4))
  else s.answerDirective d.tag .badArgument []

/-- REMAP_QUERY (R96). -/
def execRemapQuery (s : State) : Host.Outcome State Fault Refusal :=
  execDirective .remapQuery remapQueryBody s

/-! ## RESTART and REFORMAT (R172, R174) -/

/-- RESTART: it is answered STARTED and a RESTART drain begins (R172). -/
def restartBody (d : DirRequest) (s : State) : State :=
  (s.answerDirective d.tag .started []).beginDrain .restart

/-- RESTART (R172). -/
def execRestart (s : State) : Host.Outcome State Fault Refusal := execDirective .restart restartBody s

/-- REFORMAT: it is answered STARTED and the bridge enters STARTING at the format (R174). -/
def reformatBody (d : DirRequest) (s : State) : State :=
  (s.answerDirective d.tag .started []).beginReformat

/-- REFORMAT (R174). -/
def execReformat (s : State) : Host.Outcome State Fault Refusal := execDirective .reformat reformatBody s

/-! ## STATUS_FETCH and INCIDENT_TAKE (R158, R161) -/

/-- STATUS_FETCH: mode 0 is PEEK; mode 1, TAKE, empties the latched set it reports (R158). -/
def statusFetchBody (d : DirRequest) (s : State) : State :=
  if d.field 0 1 = 0 then s.answerDirective d.tag .done (s.statusRecord s.liveSet)
  else if d.field 0 1 = 1 then
    ({ s with engine := { s.engine with latched := 0#32 } }).answerDirective d.tag .done
      (s.statusRecord s.liveSet)
  else s.answerDirective d.tag .badArgument []

/-- STATUS_FETCH (R158). -/
def execStatusFetch (s : State) : Host.Outcome State Fault Refusal :=
  execDirective .statusFetch statusFetchBody s

/-- INCIDENT_TAKE: the oldest records, at most four, leave the queue and are returned (R161). -/
def incidentTakeBody (d : DirRequest) (s : State) : State :=
  ({ s with engine := { s.engine with incidents := s.engine.incidents.drop 4 } }).answerDirective d.tag
    .done (incidentTakeBytes (s.engine.incidents.take 4))

/-- INCIDENT_TAKE (R161). -/
def execIncidentTake (s : State) : Host.Outcome State Fault Refusal :=
  execDirective .incidentTake incidentTakeBody s

/-! ## PROFILE (R145, R152 to R155) -/

/-- The bits of the 18 conditions: the bits of ALERT_MASK beyond them are ignored (R144, R152). -/
def conditionBits : BitVec 32 := 0x3FFFF#32

/-- Whether a group of a PROFILE request is marked KEEP; groups are numbered from 1 (R145). -/
def keeps (d : DirRequest) (group : Nat) : Bool := (BitVec.ofNat 8 (d.field 1 1)).getLsbD (group - 1)

/-- The values a group may take (R152). -/
def groupValid (group value : Nat) : Bool :=
  if group = 2 then decide (value ≤ 16)
  else if group = 3 then decide (value ≤ 7)
  else if group = 4 then decide (value ≤ 3)
  else if group = 5 then decide (8 ≤ value)
  else true

/-- The value a PROFILE request carries for one of the groups 1 to 5 (R145). -/
def groupValue (d : DirRequest) (group : Nat) : Nat := d.field (group + 1) 1

/-- The invalid set: bit g - 1 for each group g that is neither valid nor KEEP; groups 1 and 6 are never
invalid (R145, R152). -/
def invalidSet (d : DirRequest) : Nat :=
  ([2, 3, 4, 5].map (fun g =>
    if keeps d g || groupValid g (groupValue d g) then 0 else 2 ^ (g - 1))).sum

/-- The profile a request asks for: the value of each group not marked KEEP (R153, R154). -/
def Profile.requested (p : Profile) (d : DirRequest) : Profile :=
  { closeAge := if keeps d 1 then p.closeAge else groupValue d 1,
    lowWater := if keeps d 2 then p.lowWater else groupValue d 2,
    suspendBudget := if keeps d 3 then p.suspendBudget else groupValue d 3,
    retryLimit := if keeps d 4 then p.retryLimit else groupValue d 4,
    drainBudget := if keeps d 5 then p.drainBudget else groupValue d 5,
    alertMask := if keeps d 6 then p.alertMask else BitVec.ofNat 32 (d.field 8 4) &&& conditionBits }

/-- A value of the profile reply, zero for an invalid group (R145). -/
def replyByte (invalid group value : Nat) : List Byte :=
  leBytes 1 (if (BitVec.ofNat 8 invalid).getLsbD (group - 1) then 0 else value)

/-- The profile reply: the mode, the invalid set, and a value for each valid group (R145). -/
def profileReply (mode invalid : Nat) (p : Profile) : List Byte :=
  leBytes 1 mode ++ leBytes 1 invalid ++ replyByte invalid 1 p.closeAge ++ replyByte invalid 2 p.lowWater
    ++ replyByte invalid 3 p.suspendBudget ++ replyByte invalid 4 p.retryLimit
    ++ replyByte invalid 5 p.drainBudget ++ leBytes 1 0 ++ leBytes 4 p.alertMask.toNat

/-- PROFILE with mode PROBE: the values an APPLY would put in effect; nothing changes (R153). With some group invalid a
valid one is reported as requested, by R153's second sentence, where the example of section 9.7 gives the value in
effect, as the failed APPLY reports it: DESIGN CHOICE, log entry 42. -/
def State.probeProfile (s : State) (d : DirRequest) : State :=
  s.answerDirective d.tag (if invalidSet d = 0 then .done else .badArgument)
    (profileReply 0 (invalidSet d) (s.engine.profile.requested d))

/-- PROFILE with mode APPLY: all groups or none; a change of LOW_WATER is judged at once (R17, R154,
R155). -/
def State.applyProfile (s : State) (d : DirRequest) : State :=
  if invalidSet d = 0 then
    ({ s with engine := { s.engine with profile := s.engine.profile.requested d } }.lowWaterClosure
      ).answerDirective d.tag .done (profileReply 1 0 (s.engine.profile.requested d))
  else s.answerDirective d.tag .badArgument (profileReply 1 (invalidSet d) s.engine.profile)

/-- PROFILE: mode 0 is PROBE and mode 1 APPLY (R152). -/
def profileBody (d : DirRequest) (s : State) : State :=
  if d.field 0 1 = 0 then s.probeProfile d
  else if d.field 0 1 = 1 then s.applyProfile d
  else s.answerDirective d.tag .badArgument []

/-- PROFILE (R152). -/
def execProfile (s : State) : Host.Outcome State Fault Refusal := execDirective .profile profileBody s

/-! ## A code that names no directive (R149) -/

/-- An unknown directive discards the staging and is answered UNKNOWN in every bridge state (R149, step 1). -/
def State.answerUnknown (s : State) (d : DirRequest) : State :=
  s.discardStaging.answerDirective d.tag .unknown []

/-- The directive at the front of its lane, if it may be taken and its code names none (R133, R143). -/
def State.unknownDue? (s : State) : Option DirRequest :=
  match s.directiveDue? with
  | some d => if (directiveOf? d.code).isNone then some d else none
  | none => none

/-- UNKNOWN_DIRECTIVE (R149). -/
def execUnknownDirective (s : State) : Host.Outcome State Fault Refusal :=
  match s.unknownDue? with
  | some d =>
    .next (s.act true (s.popDirective.examineTag .directive d.tag (fun t => t.answerUnknown d)))
  | none => .next s

/-! ## Held requests (R102) -/

/-- The oldest request the Remap Unit holds joins the list, or a request of the unrecorded retirements that go
ahead of it (R86, R88, R102). -/
def State.joinHeldRemap (s : State) (r : Request) : State := (s.handHeld r).kick

/-- The request a RANGE_APPLY holds joins the list (R102, R122). -/
def State.joinHeldRegion (s : State) (r : Request) : State :=
  (({ s with region := { s.region with held := none } }).joinRequest r).kick

/-- The request a requester holds, if the list has room for it (R102). In DORMANT and FAULTED none joins, so that the
slots and the epoch list stay as they are (R43, R163); DEDUCED, log entry 39. -/
def State.heldDue? (s : State) (who : Requester) : Option Request :=
  if s.writer.list.length < 8 ∧ s.control.state ≠ .dormant ∧ s.control.state ≠ .faulted then
    match who with
    | .remapUnit => s.remap.held.head?
    | .regionUnit => s.region.held
  else none

/-- METADATA_REQUEST_JOIN (R102). -/
def execMetadataRequestJoin (who : Requester) (s : State) : Host.Outcome State Fault Refusal :=
  match s.heldDue? who with
  | some r =>
    .next (s.act true (match who with
      | .remapUnit => s.joinHeldRemap r
      | .regionUnit => s.joinHeldRegion r))
  | none => .next s

end Sys2Proof.Machine
end

