-- ==== Sys2Proof/Machine/HostMemory.lean ====
section
/-!
DEFINITION. The memory lane's commands: arrival, READ_TAKE, WRITE_TAKE, STALLED_WRITE_ABSORB, and
PACKET_SEND (chapters 1, 4 and 8).
-/

namespace Sys2Proof.Machine

/-! ## Arrival (R130, R131) -/

/-- A memory request joins the end of its lane, or is discarded with LINK_OVERRUN (R131). -/
def State.arriveMemory (s : State) (r : MemRequest) : State :=
  if s.link.memLane.length < 16 then
    { s with link := { s.link with
        memLane := s.link.memLane ++ [r], memCredits := s.link.memCredits - 1 } }
  else s.latch .linkOverrun

/-- A directive joins the end of its lane, or is discarded with LINK_OVERRUN (R131). -/
def State.arriveDirective (s : State) (d : DirRequest) : State :=
  if s.link.dirLane.length < 4 then
    { s with link := { s.link with
        dirLane := s.link.dirLane ++ [d], dirCredits := s.link.dirCredits - 1 } }
  else s.latch .linkOverrun

/-- A host packet arrives (R131). -/
def State.arrive (s : State) (packet : List Byte) : State :=
  match parsePacket packet with
  | .memory r => s.arriveMemory r
  | .directive d => s.arriveDirective d
  | .unknownKind => s.latch .linkOverrun

/-- HOST_REQUEST_ARRIVAL (R131). -/
def execHostRequestArrival (packet : List Byte) (s : State) : Host.Outcome State Fault Refusal :=
  .next (s.act true (s.arrive packet))

/-! ## Taking a request into the memory lane head (R132) -/

/-- The oldest memory request leaves its lane and its credit is returned (R130, R132). -/
def State.popMemory (s : State) : State :=
  ({ s with link := { s.link with memLane := s.link.memLane.drop 1 } }).returnCredit .memory

/-- The read at the front of the memory lane, if one may be taken into the empty head (R132, R137). -/
def State.readDue? (s : State) : Option ReadRequest :=
  match s.link.memLane, s.link.head with
  | .read r :: _, none => if s.canTake then some r else none
  | _, _ => none

/-- The write at the front of the memory lane, if one may be taken into the empty head (R132, R137). -/
def State.writeDue? (s : State) : Option WriteRequest :=
  match s.link.memLane, s.link.head with
  | .write w :: _, none => if s.canTake then some w else none
  | _, _ => none

/-- A read is taken, its tag examined, and checked and bound (R69, R132, R134). -/
def State.takeRead (s : State) (r : ReadRequest) : State :=
  s.popMemory.examineTag .memory r.tag (fun t => t.judgeRead r)

/-- READ_TAKE (R69). -/
def execReadTake (s : State) : Host.Outcome State Fault Refusal :=
  match s.readDue? with
  | some r => .next (s.act true (s.takeRead r))
  | none => .next s

/-! ## Writes (R7, R33, R117, R135) -/

/-- A write is answered without being absorbed (R135). -/
def State.answerWrite (s : State) (tag : Nat) (result : Result) : State :=
  s.respond tag (.writeDone tag result 0)

/-- A write refused by the region check (R117). -/
def State.protectWrite (s : State) (w : WriteRequest) (region : Nat) : State :=
  ((s.answerWrite w.tag .protectedPage).latch .protectedWrite).raise
    { kind := .protectedWrite, page := some (w.address / 256), region := some region,
      operation := some w.tag }

/-- Whether a write can be absorbed now: with room in the epoch list if it carries FENCE, and a slot to
merge into or a FREE one (R14, R33). -/
def State.canAbsorb (s : State) (w : WriteRequest) : Bool :=
  (!w.fence || decide (s.tracker.epochs.length < 8))
    && ((s.mergeEligible? (w.address / 256)).isSome || s.lowestFree?.isSome)

/-- A write is absorbed and answered, with its fence if it carries one (R10, R31, R32). -/
def State.absorbHost (s : State) (w : WriteRequest) : State :=
  let absorbed := s.absorbWrite (w.address / 256) (w.address % 256) w.data .host
  if w.fence then
    absorbed.takeFence w.notify (fun fence t => t.respond w.tag (.writeDone w.tag .ok fence))
  else absorbed.respond w.tag (.writeDone w.tag .ok 0)

/-- A write that passed every check is absorbed, or waits at the memory lane head (R14, R33, R132). -/
def State.absorbOrWait (s : State) (w : WriteRequest) : State :=
  if s.canAbsorb w then s.absorbHost w else { s with link := { s.link with head := some w } }

/-- The checks of a write, in their order (R135). -/
def State.judgeWrite (s : State) (w : WriteRequest) : State :=
  if w.length = 0 ∨ 64 < w.length ∨ w.data.length ≠ w.length then s.answerWrite w.tag .malformed
  else if w.notify && !w.fence then s.answerWrite w.tag .malformed
  else if 64 < w.address % 64 + w.length then s.answerWrite w.tag .misaligned
  else if s.control.state = .starting then s.answerWrite w.tag .starting
  else if s.control.state ≠ .running then s.answerWrite w.tag .halted
  else if s.capacityBytes ≤ w.address then s.answerWrite w.tag .outOfRange
  else
    match s.coveringRegion? (w.address / 256) with
    | some region => s.protectWrite w region
    | none => s.absorbOrWait w

/-- A write is taken, its tag examined, and checked and absorbed or refused (R132, R134, R135). -/
def State.takeWrite (s : State) (w : WriteRequest) : State :=
  s.popMemory.examineTag .memory w.tag (fun t => t.judgeWrite w)

/-- WRITE_TAKE (R135). -/
def execWriteTake (s : State) : Host.Outcome State Fault Refusal :=
  match s.writeDue? with
  | some w => .next (s.act true (s.takeWrite w))
  | none => .next s

/-- A write waiting at the head is judged again: by the bridge state, by the region table, and by the room
it needs (R7, R33). One whose page has come inside a region is answered PROTECTED when it would be absorbed (R7, R117,
R135), one with FENCE too: the last sentence of R33 is read by R7, which it names; DEDUCED, log entry 34. -/
def State.judgeWaiting (s : State) (w : WriteRequest) : State :=
  let emptied := { s with link := { s.link with head := none } }
  if s.control.state ≠ .running then emptied.answerWrite w.tag .halted
  else
    match s.coveringRegion? (w.address / 256) with
    | some region => if s.canAbsorb w then emptied.protectWrite w region else s
    | none => emptied.absorbOrWait w

/-- STALLED_WRITE_ABSORB (R33). -/
def execStalledWriteAbsorb (s : State) : Host.Outcome State Fault Refusal :=
  match s.link.head with
  | some w => .next (s.act true (s.judgeWaiting w))
  | none => .next s

/-! ## Sending (R137) -/

/-- The packet at the front of the response queue leaves the bridge, as its bytes (R137, R142). -/
def State.sendFront (s : State) : State :=
  match s.link.responses with
  | p :: rest =>
    { s with
      link := { s.link with responses := rest },
      hostOut := s.hostOut ++ [p.bytes (Config.sentTagHighBits s.hostOut.length)] }
  | [] => s

/-- PACKET_SEND (R137). -/
def execPacketSend (s : State) : Host.Outcome State Fault Refusal :=
  .next (s.act (!s.link.responses.isEmpty) s.sendFront)

end Sys2Proof.Machine
end

