-- ==== Sys2Proof/Machine/Pins.lean ====
section
/-!
DEFINITION. The discrete lines: RESET_N and POWER_WARN (R140, R164, R168, R181).
-/

namespace Sys2Proof.Machine

/-- RESET_N is asserted: every piece of volatile state takes its hard-reset value. The level of POWER_WARN,
the clock, what has been sent, and the commands that wait are not the bridge's volatile state (R164);
DEDUCED, log entry 30. -/
def State.hardReset (s : State) : State :=
  { State.reset with
    pins := { State.reset.pins with powerWarn := s.pins.powerWarn },
    now := s.now, arrayOut := s.arrayOut, hostOut := s.hostOut, pending := s.pending }

/-- RESET_N_ASSERT (R164). -/
def execResetNAssert (s : State) : Host.Outcome State Fault Refusal := .next s.hardReset

/-- RESET_N is released: the FULL grants are generated and start-up begins at stage 1, with POWER_WARN
taken at once if it is asserted (R140, R164, R168). -/
def State.release (s : State) : State :=
  (({ s with pins := { s.pins with resetAsserted := false } }).fullGrants).beginStartup s.pins.powerWarn

/-- RESET_N_RELEASE (R140). -/
def execResetNRelease (s : State) : Host.Outcome State Fault Refusal :=
  .next (if s.pins.resetAsserted then s.release.settle else s)

/-- POWER_WARN is taken, with the effect of the bridge state (R168). -/
def State.powerWarn (s : State) : State :=
  match s.control.state, s.control.drain with
  | .starting, _ =>
    { s with control := { s.control with
      startup := s.control.startup.map (fun up => { up with stopAsked := true }) } }
  | .running, _ => s.beginDrain .power
  | .degraded, _ => s.beginDrain .power
  | .draining, some d =>
    (match d.kind with
     | .restart => s.convertDrain d
     | .power => s)
  | .draining, none => s
  | .dormant, _ => s
  | .faulted, _ => s

/-- POWER_WARN_ASSERT (R168). While RESET_N is asserted only the level is kept (R181). -/
def execPowerWarnAssert (s : State) : Host.Outcome State Fault Refusal :=
  if s.pins.powerWarn then .next s
  else
    let risen := { s with pins := { s.pins with powerWarn := true } }
    .next (if s.pins.resetAsserted then risen else risen.powerWarn.settle)

/-- POWER_WARN_DEASSERT: it has no effect in any state (R168). -/
def execPowerWarnDeassert (s : State) : Host.Outcome State Fault Refusal :=
  .next { s with pins := { s.pins with powerWarn := false } }

end Sys2Proof.Machine
end

