-- ==== Sys2Proof/Machine/Scrub.lean ====
section
/-!
DEFINITION. The visits of the scrub walker (R125 to R128).
-/

namespace Sys2Proof.Machine

/-- A visit ends: the walker goes on to the next page, or the scrub is complete (R125, R128). -/
def State.endVisit (s : State) (w : Walker) : State :=
  if w.next = w.last then
    ({ s with region := { s.region with walker := none } }).push (.rangeDone false w.zeroed w.skipped)
  else { s with region := { s.region with walker := some { w with next := w.next + 1 } } }

/-- Whether the memory lane head holds a write that waits for a slot it would take before the walker
(R13); DESIGN CHOICE, log entry 21. -/
def State.headClaimsSlot (s : State) : Bool :=
  match s.link.head with
  | some w =>
    (s.mergeEligible? (w.address / 256)).isNone
      && (!w.fence || decide (s.tracker.epochs.length < 8))
  | none => false

/-- Whether the arbiter grants the walker a slot: the FREE count exceeds LOW_WATER, and the memory lane
head does not take it first (R13, R126). -/
def State.walkerGranted (s : State) : Bool :=
  decide (s.engine.profile.lowWater < s.freeCount) && !s.headClaimsSlot

/-- The walker visits its next page: it is skipped if a region covers it, and otherwise a zero write is
absorbed, by merge or into a slot it is granted; else the walker waits (R125, R126). -/
def State.visit (s : State) (w : Walker) : State :=
  if (s.coveringRegion? w.next).isSome then s.endVisit { w with skipped := w.skipped + 1 }
  else if (s.mergeEligible? w.next).isSome || s.walkerGranted then
    (s.absorbWrite w.next 0 zeroPage .scrub).endVisit { w with zeroed := w.zeroed + 1 }
  else s

/-- SCRUB_VISIT (R125). -/
def execScrubVisit (s : State) : Host.Outcome State Fault Refusal :=
  match s.region.walker with
  | some w => .next (s.act (s.control.state == .running) (s.visit w))
  | none => .next s

end Sys2Proof.Machine
end

