-- ==== Sys2Proof/Machine/Timers.lean ====
section
/-!
DEFINITION. The timers that expire: close, read, program, reset and IDENTIFY (R15, R56, R63, R178, R179). An
expiry brings the clock to the timer's deadline if it has not come there yet.
-/

namespace Sys2Proof.Machine

/-- The moment a timer expires (R181). -/
def State.atExpiry (s : State) (t : Timer) : State := { s with now := expiryTime s.now t }

/-! ## Close timers (R15) -/

/-- Whether a slot is OPEN with its close timer running (R15). -/
def State.closeDue (s : State) (i : SlotId) : Bool :=
  (s.slot i).state == .opened && (s.slot i).closeTimer.isRunning

/-- CLOSE_TIMER_EXPIRY (R15). -/
def execCloseTimerExpiry (i : SlotId) (s : State) : Host.Outcome State Fault Refusal :=
  .next (s.act (s.closeDue i) ((s.atExpiry (s.slot i).closeTimer).closeSlot i))

/-! ## Program timers (R56, R60, R65) -/

/-- The attempt in flight fails, by its own timer or by that of a read under its suspension: the slot's count rises
by one and its judgement waits for the RESET_DONE (R56, R61). An attempt whose outcome has been taken stands (R60). -/
def State.failAttempt (s : State) (b : BankId) (phase : ProgramPhase) : State :=
  match (s.bank b).program with
  | .data i .inFlight =>
    (s.setSlot i { s.slot i with state := .programming, attempts := (s.slot i).attempts + 1 }).setBank b
      { s.bank b with program := .data i phase }
  | .data _ .failed => s
  | .data _ .interrupted => s
  | .data _ .retryDue => s
  | .metadata => s
  | .absent => s

/-- PROGRAM_TIMER_EXPIRY (R56). -/
def execProgramTimerExpiry (b : BankId) (s : State) : Host.Outcome State Fault Refusal :=
  .next (s.act (s.bank b).programTimer.isRunning
    (((s.atExpiry (s.bank b).programTimer).failAttempt b .failed).sendReset b))

/-! ## Read timers (R61, R63) -/

/-- The read in hand has timed out: a first failure returns it to the front of the queue; a second raises
BANK_TIMEOUT, and the job's end is told at the RESET_DONE (R63). -/
def State.timeOutRead (s : State) (b : BankId) : State :=
  match (s.bank b).read with
  | some job =>
    if job.retried then
      (s.raise { kind := .bankTimeout, bank := some b.val, index := some job.index }).latch .bankTimeout
    else s.requeueRead b job
  | none => s

/-- READ_TIMER_EXPIRY (R63). A program suspended at the bank fails with it (R61). -/
def execReadTimerExpiry (b : BankId) (s : State) : Host.Outcome State Fault Refusal :=
  .next (s.act (s.bank b).readTimer.isRunning
    ((((s.atExpiry (s.bank b).readTimer).timeOutRead b).failAttempt b .interrupted).sendReset b))

/-! ## Reset timers (R163, R165, R179) -/

/-- Whether a bank carries a start-up read job, in its queue or in hand (R165). -/
def Bank.carriesRead (bank : Bank) : Bool := bank.read.isSome || !bank.readQueue.isEmpty

/-- The read job or metadata program of a bank marked absent fails at once (R165). -/
def State.failCarried (s : State) (bank : Bank) : State :=
  let failed := if bank.carriesRead then s.startupReadFailed else s
  match bank.program with
  | .metadata => failed.metadataOutcome false
  | .data _ _ => failed
  | .absent => failed

/-- A bank is marked absent in STARTING (R165, R179). -/
def State.bankAbsent (s : State) (b : BankId) : State :=
  if s.awaitsMark b then (s.markBank b .absent).bankMarked
  else
    (s.setBank b { (s.bank b).unmarked with
      monitor := .idle, resetTimer := .stopped, awaited := [], presence := .absent }).failCarried (s.bank b)

/-- The reset timer of a bank expires: the bank is marked absent in STARTING, and otherwise the bridge
enters FAULTED (R163, R165, R179). -/
def State.resetExpired (s : State) (b : BankId) : State :=
  if s.control.state = .starting then s.bankAbsent b else s.enterFaulted .arrayUnresponsive

/-- RESET_TIMER_EXPIRY (R179). -/
def execResetTimerExpiry (b : BankId) (s : State) : Host.Outcome State Fault Refusal :=
  .next (s.act (s.bank b).resetTimer.isRunning
    ((s.atExpiry (s.bank b).resetTimer).resetExpired b))

/-! ## The IDENTIFY timer (R165, R178) -/

/-- IDENTIFY_TIMER_EXPIRY (R178). -/
def execIdentifyTimerExpiry (s : State) : Host.Outcome State Fault Refusal :=
  .next (s.act s.control.identifyTimer.isRunning
    ((s.atExpiry s.control.identifyTimer).enterFaulted .arrayUnresponsive))

end Sys2Proof.Machine
end

