-- ==== Sys2Proof/Machine/Dispatch.lean ====
section
/-! DEFINITION. The meaning of every command: one arm for each constructor of `Instr`. -/

namespace Sys2Proof.Machine

def exec (i : Instr) (s : State) : Host.Outcome State Fault Refusal :=
  match i with
  | .hostRequestArrival packet => Sys2Proof.Machine.execHostRequestArrival packet s
  | .readTake => Sys2Proof.Machine.execReadTake s
  | .writeTake => Sys2Proof.Machine.execWriteTake s
  | .stalledWriteAbsorb => Sys2Proof.Machine.execStalledWriteAbsorb s
  | .closeTimerExpiry slot => Sys2Proof.Machine.execCloseTimerExpiry slot s
  | .readDone bank tag outcome => Sys2Proof.Machine.execReadDone bank tag outcome s
  | .readTimerExpiry bank => Sys2Proof.Machine.execReadTimerExpiry bank s
  | .programDone bank tag outcome => Sys2Proof.Machine.execProgramDone bank tag outcome s
  | .programTimerExpiry bank => Sys2Proof.Machine.execProgramTimerExpiry bank s
  | .suspendAck bank tag answer => Sys2Proof.Machine.execSuspendAck bank tag answer s
  | .resetDone bank => Sys2Proof.Machine.execResetDone bank s
  | .resetTimerExpiry bank => Sys2Proof.Machine.execResetTimerExpiry bank s
  | .metadataRequestJoin requester => Sys2Proof.Machine.execMetadataRequestJoin requester s
  | .identifyDone bankCount exponent spares version => Sys2Proof.Machine.execIdentifyDone bankCount exponent spares version s
  | .identifyTimerExpiry => Sys2Proof.Machine.execIdentifyTimerExpiry s
  | .resetNAssert => Sys2Proof.Machine.execResetNAssert s
  | .resetNRelease => Sys2Proof.Machine.execResetNRelease s
  | .powerWarnAssert => Sys2Proof.Machine.execPowerWarnAssert s
  | .powerWarnDeassert => Sys2Proof.Machine.execPowerWarnDeassert s
  | .flush => Sys2Proof.Machine.execFlush s
  | .rangeFirst => Sys2Proof.Machine.execRangeFirst s
  | .rangeLast => Sys2Proof.Machine.execRangeLast s
  | .rangeApply => Sys2Proof.Machine.execRangeApply s
  | .rangeScrub => Sys2Proof.Machine.execRangeScrub s
  | .regionList => Sys2Proof.Machine.execRegionList s
  | .release => Sys2Proof.Machine.execRelease s
  | .remapQuery => Sys2Proof.Machine.execRemapQuery s
  | .restart => Sys2Proof.Machine.execRestart s
  | .reformat => Sys2Proof.Machine.execReformat s
  | .statusFetch => Sys2Proof.Machine.execStatusFetch s
  | .incidentTake => Sys2Proof.Machine.execIncidentTake s
  | .profile => Sys2Proof.Machine.execProfile s
  | .unknownDirective => Sys2Proof.Machine.execUnknownDirective s
  | .scrubVisit => Sys2Proof.Machine.execScrubVisit s
  | .packetSend => Sys2Proof.Machine.execPacketSend s

end Sys2Proof.Machine
end

