-- ==== Sys2Proof/Machine/Step.lean ====
section
/-!
DEFINITION. One step: the command at the front of the queue is carried out with the queue's rest behind it;
on an empty queue one microsecond passes (log entry 2).
-/

namespace Sys2Proof.Machine

/-- The bridge idles for a microsecond of its clock; DESIGN CHOICE, log entry 2. -/
def State.tick (s : State) : State := { s with now := s.now + 1 }

/-- One step of the bridge. -/
def step (s : State) : Host.Outcome State Fault Refusal :=
  match s.pending with
  | c :: rest => exec c { s with pending := rest }
  | [] => .next s.tick

/-- The state with the command that a word spells put at the front of its queue. No row of the table
gives bits, so no word spells a command and the state is unchanged (log entry 7). -/
def State.withFetchWord (s : State) (nbits w : Nat) : State :=
  match Sys2Proof.decodeTableWord nbits w with
  | some c => { s with pending := c :: s.pending }
  | none => s

end Sys2Proof.Machine
end

