-- ==== Sys2Proof/Safety.lean ====
section
/-!
DEFINITION. What counts as a sound state of the bridge, in the terms the statements use.
-/

namespace Sys2Proof.Machine

/-! ## Bridge Control's record agrees with the bridge state (R162, R164) -/

/-- A drain record is present exactly in DRAINING, and a start-up is in progress exactly in STARTING with
RESET_N released; while RESET_N is asserted the bridge is in STARTING (R162, R164). -/
def State.controlOk (s : State) : Bool :=
  s.control.drain.isSome == (s.control.state == .draining)
    && s.control.startup.isSome == (s.control.state == .starting && !s.pins.resetAsserted)
    && (!s.pins.resetAsserted || s.control.state == .starting)

/-- Whether nothing is due: a drain in progress has not come to its end (R171), and start-up does not stand
at a format or an OPEN_SESSION that the writer has ended (R166, R167). -/
def State.quiet (s : State) : Bool :=
  (match s.control.drain with
   | some d =>
     (match d.shutdown with
      | .notHanded => !s.drainAtEnd d
      | .handed => true
      | .answered => false)
   | none => true)
    && (match s.stage? with
        | some .format => s.writer.state != .idle && s.writer.state != .stopped
        | some .reformatFormat => s.writer.state != .idle && s.writer.state != .stopped
        | some (.openSession answer) => answer.isNone
        | _ => true)

/-- The ALERT line is as R159 gives. -/
def State.alertOk (s : State) : Bool := s.pins.alert == s.alertLevel

/-- A sound state: Bridge Control's record agrees with the bridge state, nothing is due, and ALERT is as it
should be. -/
def State.sound (s : State) : Bool := s.controlOk && s.quiet && s.alertOk

/-! ## The epoch list (R28) -/

/-- Fence numbers that follow one another, 1 after 65,535 (R28). -/
def consecutive : List Epoch → Bool
  | a :: b :: rest => b.fence == nextFence a.fence && consecutive (b :: rest)
  | _ => true

/-- The law of the epoch list: 1 to 8 entries of consecutive fence numbers from 1 to 65,535, the newest
alone OPEN, with the number that follows the fence counter (R28, R29). -/
def EpochTracker.lawful (t : EpochTracker) : Bool :=
  decide (1 ≤ t.epochs.length) && decide (t.epochs.length ≤ 8) && consecutive t.epochs
    && t.epochs.all (fun e => decide (1 ≤ e.fence) && decide (e.fence ≤ 65535))
    && t.epochs.dropLast.all (fun e => e.state == .closed)
    && t.epochs.getLast?.map (fun e => (e.state, e.fence)) == some (.opened, nextFence t.fenceCounter)

/-! ## Bounds and orders (R6, R130, R160) -/

/-- The page directory in ascending order of page, one entry for a page, none of them empty (R5, R6). -/
def directoryLawful : List DirEntry → Bool
  | [] => true
  | [e] => !e.slots.isEmpty || decide (0 < e.pins)
  | a :: b :: rest =>
    (!a.slots.isEmpty || decide (0 < a.pins)) && decide (a.page < b.page) && directoryLawful (b :: rest)

/-- The lanes and the incident queue hold no more than they can, no live condition is latched, and the page
directory is in order (R6, R130, R144, R160). -/
def State.bounded (s : State) : Bool :=
  directoryLawful s.absorb.directory && decide (s.link.memLane.length ≤ 16) && decide (s.link.dirLane.length ≤ 4)
    && decide (s.engine.incidents.length ≤ 16) && (s.engine.latched &&& ~~~0x7FF#32) == 0#32

/-! ## The region table and the facts of the log (R82, R83, R114, R116) -/

/-- Entries in ascending order of first page that do not overlap, each with its first page not above its
last (R116). -/
def regionsLawful : List Region → Bool
  | [] => true
  | [r] => decide (r.first ≤ r.last)
  | a :: b :: rest => decide (a.first ≤ a.last) && decide (a.last < b.first) && regionsLawful (b :: rest)

/-- Numbers in strictly ascending order. -/
def ascending : List Nat → Bool
  | a :: b :: rest => decide (a < b) && ascending (b :: rest)
  | _ => true

/-- The facts a snapshot is made of fit the geometry: remap entries in ascending order of page, no two at
one spare of a bank; retired spares ascending in each bank, none of them a target; lost pages ascending,
at most 32; regions lawful, at most 16 (R81 to R83, R114, R116). -/
def State.factsLawful (s : State) (g : Geometry) : Bool :=
  ascending (s.remap.table.map MapEntry.page)
    && s.remap.table.all (fun e => decide (e.page < g.capacityPages) && decide (e.spare < g.spares))
    && s.remap.table.all (fun e => s.remap.table.all (fun f =>
        f.page == e.page || f.spare != e.spare || f.page % g.banks != e.page % g.banks))
    && allBanks.all (fun b => ascending s.remap.retired[b.val]
        && (s.remap.retired[b.val]).all (fun k => decide (k < g.spares) && decide (b.val < g.banks)
            && s.remap.table.all (fun e => e.spare != k || e.page % g.banks != b.val)))
    && ascending s.remap.lost && s.remap.lost.all (fun p => decide (p < g.capacityPages))
    && decide (s.remap.lost.length ≤ 32)
    && regionsLawful s.region.table && s.region.table.all (fun r => decide (r.last < g.capacityPages))
    && decide (s.region.table.length ≤ 16)

/-! ## What the statements assume of a state -/

/-- RESET_N is released and nothing is due: a command acts, and ends with ALERT judged. -/
def State.ready (s : State) : Bool := !s.pins.resetAsserted && s.quiet

/-- The tag of a memory request (R142). -/
def MemRequest.tag : MemRequest → Nat
  | .read r => r.tag
  | .write w => w.tag

/-- The request at the front of the memory lane may be taken into the empty head, and its tag is not
outstanding (R132, R134, R137). -/
def State.offersMemory (s : State) (r : MemRequest) : Bool :=
  s.ready && s.link.head.isNone && s.link.memLane.head? == some r && decide (s.link.responses.length ≤ 24)
    && !s.link.tags.contains r.tag

/-- The directive at the front of its lane may be taken into the free engine, and its tag is not
outstanding (R133, R134, R137). -/
def State.offersDirective (s : State) (d : DirRequest) : Bool :=
  s.ready && s.engine.current == .absent && s.link.dirLane.head? == some d
    && decide (s.link.responses.length ≤ 24) && !s.link.tags.contains d.tag

/-- The link once the oldest memory request has been taken, with its credit returned, and packets have
been generated after that (R130, R132, R137). -/
def HostLink.tookMemory (l : HostLink) (packets : List Packet) : HostLink :=
  { l with memLane := l.memLane.drop 1, memCredits := l.memCredits + 1,
           responses := l.responses ++ .credit .memory false 1 :: packets }

/-- The link once the oldest directive has been taken, with its credit returned, and packets have been
generated after that (R130, R133, R137). -/
def HostLink.tookDirective (l : HostLink) (packets : List Packet) : HostLink :=
  { l with dirLane := l.dirLane.drop 1, dirCredits := l.dirCredits + 1,
           responses := l.responses ++ .credit .directive false 1 :: packets }

/-- The state once the oldest memory request has been taken and its tag has joined the outstanding-tag
set (R130, R132, R134). -/
def State.tookMemory (s : State) (tag : Nat) : State :=
  { s with link := { s.link.tookMemory [] with tags := insertNat tag s.link.tags } }

/-- The state once the oldest directive has been taken and its tag has joined the outstanding-tag set (R130,
R133, R134). -/
def State.tookDirective (s : State) (tag : Nat) : State :=
  { s with link := { s.link.tookDirective [] with tags := insertNat tag s.link.tags } }

/-- The byte of the newest slot of a page that holds the offset, if a slot does (R71). -/
def State.newestByte? (s : State) (page offset : Nat) : Option Byte :=
  ((s.slotList page).filter (fun i => ((s.slot i).image.byte offset).isSome)).getLast?.bind
    (fun i => (s.slot i).image.byte offset)

/-- The state once a bank has been sent the next command of its sequence: READ_PAGE for a job, at a
moment, with the retry mark and the queue and batch remainder given (R62, R176, R177). -/
def State.readSent (s : State) (b : BankId) (job : ReadJob) (queue : List ReadJob) (batch : Nat)
    (monitor : Monitor) : State :=
  { s.setBank b { s.bank b with
      monitor := monitor, read := some job, readQueue := queue, batch := batch,
      readTimer := .running (s.now + 100), sequence := ((s.bank b).sequence + 1) % 16,
      readTag := ((s.bank b).sequence + 1) % 16,
      awaited := [.readDone (((s.bank b).sequence + 1) % 16)] } with
    arrayOut := s.arrayOut ++ [.readPage b job.index (((s.bank b).sequence + 1) % 16)] }

/-- Whether a bank has no read job and no slot waiting. -/
def Bank.noneWaits (bank : Bank) : Bool :=
  bank.programQueue.isEmpty && bank.readQueue.isEmpty && bank.batch == 0

/-- The Absorb Buffer once slots of a page have become FREE (R26, R93). -/
def AbsorbBuffer.freed (a : AbsorbBuffer) (page : Nat) (slots : List SlotId) : AbsorbBuffer :=
  { a with
    slots := slots.foldl (fun v i => v.set i.val Slot.unused) a.slots,
    directory := changeEntry page (fun e => { e with slots := e.slots.filter (fun i => !slots.contains i) })
      a.directory }

/-- The entry of a fence number counts one slot less (R35). -/
def EpochTracker.lessOne (t : EpochTracker) (fence : Nat) : EpochTracker :=
  { t with epochs := t.epochs.map (fun e =>
      if e.fence = fence then { e with outstanding := e.outstanding - 1 } else e) }

/-- A log page program is in flight at a bank with no request behind it, it leaves the active half 32 free
positions, and nothing waits for a bank: its PROGRAM_DONE ends the append (R65, R104). -/
def State.inLastAppend (s : State) (b : BankId) (q : Nat) (p : WriterProgram) : Bool :=
  s.ready && (s.geometry.isNone || decide (b.val < s.bankCount)) && (s.bank b).monitor == .programming
    && (s.bank b).program == .metadata && (s.bank b).awaited == [.programDone q]
    && allBanks.all (fun k => (s.bank k).noneWaits) && s.writer.state == .appending
    && s.writer.program == some p && s.writer.list.isEmpty && s.remap.held.isEmpty
    && decide (s.writer.used + p.records + 32 ≤ 1024)

/-- The same outside a drain and a start-up. -/
def State.endsAppend (s : State) (b : BankId) (q : Nat) (p : WriterProgram) : Bool :=
  s.inLastAppend b q p && s.control.drain.isNone && s.control.startup.isNone

/-- The log once a program has persisted and its bank is IDLE: the used count rises by the records taken, the
buffer becomes the image, or 16 BLANK records when the page is full, and the writer is IDLE (R65, R104). -/
def State.appended (s : State) (b : BankId) (p : WriterProgram) : State :=
  { s with
    sched := {
      banks := s.sched.banks.set b.val { s.bank b with
        monitor := .idle, program := .absent, programTimer := .stopped, awaited := [] },
      pendingMeta := none },
    writer := { s.writer with
      state := .idle, used := s.writer.used + p.records, program := none,
      buffer := if (s.writer.used + p.records) % 16 = 0 then List.replicate 16 Record.blank else p.image } }

/-- The link once the start-up of a RESTART has ended the reads in ascending order of tag, answered the requests of
both lanes and granted both in full (R80, R141). The tags of the lanes' requests are fresh. -/
def HostLink.restarted (l : HostLink) (reads : List ReadRecord) : HostLink :=
  { l with
    memLane := [], dirLane := [], memCredits := 16, dirCredits := 4,
    tags := l.tags.filter (fun x => reads.all (fun r => r.tag != x)),
    responses := l.responses ++ (sortBy ReadRecord.tag reads).map (fun r => .readData r.tag .starting [])
      ++ l.memLane.map (fun r => match r with
        | .read x => .readData x.tag .starting []
        | .write w => .writeDone w.tag .starting 0)
      ++ l.dirLane.map (fun d =>
        .directiveDone d.tag (if (directiveOf? d.code).isSome then .starting else .unknown) [])
      ++ [.credit .memory true 16, .credit .directive true 4] }

/-- A bank as stage 1 of a start-up begins: its queues are empty, its job is abandoned, it is not yet marked, and
BANK_RESET has been sent to it (R165, R176, R179). -/
def Bank.resetAt (bank : Bank) (now : Nat) : Bank :=
  { bank with
    monitor := .resetting, programQueue := [], readQueue := [], batch := 0, program := .absent, read := none,
    programTimer := .stopped, readTimer := .stopped, resetTimer := .running (now + 1000),
    presence := .unmarked, sequence := (bank.sequence + 1) % 16, awaited := [.resetDone] }

/-- The one request of a program, its last record among those carried. -/
def Carried.last (kind : RequestKind) (taken : Nat) : Carried :=
  { request := { kind := kind, taken := taken, void := false }, complete := true }

/-- Whether a slot is merge-eligible: OPEN, HELD, FILLING or QUEUED, in the current epoch (R8). -/
def State.eligible (s : State) (i : SlotId) : Bool :=
  [SlotState.opened, .held, .filling, .queued].contains (s.slot i).state
    && (s.slot i).epoch == nextFence s.tracker.fenceCounter

/-- Whether a slot of a page is the one merge-eligible slot of the page (R8). -/
def State.soleEligible (s : State) (page : Nat) (i : SlotId) : Bool :=
  (s.slotList page).contains i && s.eligible i
    && (s.slotList page).all (fun j => j == i || !s.eligible j)

/-- Whether a page has no merge-eligible slot (R8). -/
def State.noneEligible (s : State) (page : Nat) : Bool := (s.slotList page).all (fun j => !s.eligible j)

/-- Whether no entry of the region table covers a page (R116, R117). -/
def State.unprotected (s : State) (page : Nat) : Bool :=
  s.region.table.all (fun r => decide (page < r.first) || decide (r.last < page))

/-- Whether a write passes every check but the region check, with the bridge RUNNING (R135, steps 1 to 5). -/
def State.acceptable (s : State) (w : WriteRequest) : Bool :=
  decide (1 ≤ w.length) && decide (w.length ≤ 64) && decide (w.data.length = w.length)
    && (!w.notify || w.fence) && decide (w.address % 64 + w.length ≤ 64) && s.control.state == .running
    && decide (w.address < 256 * s.capacityPages)

/-- The slot that a host write opens: its fields as R11 gives them, with the close timer of R15. -/
def State.slotFor (s : State) (w : WriteRequest) : Slot :=
  { state := .opened, page := w.address / 256, epoch := nextFence s.tracker.fenceCounter,
    image := Image.blank.merge (w.address % 256) w.data, age := s.absorb.opened + 1, lastMerge := s.now,
    closeTimer := if s.engine.profile.closeAge = 0 then .stopped
      else .running (s.now + 10 * s.engine.profile.closeAge),
    attempts := 0, suspends := 0, target := none, origin := .host }

/-- A host write has opened a slot: it stands at the end of its page's slot list and is counted in the current epoch
(R3, R5, R11, R35). -/
def State.openedFor (s : State) (i : SlotId) (w : WriteRequest) : State :=
  { s with
    absorb := {
      slots := s.absorb.slots.set i.val (s.slotFor w), opened := s.absorb.opened + 1,
      directory := changeEntry (w.address / 256) (fun e => { e with slots := e.slots ++ [i] })
        s.absorb.directory },
    tracker := { s.tracker with
      epochs := s.tracker.epochs.map (fun e =>
        if e.fence = nextFence s.tracker.fenceCounter then { e with outstanding := e.outstanding + 1 }
        else e) } }

/-- The link once the write at the memory lane head has been answered (R132, R134). -/
def HostLink.answeredHead (l : HostLink) (w : WriteRequest) (result : Result) (fence : Nat) : HostLink :=
  { l with head := none, tags := l.tags.filter (fun t => t != w.tag),
           responses := l.responses ++ [.writeDone w.tag result fence] }

/-- The staging discarded: it is EMPTY, and RANGE_ABANDONED is latched if it was not (R120). -/
def State.abandoned (s : State) : State :=
  { s with
    region := { s.region with staging := .empty },
    engine := { s.engine with
      latched := if s.region.staging = .empty then s.engine.latched else s.engine.latched ||| 0x100#32 } }

/-- The directives that leave a staging in progress as it is: the four range directives and four queries (R120). -/
def Directive.sparesStaging (which : Directive) : Bool :=
  [.rangeFirst, .rangeLast, .rangeApply, .rangeScrub, .statusFetch, .incidentTake, .regionList,
    .remapQuery].contains which

/-- The bridge is FAULTED for a reason: no drain and no start-up is in progress, every bank record is FAULTED,
no metadata program is pending, no read waits and the writer has stopped (R66, R79, R105, R163). -/
def State.inFault (s : State) (reason : FaultReason) : Bool :=
  s.control.state == .faulted && s.control.faultReason == reason && s.control.drain.isNone
    && s.control.startup.isNone && allBanks.all (fun b => (s.bank b).monitor == .faulted)
    && s.sched.pendingMeta.isNone && s.reads.isEmpty && s.writer.state == .stopped

/-- What the entry to FAULTED leaves as it was: the geometry, the remap table, the region table, the profile,
and what has been sent on the two links (R66, R163). -/
def State.keptInFault (s t : State) : Bool :=
  t.geometry == s.geometry && t.remap.table == s.remap.table && t.region.table == s.region.table
    && t.engine.profile == s.engine.profile && t.arrayOut == s.arrayOut && t.hostOut == s.hostOut

end Sys2Proof.Machine

namespace Sys2Proof

/-! ## What one command may reach -/

/-- Whether a command may change the discrete lines' levels (R181); every other command may change ALERT
alone. -/
def Instr.drivesLine : Instr → Bool
  | .resetNAssert => true
  | .resetNRelease => true
  | .powerWarnAssert => true
  | .powerWarnDeassert => true
  | _ => false

/-- The names of the directive that a command takes, if it takes one by its code (R143). -/
def Instr.directive? : Instr → Option Machine.Directive
  | .flush => some .flush
  | .rangeFirst => some .rangeFirst
  | .rangeLast => some .rangeLast
  | .rangeApply => some .rangeApply
  | .rangeScrub => some .rangeScrub
  | .regionList => some .regionList
  | .release => some .release
  | .remapQuery => some .remapQuery
  | .restart => some .restart
  | .reformat => some .reformat
  | .statusFetch => some .statusFetch
  | .incidentTake => some .incidentTake
  | .profile => some .profile
  | _ => none

end Sys2Proof
end

