-- ==== Sys2Proof/Certificates/Slice0/Obligations.lean ====
section
/-!
DEFINITION. The statements about the model for the provers. Each says which rule of the spec it states, or that it
states a choice of the model. The next states end with State.judgeAlert, which sets ALERT as R159 gives; that it is
judged once, at the end of a command, is the model's choice (log entry 24).
-/

section

open Sys2Proof Sys2Proof.Machine

/-! ## The machine, resets and POWER_WARN -/

/-- A step carries out the command at the front of the queue on the state with the queue's rest; on an
empty queue one microsecond passes, which is the model's choice (log entry 2). -/
def Obligations.StepCarriesOutTheFrontCommand : Prop :=
  (∀ (c : Instr) (rest : List Instr) (s : State),
    step { s with pending := c :: rest } = exec c { s with pending := rest })
  ∧ ∀ s : State, s.pending = [] → step s = .next { s with now := s.now + 1 }

/-- The state right after reset meets the invariants that every step keeps. -/
def Obligations.ResetStateMeetsTheInvariants : Prop :=
  State.reset.sound = true ∧ State.reset.tracker.lawful = true ∧ State.reset.bounded = true

/-- RESET_N_ASSERT sets the volatile state of every block to its hard-reset value (R164, with R3, R4, R6,
R30, R67, R68, R84, R101, R116, R119, R124, R140, R148, R152, R160, R162). Where those rules give a part of a
record no reset value, the value is the model's (log entry 25). -/
def Obligations.ResetAssertionClearsEveryBlock : Prop :=
  ∀ s : State, ∃ t : State, exec .resetNAssert s = .next t
    ∧ (∀ i, (t.slot i).state = .free) ∧ t.absorb.opened = 0 ∧ t.absorb.directory = []
    ∧ t.tracker.epochs = [{ fence := 1, state := .opened, outstanding := 0, lossy := false, notify := false }]
    ∧ t.tracker.fenceCounter = 0 ∧ t.tracker.lastPersisted = 0
    ∧ (∀ b, (t.bank b).monitor = .idle ∧ (t.bank b).programQueue = [] ∧ (t.bank b).readQueue = []
        ∧ (t.bank b).batch = 0 ∧ (t.bank b).program = .absent ∧ (t.bank b).read = none
        ∧ (t.bank b).programTimer = .stopped ∧ (t.bank b).readTimer = .stopped
        ∧ (t.bank b).resetTimer = .stopped ∧ (t.bank b).sequence = 0 ∧ (t.bank b).awaited = [])
    ∧ t.sched.pendingMeta = none ∧ t.reads = []
    ∧ t.remap.table = [] ∧ t.remap.lost = [] ∧ t.remap.unrecorded = []
    ∧ (∀ b : BankId, t.remap.free[b.val] = [] ∧ t.remap.retired[b.val] = [])
    ∧ t.writer.state = .unloaded ∧ t.writer.list = [] ∧ t.writer.program = none
    ∧ t.writer.compaction = none ∧ t.region.table = [] ∧ t.region.staging = .empty ∧ t.region.walker = none
    ∧ t.link.memLane = [] ∧ t.link.dirLane = [] ∧ t.link.head = none ∧ t.link.tags = []
    ∧ t.link.responses = []
    ∧ t.engine.current = .absent ∧ t.engine.latched = 0#32 ∧ t.engine.incidents = []
    ∧ t.engine.profile = { closeAge := 20, lowWater := 4, suspendBudget := 2, retryLimit := 2,
                           drainBudget := 64, alertMask := 0x668#32 }
    ∧ t.control.state = .starting ∧ t.control.faultReason = .none ∧ t.control.drain = none
    ∧ t.control.session = 0#32
    ∧ t.control.previous = { outcome := .fresh, lastPersisted := 0, stranded := 0 }
    ∧ t.control.startup = none ∧ t.control.identifyTimer = .stopped ∧ t.remap.held = [] ∧ t.region.held = none
    ∧ t.pins = { resetAsserted := true, powerWarn := s.pins.powerWarn, alert := false }
    ∧ t.now = s.now ∧ t.arrayOut = s.arrayOut ∧ t.hostOut = s.hostOut ∧ t.pending = s.pending

/-- RESET_N_RELEASE with RESET_N asserted and every bank record at its reset value grants both lanes in full,
memory lane first, and sends BANK_RESET to all eight banks; POWER_WARN, if asserted, is taken at once, in stage 1
(R130, R140, R164, R165, R168). A hard reset leaves such a state. With RESET_N released it changes nothing. That the
banks are sent BANK_RESET in ascending order is the model's choice (log entry 28). -/
def Obligations.ReleaseOfResetBeginsStageOne : Prop :=
  (∀ s : State, s.pins.resetAsserted = true → s.control.drain = none → (∀ b, s.bank b = Bank.afterReset) →
    exec .resetNRelease s = .next (State.judgeAlert { s with
      link := { s.link with
        responses := s.link.responses ++ [.credit .memory true 16, .credit .directive true 4],
        memCredits := 16, dirCredits := 4 },
      sched := { s.sched with banks := Vector.replicate 8 { Bank.afterReset with
        monitor := .resetting, resetTimer := .running (s.now + 1000), sequence := 1,
        awaited := [.resetDone] } },
      control := { s.control with
        startup := some { stage := .resetBanks, stopAsked := s.pins.powerWarn } },
      pins := { s.pins with resetAsserted := false },
      arrayOut := s.arrayOut ++ allBanks.map ArrayCommand.bankReset }))
  ∧ (∀ s : State, s.pins.resetAsserted = false → exec .resetNRelease s = .next s)
  ∧ ∀ s : State, ∃ t, exec .resetNAssert s = .next t ∧ t.pins.resetAsserted = true ∧ t.control.drain = none
    ∧ (∀ b, t.bank b = Bank.afterReset) ∧ t.link.responses = [] ∧ t.link.memLane = [] ∧ t.link.dirLane = []

/-- While RESET_N is asserted no command but those of the lines changes anything: the model's reading of R140 and
R164, which hold the bridge at its reset values and let it take no request and send nothing (log entry 30). No
request is taken while the response queue holds more than 24 packets (R137). -/
def Obligations.NothingIsTakenUnderResetOrBackPressure : Prop :=
  (∀ (c : Instr) (s : State), s.pins.resetAsserted = true → c.drivesLine = false → exec c s = .next s)
  ∧ ∀ (c : Instr) (s : State), 24 < s.link.responses.length →
      c = .readTake ∨ c = .writeTake ∨ c = .unknownDirective ∨ c.directive?.isSome = true →
      exec c s = .next s

/-- POWER_WARN where no drain begins: its deassertion has no effect; its assertion has none in DORMANT, in
FAULTED and in a POWER drain, in STARTING it asks start-up to stop after its present stage, and it turns a RESTART
drain into a POWER drain with DRAIN_BUDGET as it stands and a count of 0, or 1 when the program that carries the
SHUTDOWN is in flight (R168). Which program is in flight in a reset is the model's choice (log entry 40). -/
def Obligations.PowerWarnOutsideADrain : Prop :=
  (∀ s : State, exec .powerWarnDeassert s = .next { s with pins := { s.pins with powerWarn := false } })
  ∧ (∀ s : State, s.ready = true → s.pins.powerWarn = false →
      s.control.state = .dormant ∨ s.control.state = .faulted
        ∨ (s.control.state = .draining ∧ ∃ d, s.control.drain = some d ∧ d.kind = .power) →
      exec .powerWarnAssert s
        = .next (State.judgeAlert { s with pins := { s.pins with powerWarn := true } }))
  ∧ (∀ (s : State) (up : Startup), s.ready = true → s.pins.powerWarn = false →
      s.control.state = .starting → s.control.startup = some up →
      exec .powerWarnAssert s
        = .next (State.judgeAlert { s with
            pins := { s.pins with powerWarn := true },
            control := { s.control with startup := some { up with stopAsked := true } } }))
  ∧ ∀ (s : State) (d : Drain), s.ready = true → s.pins.powerWarn = false → s.control.state = .draining →
      s.control.drain = some d → d.kind = .restart → 8 ≤ s.engine.profile.drainBudget →
      exec .powerWarnAssert s
        = .next (State.judgeAlert { s with
            pins := { s.pins with powerWarn := true },
            control := { s.control with
              drain := some { kind := .power, budget := some s.engine.profile.drainBudget,
                              count := if s.carriesShutdown = true ∧ ∃ b, (s.bank b).program = .metadata
                                then 1 else 0,
                              recordPermitted := d.recordPermitted, shutdown := d.shutdown } } })

/-- POWER_WARN_ASSERT and RESTART begin a drain. With no OPEN slot, no staging, no scrub, no waiting write and nothing
waiting for a bank, the drain record is set and the bridge is DRAINING (R168, R169, R172); a POWER drain from DEGRADED
with every slot FREE or STRANDED and no request waiting for the log ends immediately in DORMANT (R169, R171). A drain
of either kind that begins in RUNNING with every slot FREE or STRANDED hands its SHUTDOWN at once, with the session,
the outcome (COMPLETE for POWER, RESTART for RESTART), the last persisted fence and the number of STRANDED slots:
stated for an IDLE writer, whose append of it is dispatched to an IDLE bank and counts 1 (R65, R103, R106, R170 to
R172). The end of a drain whose SHUTDOWN has persisted stands in PersistedAppendAdvancesTheLog. -/
def Obligations.DrainBegins : Prop :=
  ∀ s : State, s.ready = true → (∀ i, (s.slot i).state ≠ .opened) → s.region.staging = .empty →
    s.region.walker = none → s.link.head = none → s.writer.state ≠ .compacting →
    (∀ b, (s.bank b).noneWaits = true) → s.sched.pendingMeta = none →
    (s.pins.powerWarn = false → s.control.state = .running ∨ s.control.state = .degraded →
      s.slotsAtRest = false → 8 ≤ s.engine.profile.drainBudget →
      exec .powerWarnAssert s = .next (State.judgeAlert { s with
        pins := { s.pins with powerWarn := true },
        control := { s.control with
          state := .draining,
          drain := some { kind := .power, budget := some s.engine.profile.drainBudget, count := 0,
                          recordPermitted := s.control.state == .running,
                          shutdown := .notHanded } } }))
    ∧ (s.pins.powerWarn = false → s.control.state = .degraded → s.slotsAtRest = true →
      s.writer.list = [] → s.remap.held = [] → s.region.held = none →
      exec .powerWarnAssert s = .next (State.judgeAlert { s with
        pins := { s.pins with powerWarn := true },
        control := { s.control with state := .dormant, drain := none, startup := none } }))
    ∧ (∀ (b : BankId) (g : Geometry), s.control.state = .running → s.slotsAtRest = true →
      s.writer.state = .idle → s.writer.list = [] → s.writer.program = none → s.writer.used < 1024 →
      s.geometry = some g →
      b.val = (64 * s.writer.activeHalf + s.writer.used / 16) % g.banks → (s.bank b).monitor = .idle →
      (s.bank b).presence ≠ .absent → (∀ k, (s.bank k).program ≠ .metadata) →
      let page := 64 * s.writer.activeHalf + s.writer.used / 16
      let stranded := (allSlots.filter (fun i => (s.slot i).state == .stranded)).length
      let tag := ((s.bank b).sequence + 1) % 16
      let handed := fun (kind : DrainKind) (budget : Option Nat) (outcome : ShutdownOutcome) (t : State) =>
        let image := (s.writer.buffer.take (s.writer.used % 16)
          ++ .shutdown s.control.session outcome s.tracker.lastPersisted stranded
            :: List.replicate 16 Record.blank).take 16
        State.judgeAlert { t with
          control := { s.control with
            state := .draining,
            drain := some { kind := kind, budget := budget, count := 1, recordPermitted := true,
                            shutdown := .handed } },
          writer := { s.writer with
            state := .appending,
            program := some {
              page := page, image := image, records := 1, attempts := 0,
              carried := [.last (.shutdown s.control.session outcome s.tracker.lastPersisted stranded) 0] } },
          sched := {
            banks := s.sched.banks.set b.val { s.bank b with
              monitor := .programming, program := .metadata, programTimer := .running (s.now + 5000),
              sequence := tag, programTag := tag, awaited := [.programDone tag] },
            pendingMeta := some { page := page, image := image } },
          arrayOut := s.arrayOut
            ++ [.programPage b (g.pages - 128 / g.banks + page / g.banks) tag (.log image)] }
      (s.pins.powerWarn = false → 8 ≤ s.engine.profile.drainBudget →
        exec .powerWarnAssert s = .next (handed .power (some s.engine.profile.drainBudget) .complete
          { s with pins := { s.pins with powerWarn := true } }))
      ∧ ∀ d, s.offersDirective d = true → d.code = 0x30#8 → d.payloadLength = 0 → d.payload = [] →
        exec .restart s = .next (handed .restart none .restart
          { s with link := s.link.tookDirective [.directiveDone d.tag .started []] }))
    ∧ (∀ d, s.offersDirective d = true → d.code = 0x30#8 → d.payloadLength = 0 → d.payload = [] →
      s.control.state = .running ∨ s.control.state = .degraded → s.slotsAtRest = false →
      exec .restart s = .next (State.judgeAlert { s with
        link := s.link.tookDirective [.directiveDone d.tag .started []],
        control := { s.control with
          state := .draining,
          drain := some { kind := .restart, budget := none, count := 0,
                          recordPermitted := s.control.state == .running,
                          shutdown := .notHanded } } }))

/-! ## The Host Link -/

/-- The layouts of the three requests, read back field by field: the upper two bits of the tag byte and the
upper four of byte 8 are ignored, and so are the bytes marked zero (R142). A kind that names no request is
known as none (R131). -/
def Obligations.RequestPacketsAreReadByTheirLayouts : Prop :=
  (∀ (high : BitVec 2) (tag length address : Nat) (top : BitVec 4) (z₃ z₉ z₁₀ z₁₁ : Byte) (extra : List Byte),
    tag < 64 → length < 256 → address < 2 ^ 36 →
    parsePacket ([0x01#8, high ++ BitVec.ofNat 6 tag, BitVec.ofNat 8 length, z₃] ++ leBytes 4 address
        ++ [top ++ BitVec.ofNat 4 (address / 2 ^ 32), z₉, z₁₀, z₁₁] ++ extra)
      = .memory (.read { tag := tag, length := length, address := address, extra := extra.length }))
  ∧ (∀ (high : BitVec 2) (tag length address : Nat) (fence notify : Bool) (others : BitVec 6) (top : BitVec 4)
      (z₉ z₁₀ z₁₁ : Byte) (data : List Byte), tag < 64 → length < 256 → address < 2 ^ 36 →
    parsePacket ([0x02#8, high ++ BitVec.ofNat 6 tag, BitVec.ofNat 8 length,
          others ++ BitVec.ofBool notify ++ BitVec.ofBool fence] ++ leBytes 4 address
        ++ [top ++ BitVec.ofNat 4 (address / 2 ^ 32), z₉, z₁₀, z₁₁] ++ data)
      = .memory (.write { tag := tag, length := length, fence := fence, notify := notify,
                          address := address, data := data }))
  ∧ (∀ (high : BitVec 2) (tag n : Nat) (code : Byte) (payload : List Byte), tag < 64 → n < 256 →
    parsePacket ([0x03#8, high ++ BitVec.ofNat 6 tag, code, BitVec.ofNat 8 n] ++ payload)
      = .directive { tag := tag, code := code, payloadLength := n, payload := payload })
  ∧ ∀ (kind : Byte) (rest : List Byte), kind ≠ 0x01#8 → kind ≠ 0x02#8 → kind ≠ 0x03#8 →
    parsePacket (kind :: rest) = .unknownKind

/-- A request that arrives with room in its lane joins the lane's end and uses a credit (R130). -/
def Obligations.ArrivalsJoinTheEndOfTheirLane : Prop :=
  ∀ (s : State) (packet : List Byte), s.ready = true →
    (∀ r, parsePacket packet = .memory r → s.link.memLane.length < 16 →
      exec (.hostRequestArrival packet) s = .next (State.judgeAlert { s with
        link := { s.link with memLane := s.link.memLane ++ [r], memCredits := s.link.memCredits - 1 } }))
    ∧ (∀ d, parsePacket packet = .directive d → s.link.dirLane.length < 4 →
      exec (.hostRequestArrival packet) s = .next (State.judgeAlert { s with
        link := { s.link with dirLane := s.link.dirLane ++ [d], dirCredits := s.link.dirCredits - 1 } }))

/-- A request that finds its lane full, and a packet of a kind that names no request, are discarded with
LINK_OVERRUN latched and nothing else changed; LINK_OVERRUN is not in the default ALERT_MASK (R131). -/
def Obligations.OverrunDiscardsTheArrival : Prop :=
  (∀ (s : State) (packet : List Byte), s.ready = true →
    (∃ r, parsePacket packet = .memory r ∧ 16 ≤ s.link.memLane.length)
      ∨ (∃ d, parsePacket packet = .directive d ∧ 4 ≤ s.link.dirLane.length)
      ∨ (∃ kind rest, packet = kind :: rest ∧ kind ≠ 0x01#8 ∧ kind ≠ 0x02#8 ∧ kind ≠ 0x03#8) →
    exec (.hostRequestArrival packet) s = .next (State.judgeAlert { s with
      engine := { s.engine with latched := s.engine.latched ||| 0x4#32 } }))
  ∧ State.reset.engine.profile.alertMask &&& 0x4#32 = 0#32

/-- A request whose tag is outstanding is discarded when it is taken: its credit is returned, TAG_CLASH is
latched, and the incident with the tag and the lane joins the queue, or is dropped with INCIDENT_OVERFLOW (R134). -/
def Obligations.ClashingTagDiscardsTheRequest : Prop :=
  ∀ s : State, s.ready = true → s.link.responses.length ≤ 24 →
    (∀ r rest, s.link.head = none → s.link.memLane = r :: rest → r.tag ∈ s.link.tags →
      exec (match r with | .read _ => .readTake | .write _ => .writeTake) s
        = .next (State.judgeAlert { s with
            link := s.link.tookMemory [],
            engine := { s.engine with
              latched := s.engine.latched ||| (if s.engine.incidents.length < 16 then 0x2#32 else 0x82#32),
              incidents := if s.engine.incidents.length < 16 then
                  s.engine.incidents ++ [{ kind := .tagClash, fence := s.tracker.fenceCounter,
                                           tag := some r.tag, operation := some 0 }]
                else s.engine.incidents } }))
    ∧ (∀ c d rest, s.engine.current = .absent → s.link.dirLane = d :: rest → d.tag ∈ s.link.tags →
      c.directive?.isSome = true → directiveOf? d.code = c.directive? →
      exec c s = .next (State.judgeAlert { s with
        link := s.link.tookDirective [],
        engine := { s.engine with
          latched := s.engine.latched ||| (if s.engine.incidents.length < 16 then 0x2#32 else 0x82#32),
          incidents := if s.engine.incidents.length < 16 then
              s.engine.incidents ++ [{ kind := .tagClash, fence := s.tracker.fenceCounter,
                                       tag := some d.tag, operation := some 1 }]
            else s.engine.incidents } }))

/-- PACKET_SEND: the oldest packet of the response queue leaves as its bytes, and nothing else changes (R137). -/
def Obligations.PacketsLeaveInTheOrderGenerated : Prop :=
  ∀ (s : State) (p : Packet) (rest : List Packet), s.ready = true → s.link.responses = p :: rest →
    exec .packetSend s = .next (State.judgeAlert { s with
      link := { s.link with responses := rest },
      hostOut := s.hostOut ++ [p.bytes (Config.sentTagHighBits s.hostOut.length)] })

/-- The packets the bridge sends, by the tables of R142: each field stands at its offset, little-endian, each packet
has the table's length, and the result codes are the table's. -/
def Obligations.SentPacketsFollowTheirLayouts : Prop :=
  let field := fun (packet : List Byte) offset width => leNat ((packet.drop offset).take width)
  (∀ (high : BitVec 2) (tag : Nat) (result : Result) (data : List Byte), tag < 64 → data.length < 256 →
    (∀ p, p = (Packet.readData tag result data).bytes high →
      p.length = 4 + data.length ∧ field p 0 1 = 0x81 ∧ field p 1 1 % 64 = tag ∧ field p 2 1 = result.code
        ∧ field p 3 1 = data.length ∧ p.drop 4 = data)
    ∧ (∀ p, p = (Packet.directiveDone tag result data).bytes high →
      p.length = 4 + data.length ∧ field p 0 1 = 0x83 ∧ field p 1 1 % 64 = tag ∧ field p 2 1 = result.code
        ∧ field p 3 1 = data.length ∧ p.drop 4 = data)
    ∧ ∀ p fence, fence < 65536 → p = (Packet.writeDone tag result fence).bytes high →
      p.length = 6 ∧ field p 0 1 = 0x82 ∧ field p 1 1 % 64 = tag ∧ field p 2 1 = result.code
        ∧ field p 3 1 = 0 ∧ field p 4 2 = fence)
  ∧ (∀ (high : BitVec 2) (p : List Byte) (fence : Nat) (lossy : Bool), fence < 65536 →
    p = (Packet.persisted fence lossy).bytes high →
    p.length = 5 ∧ field p 0 1 = 0x91 ∧ field p 1 1 = 0 ∧ field p 2 2 = fence
      ∧ field p 4 1 = if lossy then 1 else 0)
  ∧ (∀ (high : BitVec 2) (p : List Byte) (abandoned : Bool) (zeroed skipped : Nat),
    zeroed < 2 ^ 32 → skipped < 2 ^ 32 → p = (Packet.rangeDone abandoned zeroed skipped).bytes high →
    p.length = 12 ∧ field p 0 1 = 0x92 ∧ field p 1 1 = (if abandoned then 1 else 0) ∧ field p 2 2 = 0
      ∧ field p 4 4 = zeroed ∧ field p 8 4 = skipped)
  ∧ (∀ (high : BitVec 2) (p : List Byte) (lane : Lane) (full : Bool) (count : Nat), count < 256 →
    p = (Packet.credit lane full count).bytes high →
    p.length = 4 ∧ field p 0 1 = 0x93 ∧ field p 1 1 = (if lane = .memory then 0 else 1)
      ∧ field p 2 1 = (if full then 1 else 0) ∧ field p 3 1 = count)
  ∧ [Result.ok, .done, .started, .lost, .mediaError, .malformed, .misaligned, .outOfRange, .protectedPage,
      .starting, .halted, .busy, .full, .sequence, .badArgument, .overlap, .noMatch, .refusedFixed, .unknown,
      .failed].map Result.code
    = [0, 0, 1, 2, 3, 4, 5, 6, 7, 8, 9, 10, 11, 12, 13, 14, 15, 16, 17, 18]

/-! ## Reads -/

/-- READ_TAKE: the checks of a read in their order, each refusal a READ_DATA without data that touches nothing
but the lane, its credit and the response queue; a read that passes all four is bound (R69). -/
def Obligations.ReadsAreJudgedInOrder : Prop :=
  ∀ (s : State) (r : ReadRequest), s.offersMemory (.read r) = true →
    let refused := fun result => State.judgeAlert { s with
      link := s.link.tookMemory [.readData r.tag result []] }
    exec .readTake s = .next (
      if r.length = 0 ∨ 64 < r.length ∨ r.extra ≠ 0 then refused .malformed
      else if 64 < r.address % 64 + r.length then refused .misaligned
      else if s.control.state = .starting then refused .starting
      else if s.control.state = .dormant ∨ s.control.state = .faulted then refused .halted
      else if 256 * s.capacityPages ≤ r.address then refused .outOfRange
      else ((s.tookMemory r.tag).bindRead r).settle)

/-- READ_TAKE of a read that needs no array byte: each byte is the byte of the newest slot that holds it, and
the answer is OK whether or not the page is lost (R71, R73). One that needs an array byte of a lost page is
answered LOST without data (R74). Neither changes a slot, a pin or a bank. -/
def Obligations.ReadsTakeTheNewestSlotBytes : Prop :=
  ∀ (s : State) (r : ReadRequest), s.offersMemory (.read r) = true → 1 ≤ r.length → r.length ≤ 64 →
    r.extra = 0 → r.address % 64 + r.length ≤ 64 → r.address < 256 * s.capacityPages →
    s.control.state = .running ∨ s.control.state = .degraded ∨ s.control.state = .draining →
    (∀ bytes : List Byte, bytes.length = r.length →
      (∀ k, k < r.length → s.newestByte? (r.address / 256) (r.address % 256 + k) = bytes[k]?) →
      exec .readTake s = .next (State.judgeAlert { s with
        link := s.link.tookMemory [.readData r.tag .ok bytes] }))
    ∧ (∀ k, k < r.length → s.newestByte? (r.address / 256) (r.address % 256 + k) = none →
      r.address / 256 ∈ s.remap.lost →
      exec .readTake s = .next (State.judgeAlert { s with
        link := s.link.tookMemory [.readData r.tag .lost []] }))

/-- READ_TAKE of a read that needs an array byte of a page not lost: a record with the bytes of the slots, a
pin, and a job for the page's bank, at the spare of the page's MAP entry or at its own location (R75). At a bank
that reads, resets or programs with its suspend budget spent the job waits at the end of the read queue; at an IDLE
bank with nothing waiting READ_PAGE is sent at once (R50, R51, R62); at a bank that programs a slot whose suspend
count is below SUSPEND_BUDGET, SUSPEND is sent (R58). -/
def Obligations.ArrayReadIsRecordedPinnedAndQueued : Prop :=
  ∀ (s : State) (r : ReadRequest) (g : Geometry) (b : BankId), s.offersMemory (.read r) = true →
    1 ≤ r.length → r.length ≤ 64 → r.extra = 0 → r.address % 64 + r.length ≤ 64 →
    s.geometry = some g → r.address < 256 * (g.banks * g.pages - g.banks * g.spares - 128) →
    s.control.state = .running ∨ s.control.state = .degraded ∨ s.control.state = .draining →
    (∃ k, k < r.length ∧ s.newestByte? (r.address / 256) (r.address % 256 + k) = none) →
    r.address / 256 ∉ s.remap.lost → b.val = r.address / 256 % g.banks →
    let index := match mapSpare? s.remap.table (r.address / 256) with
      | some k => g.pages - g.spares - 128 / g.banks + k
      | none => r.address / 256 / g.banks
    let job : ReadJob := { index := index, owner := .host r.tag, retried := false }
    let bound : State := { s with
        link := { s.link.tookMemory [] with tags := insertNat r.tag s.link.tags },
        reads := s.reads ++ [{ tag := r.tag, page := r.address / 256, first := r.address % 256,
                               length := r.length,
                               data := (List.range r.length).map (fun k =>
                                 s.newestByte? (r.address / 256) (r.address % 256 + k)),
                               bank := b, index := index }],
        absorb := { s.absorb with
          directory := changeEntry (r.address / 256) (fun e => { e with pins := e.pins + 1 })
            s.absorb.directory } }
    ((s.bank b).monitor = .reading ∨ (s.bank b).monitor = .resetting
        ∨ ((s.bank b).monitor = .programming
          ∧ ∃ i, (s.bank b).program = .data i .inFlight ∧ s.engine.profile.suspendBudget ≤ (s.slot i).suspends) →
      exec .readTake s = .next (State.judgeAlert
        (bound.setBank b { s.bank b with readQueue := (s.bank b).readQueue ++ [job] })))
    ∧ ((s.bank b).monitor = .idle → (s.bank b).presence ≠ .absent → (s.bank b).noneWaits = true →
      s.sched.pendingMeta = none →
      exec .readTake s = .next (State.judgeAlert (bound.readSent b job [] 0 .reading)))
    ∧ (∀ i, (s.bank b).monitor = .programming → (s.bank b).program = .data i .inFlight →
      (s.slot i).suspends < s.engine.profile.suspendBudget → s.control.state ≠ .draining →
      exec .readTake s = .next (State.judgeAlert
        { bound.setBank b { s.bank b with
            monitor := .suspendPending, readQueue := (s.bank b).readQueue ++ [job],
            awaited := (s.bank b).awaited ++ [.suspendAck (s.bank b).programTag] } with
          arrayOut := s.arrayOut ++ [.suspend b (s.bank b).programTag] }))

/-- READ_DONE for a host read with OK: the array bytes are copied at the array offsets, the bytes copied from
slots stand, READ_DATA is generated with OK, the tag is free again, and the record and its pin are removed
(R77). Stated for a bank with nothing else waiting, which becomes IDLE (R62). -/
def Obligations.HostReadCompletesWithTheArrayBytes : Prop :=
  ∀ (s : State) (b : BankId) (q index : Nat) (retried : Bool) (page : List Byte) (r : ReadRecord),
    s.ready = true → s.geometry = none ∨ b.val < s.bankCount →
    (s.bank b).monitor = .reading → (s.bank b).awaited = [.readDone q] →
    (s.bank b).read = some { index := index, owner := .host r.tag, retried := retried } →
    s.record? r.tag = some r → s.bankOfPage r.page = b → page.length = 256 →
    (s.bank b).noneWaits = true → s.sched.pendingMeta = none →
    exec (.readDone b.val q (.ok (.bytes page))) s = .next (State.judgeAlert { s.setBank b { s.bank b with
          monitor := .idle, read := none, readTimer := .stopped, awaited := [] } with
        link := { s.link with
          tags := s.link.tags.filter (fun t => t != r.tag),
          responses := s.link.responses ++ [.readData r.tag .ok (r.data.mapIdx (fun k c =>
            c.getD (page.getD (r.first + k) 0x00#8)))] },
        reads := s.reads.filter (fun x => x.tag != r.tag),
        absorb := { s.absorb with
          directory := changeEntry r.page (fun e => { e with pins := e.pins - 1 })
            s.absorb.directory } })

/-- A read job is retried once (R63): its first failure by READ_FAIL, or by a READ_DONE of other than 256 bytes (R175),
sends READ_PAGE again at once with the retry mark and the next tag; its first failure by an expiry returns it to
the front of the queue with the mark, set there by R63 against R47 (the model's choice, log entry 45), and sends
BANK_RESET; its second failure by an expiry raises BANK_TIMEOUT,
latches the condition and sends BANK_RESET. The second READ_FAIL of a host read answers it MEDIA_ERROR without
data, latches the condition, raises READ_FAILED and removes the record and its pin (R78). -/
def Obligations.ReadJobIsRetriedOnce : Prop :=
  ∀ (s : State) (b : BankId) (job : ReadJob), s.ready = true → (s.bank b).monitor = .reading →
    (s.bank b).read = some job → (s.bank b).program = .absent →
    (∀ q outcome, s.geometry = none ∨ b.val < s.bankCount → (s.bank b).awaited = [.readDone q] →
      job.retried = false → (s.bank b).presence ≠ .absent →
      outcome = .readFail ∨ (∃ data : List Byte, outcome = .ok (.bytes data) ∧ data.length ≠ 256) →
      exec (.readDone b.val q outcome) s = .next (State.judgeAlert
        (s.readSent b { job with retried := true } (s.bank b).readQueue (s.bank b).batch .reading)))
    ∧ (∀ deadline, (s.bank b).readTimer = .running deadline → job.retried = false →
      exec (.readTimerExpiry b) s = .next (State.judgeAlert { s.setBank b { s.bank b with
            monitor := .resetting, read := none,
            readQueue := { job with retried := true } :: (s.bank b).readQueue,
            batch := (s.bank b).batch + 1, programTimer := .stopped, readTimer := .stopped,
            resetTimer := .running (max s.now deadline + 1000),
            sequence := ((s.bank b).sequence + 1) % 16, awaited := [.resetDone] } with
          now := max s.now deadline, arrayOut := s.arrayOut ++ [.bankReset b] }))
    ∧ (∀ deadline, (s.bank b).readTimer = .running deadline → job.retried = true →
      s.engine.incidents.length < 16 →
      exec (.readTimerExpiry b) s = .next (State.judgeAlert { s.setBank b { s.bank b with
            monitor := .resetting, programTimer := .stopped, readTimer := .stopped,
            resetTimer := .running (max s.now deadline + 1000),
            sequence := ((s.bank b).sequence + 1) % 16, awaited := [.resetDone] } with
          engine := { s.engine with
            latched := s.engine.latched ||| 0x400#32,
            incidents := s.engine.incidents ++ [{ kind := .bankTimeout, fence := s.tracker.fenceCounter,
                                                  bank := some b.val, index := some job.index }] },
          now := max s.now deadline, arrayOut := s.arrayOut ++ [.bankReset b] }))
    ∧ (∀ (q : Nat) (r : ReadRecord), s.geometry = none ∨ b.val < s.bankCount →
      (s.bank b).awaited = [.readDone q] → job.retried = true → job.owner = .host r.tag →
      s.record? r.tag = some r → s.bankOfPage r.page = b → (s.bank b).noneWaits = true →
      s.sched.pendingMeta = none → s.engine.incidents.length < 16 →
      exec (.readDone b.val q .readFail) s = .next (State.judgeAlert { s.setBank b { s.bank b with
            monitor := .idle, read := none, readTimer := .stopped, awaited := [] } with
          link := { s.link with
            tags := s.link.tags.filter (fun t => t != r.tag),
            responses := s.link.responses ++ [.readData r.tag .mediaError []] },
          reads := s.reads.filter (fun x => x.tag != r.tag),
          absorb := { s.absorb with
            directory := changeEntry r.page (fun e => { e with pins := e.pins - 1 }) s.absorb.directory },
          engine := { s.engine with
            latched := s.engine.latched ||| 0x8#32,
            incidents := s.engine.incidents ++ [{ kind := .readFailed, fence := s.tracker.fenceCounter,
                                                  page := some r.page, bank := some r.bank.val,
                                                  tag := some r.tag, operation := some 1 }] } }))

/-- READ_DONE for a fill, at a bank with nothing else waiting: the page fills the offsets outside the written
set, and the slot goes to QUEUED (R23). A slot of an epoch that is not the head waits there (R37). The slot of the
head epoch that is its page's only one is dispatched for the first time: it is PROGRAMMING at the page's current
location, and PROGRAM_PAGE is sent with its image and the bank's next tag (R52, R53). A fill that fails a second
time supplies zeros, latches MEDIA_ERROR and raises FILL_UNREADABLE with the slot's origin, 0 HOST or 1 SCRUB (R24,
R147). -/
def Obligations.FillCompletesTheImage : Prop :=
  [Origin.host, .scrub].map Origin.code = [0, 1]
  ∧ ∀ (s : State) (b : BankId) (q index : Nat) (retried : Bool) (page : List Byte) (i : SlotId),
    s.ready = true → s.geometry = none ∨ b.val < s.bankCount →
    (s.bank b).monitor = .reading → (s.bank b).awaited = [.readDone q] →
    (s.bank b).read = some { index := index, owner := .fill i, retried := retried } →
    (s.slot i).state = .filling → page.length = 256 →
    (s.bank b).noneWaits = true → s.sched.pendingMeta = none →
    let tag := ((s.bank b).sequence + 1) % 16
    (s.headFence? ≠ some (s.slot i).epoch →
      exec (.readDone b.val q (.ok (.bytes page))) s = .next (State.judgeAlert
        ((s.setSlot i { s.slot i with state := .queued, image := (s.slot i).image.fill page }).setBank b
          { s.bank b with monitor := .idle, read := none, readTimer := .stopped, awaited := [] })))
    ∧ (∀ g, s.headFence? = some (s.slot i).epoch → s.geometry = some g → b.val = (s.slot i).page % g.banks →
      s.control.state = .running ∨ s.control.state = .degraded → s.control.drain = none →
      (s.bank b).presence ≠ .absent → s.slotList (s.slot i).page = [i] → s.pinCount (s.slot i).page = 0 →
      (s.slot i).target = none →
      exec (.readDone b.val q (.ok (.bytes page))) s = .next (State.judgeAlert
        { (s.setSlot i { s.slot i with
            state := .programming, image := (s.slot i).image.fill page,
            target := some (match mapSpare? s.remap.table (s.slot i).page with
              | some k => .spare k
              | none => .own) }).setBank b
            { s.bank b with
              monitor := .programming, program := .data i .inFlight, read := none, readTimer := .stopped,
              programTimer := .running (s.now + 5000), sequence := tag, programTag := tag,
              awaited := [.programDone tag] } with
          arrayOut := s.arrayOut ++ [.programPage b
            (match mapSpare? s.remap.table (s.slot i).page with
              | some k => g.pages - g.spares - 128 / g.banks + k
              | none => (s.slot i).page / g.banks) tag
            (.bytes ((s.slot i).image.fill page).toBytes)] }))
    ∧ (retried = true → s.headFence? ≠ some (s.slot i).epoch → s.engine.incidents.length < 16 →
      exec (.readDone b.val q .readFail) s = .next (State.judgeAlert
        { (s.setSlot i { s.slot i with
            state := .queued, image := (s.slot i).image.fill (List.replicate 256 0x00#8) }).setBank b
            { s.bank b with monitor := .idle, read := none, readTimer := .stopped, awaited := [] } with
          engine := { s.engine with
            latched := s.engine.latched ||| 0x8#32,
            incidents := s.engine.incidents ++ [{ kind := .fillUnreadable, fence := s.tracker.fenceCounter,
                                                  page := some (s.slot i).page,
                                                  bank := some (s.bankOfPage (s.slot i).page).val,
                                                  slot := some i.val,
                                                  operation := some (s.slot i).origin.code }] } }))

/-- A merge replaces the bytes at its offsets and adds them to the written set, and leaves the others (R9); a
fill supplies the bytes outside the written set alone and makes it full (R23). -/
def Obligations.MergesOverwriteAndFillsDoNot : Prop :=
  (∀ (image : Image) (offset : Nat) (data : List Byte) (k : Nat), offset + data.length ≤ 256 →
    (image.merge offset data).byte k
      = if offset ≤ k ∧ k < offset + data.length then data[k - offset]? else image.byte k)
  ∧ ∀ (image : Image) (page : List Byte), page.length = 256 →
    (image.fill page).full = true
    ∧ ∀ k, k < 256 → (image.fill page).byte k = some ((image.byte k).getD (page.getD k 0x00#8))

/-! ## Writes and fences -/

/-- WRITE_TAKE: the checks of a write in their order, each refusal a WRITE_DONE without a fence number that
touches nothing but the lane, its credit and the response queue; a write to a protected page also latches
PROTECTED_WRITE and raises its incident, or INCIDENT_OVERFLOW; a write that passes all is absorbed or waits
(R135, with R117). -/
def Obligations.WritesAreJudgedInOrder : Prop :=
  ∀ (s : State) (w : WriteRequest), s.offersMemory (.write w) = true →
    let refused := fun result => State.judgeAlert { s with
      link := s.link.tookMemory [.writeDone w.tag result 0] }
    exec .writeTake s = .next (
      if w.length = 0 ∨ 64 < w.length ∨ w.data.length ≠ w.length then refused .malformed
      else if w.notify = true ∧ w.fence = false then refused .malformed
      else if 64 < w.address % 64 + w.length then refused .misaligned
      else if s.control.state = .starting then refused .starting
      else if s.control.state ≠ .running then refused .halted
      else if 256 * s.capacityPages ≤ w.address then refused .outOfRange
      else
        match s.region.table.findIdx? (fun r =>
          decide (r.first ≤ w.address / 256) && decide (w.address / 256 ≤ r.last)) with
        | some k => State.judgeAlert { s with
            link := s.link.tookMemory [.writeDone w.tag .protectedPage 0],
            engine := { s.engine with
              latched := s.engine.latched ||| (if s.engine.incidents.length < 16 then 0x1#32 else 0x81#32),
              incidents := if s.engine.incidents.length < 16 then
                  s.engine.incidents ++ [{ kind := .protectedWrite, fence := s.tracker.fenceCounter,
                                           page := some (w.address / 256), region := some k,
                                           operation := some w.tag }]
                else s.engine.incidents } }
        | none => ((s.tookMemory w.tag).absorbOrWait w).settle)

/-- WRITE_TAKE of a write that passes every check and finds the merge-eligible slot of its page: its bytes are
merged at the present moment and it is answered OK. A slot in HELD, FILLING or QUEUED keeps its state; an OPEN slot
restarts its close timer (R2, R8, R9, R15), or closes when its written set has become full: to HELD while an older
slot is not STRANDED, and to QUEUED otherwise (R16, R20; stated for an epoch that is not the head, R37). A write with
FENCE then takes its fence: the OPEN entry is CLOSED with the write's notify flag, a new one follows, and the answer
carries the number; stated with no OPEN slot and a head that still counts a slot (R10, R31, R32). -/
def Obligations.WriteMergesIntoItsSlot : Prop :=
  ∀ (s : State) (w : WriteRequest) (i : SlotId), s.offersMemory (.write w) = true →
    s.acceptable w = true → s.unprotected (w.address / 256) = true →
    s.soleEligible (w.address / 256) i = true →
    let merged := { s.slot i with
      image := (s.slot i).image.merge (w.address % 256) w.data, lastMerge := s.now }
    (w.fence = false → (s.slot i).state ≠ .opened →
      exec .writeTake s = .next (State.judgeAlert
        { s.setSlot i merged with link := s.link.tookMemory [.writeDone w.tag .ok 0] }))
    ∧ (w.fence = false → (s.slot i).state = .opened → merged.image.full = false →
      exec .writeTake s = .next (State.judgeAlert
        { s.setSlot i { merged with
            closeTimer := if s.engine.profile.closeAge = 0 then .stopped
              else .running (s.now + 10 * s.engine.profile.closeAge) } with
          link := s.link.tookMemory [.writeDone w.tag .ok 0] }))
    ∧ (∀ older newer : List SlotId, w.fence = false → (s.slot i).state = .opened → merged.image.full = true →
      (s.slot i).page = w.address / 256 → s.slotList (w.address / 256) = older ++ i :: newer → i ∉ older →
      s.headFence? ≠ some (s.slot i).epoch →
      exec .writeTake s = .next (State.judgeAlert
        { s.setSlot i { merged with
            closeTimer := .stopped,
            state := if ∃ j ∈ older, (s.slot j).state ≠ .stranded then .held else .queued } with
          link := s.link.tookMemory [.writeDone w.tag .ok 0] }))
    ∧ (∀ head rest, w.fence = true → (s.slot i).state ≠ .opened → (∀ j, (s.slot j).state ≠ .opened) →
      s.tracker.epochs = head :: rest → rest.length < 7 → head.outstanding ≠ 0 →
      exec .writeTake s = .next (State.judgeAlert
        { s.setSlot i merged with
          link := s.link.tookMemory [.writeDone w.tag .ok (nextFence s.tracker.fenceCounter)],
          tracker := { s.tracker with
            epochs := s.tracker.epochs.map (fun e =>
                if e.state = .opened then { e with state := .closed, notify := w.notify } else e)
              ++ [{ fence := nextFence (nextFence s.tracker.fenceCounter), state := .opened, outstanding := 0,
                    lossy := false, notify := false }],
            fenceCounter := nextFence s.tracker.fenceCounter } }))

/-- WRITE_TAKE of a write that passes every check and finds no merge-eligible slot: it opens the lowest-numbered
FREE slot with the fields R11 gives, at the end of its page's slot list, counted in the current epoch, and is
answered OK (R3, R5, R11, R35). Where the FREE count falls below LOW_WATER with it, the slot closes as soon as it has
opened (R17): to HELD behind an older slot that is not STRANDED, and otherwise to FILLING with its fill job, stated of
the only slot of a page that is not lost at a bank that is reading, and with no other slot OPEN (R19, R22). -/
def Obligations.WriteOpensTheLowestFreeSlot : Prop :=
  ∀ (s : State) (w : WriteRequest) (i : SlotId), s.offersMemory (.write w) = true →
    s.acceptable w = true → s.unprotected (w.address / 256) = true → w.fence = false →
    s.noneEligible (w.address / 256) = true → (s.slot i).state = .free →
    (∀ j, j < i → (s.slot j).state ≠ .free) →
    let link := s.link.tookMemory [.writeDone w.tag .ok 0]
    (s.engine.profile.lowWater < s.freeCount →
      exec .writeTake s = .next (State.judgeAlert { s.openedFor i w with link := link }))
    ∧ (s.freeCount ≤ s.engine.profile.lowWater → (∀ j, (s.slot j).state ≠ .opened) →
      i ∉ s.slotList (w.address / 256) →
      ((∃ j ∈ s.slotList (w.address / 256), (s.slot j).state ≠ .stranded) →
        exec .writeTake s = .next (State.judgeAlert
          { (s.openedFor i w).setSlot i { s.slotFor w with state := .held, closeTimer := .stopped } with
            link := link }))
      ∧ ∀ (c : BankId) (g : Geometry), s.slotList (w.address / 256) = [] → w.address / 256 ∉ s.remap.lost →
        s.geometry = some g → (w.address / 256) % g.banks = c.val → (s.bank c).monitor = .reading →
        exec .writeTake s = .next (State.judgeAlert
          { ((s.openedFor i w).setSlot i { s.slotFor w with state := .filling, closeTimer := .stopped }).setBank c
              { s.bank c with readQueue := (s.bank c).readQueue ++ [{
                  index := (match mapSpare? s.remap.table (w.address / 256) with
                    | some spare => g.pages - g.spares - 128 / g.banks + spare
                    | none => w.address / 256 / g.banks),
                  owner := .fill i, retried := false }] } with
            link := link }))

/-- A write that can find no slot, or a FENCE write with no room in the epoch list, waits at the memory lane head, and
STALLED_WRITE_ABSORB leaves it there while that lasts (R14, R33). Once it can merge, or a slot has become FREE and is
opened for it, it is absorbed and answered OK, the opening stated where the FREE count stays at or above LOW_WATER
(R14, R17). A FENCE write that can merge is absorbed once the epoch list has room, and its fence is taken and answered
(R10, R32, R33; stated with no OPEN slot and a head that still counts a slot). If the bridge has left RUNNING the write
is answered HALTED (R7, R14). If its page has come inside a region meanwhile, it is answered PROTECTED when it would be
absorbed, with the region index as it stands then, and waits until then (R7, R117); that this holds of a FENCE write
too the model reads from R33 (log entry 34). -/
def Obligations.WriteWaitsAtTheLaneHead : Prop :=
  ∀ (s : State) (w : WriteRequest),
    let stuck := (w.fence = true ∧ 8 ≤ s.tracker.epochs.length)
      ∨ (s.noneEligible (w.address / 256) = true ∧ ∀ i, (s.slot i).state ≠ .free)
    (s.offersMemory (.write w) = true → s.acceptable w = true → s.unprotected (w.address / 256) = true →
      stuck → exec .writeTake s = .next (State.judgeAlert { s with
        link := { s.link.tookMemory [] with tags := insertNat w.tag s.link.tags, head := some w } }))
    ∧ (s.ready = true → s.link.head = some w → s.control.state = .running →
      s.unprotected (w.address / 256) = true → stuck →
      exec .stalledWriteAbsorb s = .next s.judgeAlert)
    ∧ (∀ i, s.ready = true → s.link.head = some w → s.control.state = .running →
      s.unprotected (w.address / 256) = true → w.fence = false →
      s.soleEligible (w.address / 256) i = true → (s.slot i).state ≠ .opened →
      exec .stalledWriteAbsorb s = .next (State.judgeAlert
        { s.setSlot i { s.slot i with
            image := (s.slot i).image.merge (w.address % 256) w.data, lastMerge := s.now } with
          link := s.link.answeredHead w .ok 0 }))
    ∧ (∀ i, s.ready = true → s.link.head = some w → s.acceptable w = true →
      s.unprotected (w.address / 256) = true → w.fence = false → s.noneEligible (w.address / 256) = true →
      (s.slot i).state = .free → (∀ j, j < i → (s.slot j).state ≠ .free) →
      s.engine.profile.lowWater < s.freeCount →
      exec .stalledWriteAbsorb s = .next (State.judgeAlert
        { s.openedFor i w with link := s.link.answeredHead w .ok 0 }))
    ∧ (∀ i head rest, s.ready = true → s.link.head = some w → s.control.state = .running →
      s.unprotected (w.address / 256) = true → w.fence = true → s.soleEligible (w.address / 256) i = true →
      (∀ j, (s.slot j).state ≠ .opened) → s.tracker.epochs = head :: rest → rest.length < 7 →
      head.outstanding ≠ 0 →
      let fence := nextFence s.tracker.fenceCounter
      exec .stalledWriteAbsorb s = .next (State.judgeAlert
        { s.setSlot i { s.slot i with
            image := (s.slot i).image.merge (w.address % 256) w.data, lastMerge := s.now } with
          link := s.link.answeredHead w .ok fence,
          tracker := { s.tracker with
            epochs := s.tracker.epochs.map (fun e =>
                if e.state = .opened then { e with state := .closed, notify := w.notify } else e)
              ++ [{ fence := nextFence fence, state := .opened, outstanding := 0, lossy := false,
                    notify := false }],
            fenceCounter := fence } }))
    ∧ (∀ region, s.ready = true → s.link.head = some w → s.control.state = .running →
      s.region.table.findIdx? (fun r =>
        decide (r.first ≤ w.address / 256) && decide (w.address / 256 ≤ r.last)) = some region →
      (stuck → exec .stalledWriteAbsorb s = .next s.judgeAlert)
      ∧ (¬ stuck →
        exec .stalledWriteAbsorb s = .next (State.judgeAlert { s with
          link := s.link.answeredHead w .protectedPage 0,
          engine := { s.engine with
            latched := s.engine.latched ||| (if s.engine.incidents.length < 16 then 0x1#32 else 0x81#32),
            incidents := if s.engine.incidents.length < 16 then
                s.engine.incidents ++ [{ kind := .protectedWrite, fence := s.tracker.fenceCounter,
                                         page := some (w.address / 256), region := some region,
                                         operation := some w.tag }]
              else s.engine.incidents } })))
    ∧ (s.ready = true → s.link.head = some w → s.control.state ≠ .running →
      exec .stalledWriteAbsorb s = .next (State.judgeAlert { s with
        link := s.link.answeredHead w .halted 0 }))

/-- FLUSH: BUSY with nothing changed when the epoch list holds 8 entries; otherwise the OPEN entry is CLOSED
with its notify flag set, its number becomes the fence counter and is answered, and a new OPEN entry follows
(R32, R34). If the entry closed is the head with a count of 0, it is removed at once: the last persisted fence
becomes its number and its PERSISTED notice follows the response (R39 to R41). The OPEN slots of the entry close in
ascending order of age (R18, R32): stated of two slots of one bank that is reading, whose fill jobs join its read
queue in that order, whatever the numbers of the slots (R19, R22). The other cases are stated with no OPEN slot. -/
def Obligations.FlushTakesAFence : Prop :=
  ∀ (s : State) (d : DirRequest), s.offersDirective d = true → d.code = 0x01#8 → d.payloadLength = 0 →
    d.payload = [] → s.control.state = .running ∨ s.control.state = .degraded → s.region.staging = .empty →
    let assigned := nextFence s.tracker.fenceCounter
    let fresh : Epoch :=
      { fence := nextFence assigned, state := .opened, outstanding := 0, lossy := false, notify := false }
    (8 ≤ s.tracker.epochs.length → exec .flush s = .next (State.judgeAlert { s with
        link := s.link.tookDirective [.directiveDone d.tag .busy []] }))
    ∧ (∀ head rest, s.tracker.epochs = head :: rest → rest.length < 7 → head.outstanding ≠ 0 →
      (∀ i, (s.slot i).state ≠ .opened) →
      exec .flush s = .next (State.judgeAlert { s with
        link := s.link.tookDirective [.directiveDone d.tag .done (leBytes 2 assigned)],
        tracker := { s.tracker with
          epochs := s.tracker.epochs.map (fun e =>
            if e.state = .opened then { e with state := .closed, notify := true } else e) ++ [fresh],
          fenceCounter := assigned } }))
    ∧ (∀ head, s.tracker.epochs = [head] → head.state = .opened → head.outstanding = 0 →
      head.lossy = false → (∀ i, (s.slot i).state ≠ .opened) →
      (∀ i, (s.slot i).state = .queued → (s.slot i).epoch ≠ fresh.fence) →
      exec .flush s = .next (State.judgeAlert { s with
        link := s.link.tookDirective [.directiveDone d.tag .done (leBytes 2 assigned),
                                      .persisted head.fence false],
        tracker := { epochs := [fresh], fenceCounter := assigned, lastPersisted := head.fence } }))
    ∧ (∀ (i j : SlotId) (c : BankId) (g : Geometry) (head : Epoch) (rest : List Epoch),
      s.tracker.epochs = head :: rest → rest.length < 7 → head.outstanding ≠ 0 →
      (∀ k, (s.slot k).state = .opened ↔ k = i ∨ k = j) → (s.slot i).age < (s.slot j).age →
      (∀ k ∈ [i, j], (s.slot k).epoch = assigned ∧ (s.slot k).image.full = false
        ∧ s.slotList (s.slot k).page = [k] ∧ (s.slot k).page ∉ s.remap.lost
        ∧ (s.slot k).page % g.banks = c.val) →
      s.geometry = some g → (s.bank c).monitor = .reading →
      let closed := fun k => { s.slot k with state := .filling, closeTimer := .stopped }
      let job := fun (k : SlotId) =>
        { index := (match mapSpare? s.remap.table (s.slot k).page with
            | some spare => g.pages - g.spares - 128 / g.banks + spare
            | none => (s.slot k).page / g.banks),
          owner := .fill k, retried := false }
      exec .flush s = .next (State.judgeAlert
        { ((s.setSlot i (closed i)).setSlot j (closed j)).setBank c
            { s.bank c with readQueue := (s.bank c).readQueue ++ [job i, job j] } with
          link := s.link.tookDirective [.directiveDone d.tag .done (leBytes 2 assigned)],
          tracker := { s.tracker with
            epochs := s.tracker.epochs.map (fun e =>
              if e.state = .opened then { e with state := .closed, notify := true } else e) ++ [fresh],
            fenceCounter := assigned } }))

/-- CLOSE_TIMER_EXPIRY of an OPEN slot: HELD if an older slot of its page is not STRANDED; FILLING, with a fill
job naming the page's current location, if it has no older slot and the page is not lost; QUEUED, with zeros for the
missing bytes, if it has no older slot and the page is lost; QUEUED, with the missing bytes of the newest older slot's
image, if every older slot is STRANDED (R15, R19, R22). The FILLING case is stated for a bank that is reading, the
QUEUED cases for a slot of an epoch that is not the head (R37). -/
def Obligations.CloseTimerClosesTheSlot : Prop :=
  ∀ (s : State) (i : SlotId) (older newer : List SlotId) (deadline : Nat), s.ready = true →
    (s.slot i).state = .opened → (s.slot i).closeTimer = .running deadline → (s.slot i).image.full = false →
    s.slotList (s.slot i).page = older ++ i :: newer → i ∉ older →
    ((∃ j ∈ older, (s.slot j).state ≠ .stranded) →
      exec (.closeTimerExpiry i) s = .next (State.judgeAlert
        { s.setSlot i { s.slot i with state := .held, closeTimer := .stopped } with
          now := max s.now deadline }))
    ∧ (∀ (b : BankId) (g : Geometry), older = [] → (s.slot i).page ∉ s.remap.lost → s.geometry = some g →
      b.val = (s.slot i).page % g.banks → (s.bank b).monitor = .reading →
      exec (.closeTimerExpiry i) s = .next (State.judgeAlert
        { (s.setSlot i { s.slot i with state := .filling, closeTimer := .stopped }).setBank b
            { s.bank b with
              readQueue := (s.bank b).readQueue
                ++ [{ index := (match mapSpare? s.remap.table (s.slot i).page with
                        | some k => g.pages - g.spares - 128 / g.banks + k
                        | none => (s.slot i).page / g.banks),
                      owner := .fill i, retried := false }] } with
          now := max s.now deadline }))
    ∧ (∀ (before : List SlotId) (j : SlotId), older = before ++ [j] →
      (∀ k ∈ older, (s.slot k).state = .stranded) → s.headFence? ≠ some (s.slot i).epoch →
      exec (.closeTimerExpiry i) s = .next (State.judgeAlert
        { s.setSlot i { s.slot i with
            state := .queued, closeTimer := .stopped,
            image := (s.slot i).image.fill (s.slot j).image.toBytes } with
          now := max s.now deadline }))
    ∧ (older = [] → (s.slot i).page ∈ s.remap.lost → s.headFence? ≠ some (s.slot i).epoch →
      exec (.closeTimerExpiry i) s = .next (State.judgeAlert
        { s.setSlot i { s.slot i with
            state := .queued, closeTimer := .stopped,
            image := (s.slot i).image.fill (List.replicate 256 0x00#8) } with
          now := max s.now deadline }))

/-! ## Programs, suspensions and bank resets -/

/-- PROGRAM_DONE with OK for a data program, in a bank with nothing waiting, which becomes IDLE (R54). At the page's
own location or at the spare of its MAP entry, the page not lost, the slot becomes FREE with every older slot of the
page, which is STRANDED; they leave the page's slot list, and the slot's epoch counts one less (R26, R35, R88, R93). A
HELD slot behind them is re-examined: full, it is QUEUED (stated for an epoch that is not the head), and otherwise it
is FILLING and READ_PAGE of the page's current location is sent (R19 to R22). If the slot was the last that its
CLOSED head epoch counted, the entry is removed: it becomes the last persisted fence, its PERSISTED notice is generated
if its notify flag is set, LOSSY_EPOCH is raised and latched if it is lossy, and a QUEUED slot of the new head, if there
is one, joins its bank's program queue (R38, R39, R41, R42; stated for another bank, which is not IDLE). At a spare
claimed for the slot, or with the page lost, the slot goes to RECORDING, and its MAP request, with the RETIRE of the
spare it replaces, and its UNLOST request join the list (R88; stated for a writer at work with room in its list). -/
def Obligations.ProgrammedSlotBecomesFree : Prop :=
  ∀ (s : State) (b : BankId) (q : Nat) (i : SlotId), s.ready = true →
    s.control.drain = none → s.control.startup = none → s.geometry = none ∨ b.val < s.bankCount →
    (s.bank b).monitor = .programming → (s.bank b).program = .data i .inFlight →
    (s.bank b).awaited = [.programDone q] → (s.bank b).noneWaits = true →
    (∀ p, s.sched.pendingMeta = some p → s.metaBank p.page ≠ b) → s.bankOfPage (s.slot i).page = b →
    let page := (s.slot i).page
    let left := s.setBank b { s.bank b with
      monitor := .idle, program := .absent, programTimer := .stopped, awaited := [] }
    let stands := (s.slot i).target = some .own
      ∨ (∃ k, (s.slot i).target = some (.spare k) ∧ mapSpare? s.remap.table page = some k)
    (∀ (older newer : List SlotId) (e : Epoch) (rest : List Epoch), s.writer.list = [] → stands →
      page ∉ s.remap.lost → s.slotList page = older ++ i :: newer → i ∉ older →
      (∀ j ∈ older, (s.slot j).state = .stranded) → directoryLawful s.absorb.directory = true →
      s.tracker.epochs = e :: rest →
      e.state = .opened ∨ (if (s.slot i).epoch = e.fence then 1 else 0) < e.outstanding →
      let freed := s.absorb.freed page (older ++ [i])
      let counted := s.tracker.lessOne (s.slot i).epoch
      (newer = [] → exec (.programDone b.val q .ok) s = .next (State.judgeAlert
        { left with absorb := freed, tracker := counted }))
      ∧ (∀ h, newer = [h] → h ≠ i → (s.slot h).state = .held → (s.slot h).page = page →
        (s.slot h).image.full = true → e.fence ≠ (s.slot h).epoch →
        exec (.programDone b.val q .ok) s = .next (State.judgeAlert
          { left with
            absorb := { freed with slots := freed.slots.set h.val { s.slot h with state := .queued } },
            tracker := counted }))
      ∧ ∀ (h : SlotId) (g : Geometry), newer = [h] → h ≠ i → (s.slot h).state = .held → (s.slot h).page = page →
        (s.slot h).image.full = false → s.geometry = some g → (s.bank b).presence ≠ .absent →
        exec (.programDone b.val q .ok) s = .next (State.judgeAlert (State.readSent
          { left with
            absorb := { freed with slots := freed.slots.set h.val { s.slot h with state := .filling } },
            tracker := counted }
          b { index := (match mapSpare? s.remap.table page with
                | some k => g.pages - g.spares - 128 / g.banks + k
                | none => page / g.banks),
              owner := .fill h, retried := false } [] 0 .reading)))
    ∧ (∀ (e n : Epoch) (rest : List Epoch), s.writer.list = [] → stands → page ∉ s.remap.lost →
      s.slotList page = [i] → directoryLawful s.absorb.directory = true → s.tracker.epochs = e :: n :: rest →
      e.state = .closed → e.outstanding = 1 → (s.slot i).epoch = e.fence →
      (∀ x ∈ n :: rest, x.fence ≠ e.fence) → n.state = .opened ∨ n.outstanding ≠ 0 →
      (e.lossy = true → s.engine.incidents.length < 16) →
      let removed : State := { left with
        absorb := s.absorb.freed page [i],
        tracker := { s.tracker with epochs := n :: rest, lastPersisted := e.fence },
        link := { s.link with
          responses := s.link.responses ++ (if e.notify then [.persisted e.fence e.lossy] else []) },
        engine := if e.lossy then { s.engine with
            latched := s.engine.latched ||| 0x40#32,
            incidents := s.engine.incidents ++ [{ kind := .lossyEpoch, fence := s.tracker.fenceCounter,
                                                  operation := some e.fence }] }
          else s.engine }
      ((∀ j, j ≠ i → (s.slot j).state = .queued → (s.slot j).epoch ≠ n.fence) →
        exec (.programDone b.val q .ok) s = .next removed.judgeAlert)
      ∧ ∀ (j : SlotId) (c : BankId), (s.slot j).state = .queued → (s.slot j).epoch = n.fence → j ≠ i →
        (∀ k, (s.slot k).state = .queued → (s.slot k).epoch = n.fence → k = i ∨ k = j) →
        s.bankOfPage (s.slot j).page = c → c ≠ b → (s.bank c).monitor ≠ .idle →
        exec (.programDone b.val q .ok) s = .next (State.judgeAlert
          (removed.setBank c { s.bank c with programQueue := (s.bank c).programQueue ++ [j] })))
    ∧ (s.control.state ≠ .degraded → s.writer.state = .appending → s.remap.held = [] →
      s.remap.unrecorded = [] → s.writer.list.length ≤ 6 →
      let recording := fun (kinds : List RequestKind) => State.judgeAlert
        { left.setSlot i { s.slot i with state := .recording } with
          writer := { s.writer with
            list := s.writer.list ++ kinds.map (fun kind => { kind := kind, taken := 0, void := false }) } }
      let unlost := if page ∈ s.remap.lost then [RequestKind.unlost (some i) page] else []
      (stands → page ∈ s.remap.lost → exec (.programDone b.val q .ok) s = .next (recording unlost))
      ∧ ∀ k, (s.slot i).target = some (.spare k) → mapSpare? s.remap.table page ≠ some k →
        exec (.programDone b.val q .ok) s = .next
          (recording (.map i page b.val k (mapSpare? s.remap.table page) :: unlost)))

/-- PROGRAM_DONE with PROGRAM_FAIL, the attempt count not above RETRY_LIMIT: the count rises by one and the
retry is dispatched at once to the same target with the next tag, ahead of every waiting read's turn (R53, R55). -/
def Obligations.FailedProgramIsRetriedAtOnce : Prop :=
  ∀ (s : State) (b : BankId) (q : Nat) (i : SlotId) (target : Target), s.ready = true →
    s.control.drain = none → s.control.startup = none → s.geometry = none ∨ b.val < s.bankCount →
    s.control.state = .running ∨ s.control.state = .degraded →
    (s.bank b).monitor = .programming → (s.bank b).program = .data i .inFlight →
    (s.bank b).awaited = [.programDone q] → i ∉ (s.bank b).programQueue →
    (s.bank b).readQueue = [] ∨ s.engine.profile.suspendBudget ≤ (s.slot i).suspends →
    (s.slot i).state = .programming → (s.slot i).target = some target →
    (s.slot i).attempts + 1 ≤ s.engine.profile.retryLimit →
    s.slotList (s.slot i).page = [i] → s.pinCount (s.slot i).page = 0 →
    let tag := ((s.bank b).sequence + 1) % 16
    exec (.programDone b.val q .programFail) s = .next (State.judgeAlert
      { (s.setSlot i { s.slot i with attempts := (s.slot i).attempts + 1 }).setBank b { s.bank b with
          programTimer := .running (s.now + 5000), sequence := tag, programTag := tag,
          awaited := [.programDone tag] } with
        arrayOut := s.arrayOut ++ [.programPage b (s.targetIndex (s.slot i).page target) tag
          (.bytes (s.slot i).image.toBytes)] })

/-- The handoff of a slot whose attempts are exhausted: the lowest-numbered spare of the bank that carries no
claim is claimed for it, becomes its target with an attempt count of 0, and the slot goes to the front of the
program queue; a failed spare that carried its claim is first retired, unrecorded (R57, R85, R86). In DEGRADED, or
with no spare left unclaimed, the slot is stranded instead: its epoch counts one less and is lossy, STRANDED is
raised with the failed spare and the slot's origin, 0 HOST or 1 SCRUB, and STRANDED_NEW is latched (R85, R87, R147).
PROGRAM_DONE with PROGRAM_FAIL of a slot whose count passes RETRY_LIMIT comes to the handoff: the bank enters IDLE, and
with no read waiting the spare program is dispatched, while a batch of waiting reads goes before it (R50, R51, R55,
R57; stated in RUNNING for the only slot of its page, at its own location or at a spare claimed for it). Stranding is
stated for the only slot of its page, an OPEN head epoch and a failed target that carries no claim of the slot. -/
def Obligations.HandoffClaimsTheLowestFreeSpare : Prop :=
  [Origin.host, .scrub].map Origin.code = [0, 1]
  ∧ (∀ (s : State) (b : BankId) (i : SlotId) (claimed rest : List FreeSpare) (k : Nat),
    s.control.state ≠ .degraded → (∀ x ∈ claimed, x.claim.isSome = true) →
    (∀ x ∈ claimed ++ rest, x.index ≠ k) →
    (s.remap.free[b.val] = claimed ++ { index := k, claim := none } :: rest →
      (s.slot i).target = some .own →
      s.handoff b i = State.pushFront
        ((s.setFreeSpares b (claimed ++ { index := k, claim := some i } :: rest)).setSlot i
          { s.slot i with target := some (.spare k), attempts := 0 }) b i)
    ∧ (∀ (failed : Nat), (∀ x ∈ claimed ++ rest, x.index ≠ failed) → failed ≠ k →
      (s.slot i).target = some (.spare failed) →
      s.remap.free[b.val]
        = claimed ++ { index := failed, claim := some i } :: { index := k, claim := none } :: rest →
      ∃ t, t = s.handoff b i ∧ t.remap.free[b.val] = claimed ++ { index := k, claim := some i } :: rest
        ∧ t.remap.retired[b.val] = insertNat failed s.remap.retired[b.val]
        ∧ t.remap.unrecorded = s.remap.unrecorded ++ [(b.val, failed)]
        ∧ t.slot i = { s.slot i with target := some (.spare k), attempts := 0 }
        ∧ t.bank b = { s.bank b with programQueue := i :: (s.bank b).programQueue }))
  ∧ (∀ (s : State) (b : BankId) (q k : Nat) (i : SlotId) (g : Geometry) (failed : Option Nat)
      (claimed rest : List FreeSpare), s.ready = true → s.control.state = .running → s.control.drain = none →
    s.control.startup = none → s.geometry = some g → b.val < g.banks → (s.bank b).monitor = .programming →
    (s.bank b).program = .data i .inFlight → (s.bank b).awaited = [.programDone q] →
    (s.bank b).presence ≠ .absent → (∀ p, s.sched.pendingMeta = some p → s.metaBank p.page ≠ b) →
    i ∉ (s.bank b).programQueue → (s.slot i).state = .programming → s.bankOfPage (s.slot i).page = b →
    s.slotList (s.slot i).page = [i] → s.pinCount (s.slot i).page = 0 →
    s.engine.profile.retryLimit < (s.slot i).attempts + 1 →
    (s.slot i).target = some (match failed with | some x => .spare x | none => .own) →
    (∀ x ∈ claimed, x.claim.isSome = true) → (∀ x ∈ claimed ++ rest, x.index ≠ k ∧ some x.index ≠ failed) →
    failed ≠ some k →
    s.remap.free[b.val] = claimed
      ++ (match failed with | some x => [{ index := x, claim := some i }] | none => [])
      ++ { index := k, claim := none } :: rest →
    let handed : State := { s.setSlot i { s.slot i with target := some (.spare k), attempts := 0 } with
      remap := { s.remap with
        free := s.remap.free.set b.val (claimed ++ { index := k, claim := some i } :: rest),
        retired := (match failed with
          | some x => s.remap.retired.set b.val (insertNat x s.remap.retired[b.val])
          | none => s.remap.retired),
        unrecorded := s.remap.unrecorded ++ failed.toList.map (fun x => (b.val, x)) } }
    let tag := ((s.bank b).sequence + 1) % 16
    ((s.bank b).readQueue = [] →
      exec (.programDone b.val q .programFail) s = .next (State.judgeAlert
        { handed.setBank b { s.bank b with
            batch := 0, programTimer := .running (s.now + 5000), sequence := tag, programTag := tag,
            awaited := [.programDone tag] } with
          arrayOut := s.arrayOut ++ [.programPage b (g.pages - g.spares - 128 / g.banks + k) tag
            (.bytes (s.slot i).image.toBytes)] }))
    ∧ ∀ job jobs, (s.bank b).readQueue = job :: jobs →
      exec (.programDone b.val q .programFail) s = .next (State.judgeAlert
        ((handed.setBank b { s.bank b with
            program := .absent, programTimer := .stopped,
            programQueue := i :: (s.bank b).programQueue }).readSent b job jobs jobs.length .reading)))
  ∧ ∀ (s : State) (b : BankId) (i : SlotId) (failed : Option Nat) (e : Epoch) (rest : List Epoch),
    s.control.state = .degraded ∨ (∀ x ∈ s.remap.free[b.val], x.claim.isSome = true) →
    (s.slot i).target = some (match failed with | some k => .spare k | none => .own) →
    (∀ k ∈ failed, ∀ x ∈ s.remap.free[b.val], x.index ≠ k) →
    s.bankOfPage (s.slot i).page = b → (s.bank b).monitor ≠ .idle → s.slotList (s.slot i).page = [i] →
    s.tracker.epochs = e :: rest → e.state = .opened → s.engine.incidents.length < 16 →
    s.handoff b i = { s.setSlot i { s.slot i with state := .stranded } with
      tracker := { s.tracker with
        epochs := s.tracker.epochs.map (fun x => if x.fence = (s.slot i).epoch then
          { x with outstanding := x.outstanding - 1, lossy := true } else x) },
      engine := { s.engine with
        latched := s.engine.latched ||| 0x20#32,
        incidents := s.engine.incidents ++ [{ kind := .stranded, fence := s.tracker.fenceCounter,
                                              page := some (s.slot i).page, bank := some b.val,
                                              slot := some i.val, spareOld := failed,
                                              operation := some (s.slot i).origin.code }] } }

/-- PROGRAM_TIMER_EXPIRY with no outcome taken: the attempt has failed, the slot's count rises by one, and
BANK_RESET is sent; the count is judged at the RESET_DONE (R56, R64, R179). READ_TIMER_EXPIRY of a job's first failure
while a program is suspended ends that attempt in the same way: the slot returns to PROGRAMMING, its count rises by one,
BANK_RESET is sent, and the job waits at the front of the queue for its retry (R61, R63; stated outside a drain), its
retry mark set already, by R63 against R47 (the model's choice, log entry 45). Only
the first of the two banks carries a data program in a drain's end point (R171). -/
def Obligations.ProgramTimeoutResetsTheBank : Prop :=
  (∀ (s : State) (b : BankId) (i : SlotId) (job : ReadJob) (deadline : Nat), s.ready = true →
    s.control.drain = none → (s.bank b).monitor = .suspendedReading → (s.bank b).program = .data i .inFlight →
    (s.bank b).read = some job → job.retried = false → (s.bank b).readTimer = .running deadline →
    let expired := { s.bank b with
      monitor := .resetting, program := .data i .interrupted, read := none,
      readQueue := { job with retried := true } :: (s.bank b).readQueue, batch := (s.bank b).batch + 1,
      programTimer := .stopped, readTimer := .stopped, resetTimer := .running (max s.now deadline + 1000),
      sequence := ((s.bank b).sequence + 1) % 16, awaited := [.resetDone] }
    exec (.readTimerExpiry b) s = .next (State.judgeAlert
      { (s.setSlot i { s.slot i with state := .programming, attempts := (s.slot i).attempts + 1 }).setBank b
          expired with
        now := max s.now deadline, arrayOut := s.arrayOut ++ [.bankReset b] })
    ∧ expired.carriesData = false ∧ { expired with program := .data i .failed }.carriesData = true)
  ∧ ∀ (s : State) (b : BankId) (i : SlotId) (deadline : Nat), s.ready = true →
    (s.bank b).monitor = .programming → (s.bank b).program = .data i .inFlight →
    (s.bank b).programTimer = .running deadline → (s.slot i).state = .programming →
    exec (.programTimerExpiry b) s = .next (State.judgeAlert
      { (s.setSlot i { s.slot i with attempts := (s.slot i).attempts + 1 }).setBank b { s.bank b with
          monitor := .resetting, program := .data i .failed, programTimer := .stopped,
          readTimer := .stopped, resetTimer := .running (max s.now deadline + 1000),
          sequence := ((s.bank b).sequence + 1) % 16, awaited := [.resetDone] } with
        now := max s.now deadline, arrayOut := s.arrayOut ++ [.bankReset b] })

/-- SUSPEND_ACK with SUSPENDED before any outcome: the slot is SUSPENDED with its count risen by one, the program
timer pauses with its remaining time, a batch is fixed from every waiting job and its first is issued (R51, R59,
R62). When the last job of the batch is answered, RESUME is sent, slot and bank return to PROGRAMMING, the timer
continues from its remaining time, and SUSPEND is sent again if a read job waits, the budget allows it and the bridge
is RUNNING or DEGRADED (R58, R59; stated for a host read, R77; in no other state: the model's reading, log entry 32).
SUSPEND_ACK with NOT_ACTIVE changes nothing but that it is awaited no more, and the PROGRAM_DONE then ends
SUSPEND_PENDING; PROGRAM_DONE first has its outcome taken at once and its bank waits, its timer running, for the
SUSPEND_ACK, either answer of which ends SUSPEND_PENDING; the bank then fixes a batch and serves it, or issues the retry
that is due, and the suspend count does not rise (R51, R54, R55, R60; the outcome stated is OK for the only slot of its
page, and a retry where no SUSPEND follows). -/
def Obligations.SuspendedProgramServesABatch : Prop :=
  ∀ (s : State) (b : BankId) (i : SlotId), s.ready = true → s.geometry = none ∨ b.val < s.bankCount →
    (∀ (p deadline : Nat) (job : ReadJob) (rest : List ReadJob), (s.bank b).monitor = .suspendPending →
      (s.bank b).program = .data i .inFlight → (s.bank b).programTimer = .running deadline →
      (s.bank b).awaited = [.programDone p, .suspendAck p] → (s.bank b).readQueue = job :: rest →
      (s.slot i).state = .programming →
      exec (.suspendAck b.val p .suspended) s = .next (State.judgeAlert
        (((s.setSlot i { s.slot i with state := .suspended, suspends := (s.slot i).suspends + 1 }).setBank b
          { s.bank b with programTimer := .paused (deadline - s.now) }).readSent b job rest rest.length
            .suspendedReading)))
    ∧ (∀ (q remaining index : Nat) (retried : Bool) (page : List Byte) (r : ReadRecord),
      (s.bank b).monitor = .suspendedReading → (s.bank b).program = .data i .inFlight →
      (s.bank b).programTimer = .paused remaining → (s.bank b).awaited = [.readDone q] →
      (s.bank b).read = some { index := index, owner := .host r.tag, retried := retried } →
      (s.bank b).batch = 0 → (s.slot i).state = .suspended → s.record? r.tag = some r →
      s.bankOfPage r.page = b → page.length = 256 →
      let resumed := fun (monitor : Monitor) (acks : List Awaited) (commands : List ArrayCommand) =>
        State.judgeAlert { (s.setSlot i { s.slot i with state := .programming }).setBank b { s.bank b with
            monitor := monitor, read := none, readTimer := .stopped,
            programTimer := .running (s.now + remaining),
            awaited := .programDone (s.bank b).programTag :: acks } with
          arrayOut := s.arrayOut ++ .resume b (s.bank b).programTag :: commands,
          link := { s.link with
            tags := s.link.tags.filter (fun t => t != r.tag),
            responses := s.link.responses ++ [.readData r.tag .ok (r.data.mapIdx (fun k c =>
              c.getD (page.getD (r.first + k) 0x00#8)))] },
          reads := s.reads.filter (fun x => x.tag != r.tag),
          absorb := { (s.setSlot i { s.slot i with state := .programming }).absorb with
            directory := changeEntry r.page (fun e => { e with pins := e.pins - 1 }) s.absorb.directory } }
      let again := (s.bank b).readQueue ≠ [] ∧ (s.slot i).suspends < s.engine.profile.suspendBudget
        ∧ (s.control.state = .running ∨ s.control.state = .degraded)
      (¬ again → exec (.readDone b.val q (.ok (.bytes page))) s = .next (resumed .programming [] []))
      ∧ (again → exec (.readDone b.val q (.ok (.bytes page))) s = .next (resumed .suspendPending
          [.suspendAck (s.bank b).programTag] [.suspend b (s.bank b).programTag])))
    ∧ (∀ p, (s.bank b).monitor = .suspendPending → (s.bank b).program = .data i .inFlight →
      (s.bank b).awaited = [.programDone p, .suspendAck p] →
      exec (.suspendAck b.val p .notActive) s = .next (State.judgeAlert
        (s.setBank b { s.bank b with awaited := [.programDone p] })))
    ∧ (∀ (p : Nat) (e : Epoch) (epochs : List Epoch), (s.bank b).monitor = .suspendPending →
      (s.bank b).program = .data i .inFlight → s.control.drain = none → s.control.startup = none →
      s.bankOfPage (s.slot i).page = b → s.writer.list = [] → (s.slot i).target = some .own →
      (s.slot i).page ∉ s.remap.lost → s.slotList (s.slot i).page = [i] →
      directoryLawful s.absorb.directory = true → s.tracker.epochs = e :: epochs → e.state = .opened →
      let freed := fun (bank : Bank) => { s.setBank b bank with
        absorb := s.absorb.freed (s.slot i).page [i], tracker := s.tracker.lessOne (s.slot i).epoch }
      ((s.bank b).awaited = [.programDone p, .suspendAck p] →
        exec (.programDone b.val p .ok) s = .next (State.judgeAlert
          (freed { s.bank b with program := .absent, awaited := [.suspendAck p] })))
      ∧ ∀ (job : ReadJob) (rest : List ReadJob), (s.bank b).awaited = [.programDone p] →
        (s.bank b).readQueue = job :: rest → (s.bank b).presence ≠ .absent →
        exec (.programDone b.val p .ok) s = .next (State.judgeAlert
          ((freed { s.bank b with program := .absent, programTimer := .stopped }).readSent b job rest
            rest.length .reading)))
    ∧ (∀ (p : Nat) (answer : SuspendAnswer), (s.bank b).monitor = .suspendPending →
      (s.bank b).awaited = [.suspendAck p] → s.control.drain = none →
      (∀ (job : ReadJob) (rest : List ReadJob), (s.bank b).program = .absent →
        (s.bank b).readQueue = job :: rest → (s.bank b).presence ≠ .absent →
        exec (.suspendAck b.val p answer) s = .next (State.judgeAlert
          ((s.setBank b { s.bank b with programTimer := .stopped }).readSent b job rest rest.length .reading)))
      ∧ ∀ (target : Target) (queue : List SlotId), (s.bank b).program = .data i .retryDue →
        s.control.state = .running ∨ s.control.state = .degraded → (s.slot i).target = some target →
        (s.slot i).state = .programming → (s.bank b).programQueue = i :: queue → i ∉ queue →
        s.slotList (s.slot i).page = [i] → s.pinCount (s.slot i).page = 0 →
        (s.bank b).readQueue = [] ∨ s.engine.profile.suspendBudget ≤ (s.slot i).suspends →
        let tag := ((s.bank b).sequence + 1) % 16
        exec (.suspendAck b.val p answer) s = .next (State.judgeAlert
          { s.setBank b { s.bank b with
              monitor := .programming, program := .data i .inFlight, programQueue := queue,
              programTimer := .running (s.now + 5000), sequence := tag, programTag := tag,
              awaited := [.programDone tag] } with
            arrayOut := s.arrayOut ++ [.programPage b (s.targetIndex (s.slot i).page target) tag
              (.bytes (s.slot i).image.toBytes)] }))

/-- RESET_DONE in stage 1 marks the bank present; the last of the eight ends the stage, and IDENTIFY is sent with
its 1 ms timer (R165, R178). In RUNNING, after a read that timed out once, the bank fixes a batch of every
waiting job and issues the first (R51, R63, R64). A data program whose attempt an expiry has ended is judged: within
RETRY_LIMIT the retry is issued at once, ahead of every waiting read, and suspended again if the budget allows it, and
beyond it the slot is handed to the next spare, at the front of the queue behind the waiting reads (R55 to R58, R61). A
metadata program is reported failed: handed again and dispatched, or the writer stops and the bridge is DEGRADED (R65,
R105). A read that timed out twice ends: a host read is answered MEDIA_ERROR without an incident of its own (R63, R78),
and a fill supplies zeros with FILL_UNREADABLE (R24). These cases are stated outside a drain and a start-up. That stage
1 of a RESTART's start-up takes all eight banks' RESET_DONE with the geometry kept is the model's choice (log entry
15). -/
def Obligations.ResetDoneEndsABankReset : Prop :=
  (∀ (s : State) (b : BankId), s.ready = true → (s.bank b).monitor = .resetting →
    (s.bank b).awaited = [.resetDone] → (s.bank b).program = .absent → (s.bank b).read = none →
    let marked := { s.bank b with
      monitor := .idle, resetTimer := .stopped, awaited := [], presence := .present }
    (∀ up c, s.control.startup = some up → up.stage = .resetBanks →
      (s.bank b).presence = .unmarked → c ≠ b → (s.bank c).presence = .unmarked →
      exec (.resetDone b.val) s = .next (State.judgeAlert (s.setBank b marked)))
    ∧ (s.control.startup = some { stage := .resetBanks, stopAsked := false } →
      s.control.drain = none → (s.bank b).presence = .unmarked →
      (∀ c, c ≠ b → (s.bank c).presence ≠ .unmarked) →
      exec (.resetDone b.val) s = .next (State.judgeAlert { s.setBank b marked with
        control := { s.control with
          startup := some { stage := .identify, stopAsked := false },
          identifyTimer := .running (s.now + 1000) },
        arrayOut := s.arrayOut ++ [.identify] }))
    ∧ (∀ job rest, s.control.startup = none → s.control.drain = none → b.val < s.bankCount →
      (s.bank b).presence = .present → (s.bank b).readQueue = job :: rest →
      exec (.resetDone b.val) s = .next (State.judgeAlert
        ((s.setBank b { s.bank b with programTimer := .stopped, resetTimer := .stopped }).readSent b job
          rest rest.length .reading))))
  ∧ ∀ (s : State) (b : BankId), s.ready = true → s.control.startup = none → s.control.drain = none →
    b.val < s.bankCount → (s.bank b).presence = .present → (s.bank b).monitor = .resetting →
    (s.bank b).awaited = [.resetDone] →
    let tag := ((s.bank b).sequence + 1) % 16
    let rested := { s.bank b with
      monitor := .idle, program := .absent, programTimer := .stopped, resetTimer := .stopped, awaited := [] }
    let programming := { rested with
      monitor := .programming, programTimer := .running (s.now + 5000), sequence := tag, programTag := tag,
      awaited := [.programDone tag] }
    (∀ (i : SlotId) (phase : ProgramPhase), phase = .failed ∨ phase = .interrupted →
      (s.bank b).program = .data i phase → (s.bank b).read = none →
      i ∉ (s.bank b).programQueue → (s.slot i).state = .programming →
      (∀ target, (s.slot i).attempts ≤ s.engine.profile.retryLimit →
        s.control.state = .running ∨ s.control.state = .degraded → (s.slot i).target = some target →
        s.slotList (s.slot i).page = [i] → s.pinCount (s.slot i).page = 0 →
        let page := ArrayCommand.programPage b (s.targetIndex (s.slot i).page target) tag
          (.bytes (s.slot i).image.toBytes)
        ((s.bank b).readQueue = [] ∨ s.engine.profile.suspendBudget ≤ (s.slot i).suspends →
          exec (.resetDone b.val) s = .next (State.judgeAlert
            { s.setBank b { programming with program := .data i .inFlight } with
              arrayOut := s.arrayOut ++ [page] }))
        ∧ ((s.bank b).readQueue ≠ [] → (s.slot i).suspends < s.engine.profile.suspendBudget →
          exec (.resetDone b.val) s = .next (State.judgeAlert
            { s.setBank b { programming with
                monitor := .suspendPending, program := .data i .inFlight,
                awaited := [.programDone tag, .suspendAck tag] } with
              arrayOut := s.arrayOut ++ [page, .suspend b tag] })))
      ∧ ∀ (k : Nat) (claimed rest : List FreeSpare) (job : ReadJob) (jobs : List ReadJob),
        s.engine.profile.retryLimit < (s.slot i).attempts → s.control.state ≠ .degraded →
        (s.slot i).target = some .own → (∀ x ∈ claimed, x.claim.isSome = true) →
        (∀ x ∈ claimed ++ rest, x.index ≠ k) →
        s.remap.free[b.val] = claimed ++ { index := k, claim := none } :: rest →
        (s.bank b).readQueue = job :: jobs →
        let handed : State := { s.setSlot i { s.slot i with target := some (.spare k), attempts := 0 } with
          remap := { s.remap with
            free := s.remap.free.set b.val (claimed ++ { index := k, claim := some i } :: rest) } }
        exec (.resetDone b.val) s = .next (State.judgeAlert
          ((handed.setBank b { rested with programQueue := i :: (s.bank b).programQueue }).readSent b job jobs
            jobs.length .reading)))
    ∧ (∀ p : WriterProgram, (s.bank b).program = .metadata → (s.bank b).read = none → s.control.state = .running →
      s.writer.state = .appending → s.writer.program = some p →
      (p.attempts + 1 ≤ s.engine.profile.retryLimit → s.metaBank p.page = b → (s.bank b).readQueue = [] →
        exec (.resetDone b.val) s = .next (State.judgeAlert
          { s with
            writer := { s.writer with program := some { p with attempts := p.attempts + 1 } },
            sched := {
              banks := s.sched.banks.set b.val { programming with program := .metadata, batch := 0 },
              pendingMeta := some { page := p.page, image := p.image } },
            arrayOut := s.arrayOut ++ [.programPage b (s.metaIndex p.page) tag (.log p.image)] }))
      ∧ (s.engine.profile.retryLimit < p.attempts + 1 →
        ∃ t, exec (.resetDone b.val) s = .next t ∧ t.control.state = .degraded ∧ t.writer.state = .stopped
          ∧ t.writer.list = [] ∧ t.writer.program = none ∧ t.engine.latched.getLsbD 9 = true))
    ∧ (∀ job : ReadJob, (s.bank b).program = .absent → (s.bank b).read = some job → (s.bank b).readQueue = [] →
      (s.bank b).programQueue = [] → s.sched.pendingMeta = none →
      let ended := { rested with read := none, readTimer := .stopped, batch := 0 }
      (∀ r : ReadRecord, job.owner = .host r.tag → s.record? r.tag = some r → s.bankOfPage r.page = b →
        exec (.resetDone b.val) s = .next (State.judgeAlert { s.setBank b ended with
          link := { s.link with
            tags := s.link.tags.filter (fun t => t != r.tag),
            responses := s.link.responses ++ [.readData r.tag .mediaError []] },
          reads := s.reads.filter (fun x => x.tag != r.tag),
          absorb := { s.absorb with
            directory := changeEntry r.page (fun e => { e with pins := e.pins - 1 }) s.absorb.directory },
          engine := { s.engine with latched := s.engine.latched ||| 0x8#32 } }))
      ∧ (∀ i : SlotId, job.owner = .fill i → (s.slot i).state = .filling →
        s.headFence? ≠ some (s.slot i).epoch → s.engine.incidents.length < 16 →
        exec (.resetDone b.val) s = .next (State.judgeAlert
          { (s.setSlot i { s.slot i with
              state := .queued, image := (s.slot i).image.fill (List.replicate 256 0x00#8) }).setBank b ended with
            engine := { s.engine with
              latched := s.engine.latched ||| 0x8#32,
              incidents := s.engine.incidents ++ [{ kind := .fillUnreadable, fence := s.tracker.fenceCounter,
                                                    page := some (s.slot i).page,
                                                    bank := some (s.bankOfPage (s.slot i).page).val,
                                                    slot := some i.val,
                                                    operation := some (s.slot i).origin.code }] } })))

/-- RESET_TIMER_EXPIRY: in stage 1 the bank is marked absent, which is no fault, and the last of the eight marks ends
the stage: IDENTIFY is sent (R165, R179); that the record of an absent bank is IDLE from then on is the model's choice
(log entry 16). A bank that was present and carries a start-up read job when its reset times out later in start-up
makes the metadata corrupt, and the bridge FAULTED (R165, R166), its writer STOPPED, which the model reads from R163
for an entry from STARTING too (log entry 31). In every state but STARTING the bridge enters FAULTED with
ARRAY_UNRESPONSIVE: every bank record is FAULTED, and the writer stops with nothing in its list or in hand. Every read
that waits for the array is answered HALTED with no data, in ascending order of tag, and its record, its outstanding
tag and its pin are gone. A RANGE_APPLY that holds its request for room is answered FAILED as the bridge enters
FAULTED, and the engine is free, which the model reads from R151 (log entry 39). What stays then is named (R66, R79,
R105, R163, R179). From RUNNING the actions of leaving it follow: no slot is OPEN (R18), a staging is discarded with
RANGE_ABANDONED (R120), an active scrub is abandoned with its notice (R129), and a write at the lane head is answered
HALTED (R14). -/
def Obligations.ResetTimeoutMarksAbsentOrFaults : Prop :=
  ∀ (s : State) (b : BankId) (deadline : Nat), s.ready = true → (s.bank b).resetTimer = .running deadline →
    (∀ up c, s.control.state = .starting → s.control.startup = some up → up.stage = .resetBanks →
      (s.bank b).presence = .unmarked → (s.bank b).program = .absent → c ≠ b →
      (s.bank c).presence = .unmarked →
      exec (.resetTimerExpiry b) s = .next (State.judgeAlert
        { s.setBank b { s.bank b with
            monitor := .idle, resetTimer := .stopped, awaited := [], presence := .absent } with
          now := max s.now deadline }))
    ∧ (s.control.state = .starting → s.control.drain = none →
      s.control.startup = some { stage := .resetBanks, stopAsked := false } →
      (s.bank b).presence = .unmarked → (∀ c, c ≠ b → (s.bank c).presence ≠ .unmarked) →
      exec (.resetTimerExpiry b) s = .next (State.judgeAlert
        { s.setBank b { s.bank b with
            monitor := .idle, resetTimer := .stopped, awaited := [], presence := .absent } with
          now := max s.now deadline,
          control := { s.control with
            startup := some { stage := .identify, stopAsked := false },
            identifyTimer := .running (max s.now deadline + 1000) },
          arrayOut := s.arrayOut ++ [.identify] }))
    ∧ (s.control.state = .starting → s.control.startup.isSome = true → (s.bank b).presence = .present →
      (s.bank b).program = .absent → ((s.bank b).read.isSome = true ∨ (s.bank b).readQueue ≠ []) →
      ∃ t, exec (.resetTimerExpiry b) s = .next t ∧ t.inFault .metadataCorrupt = true
        ∧ s.keptInFault t = true ∧ t.now = max s.now deadline)
    ∧ (s.control.state ≠ .starting →
      ∃ (t : State) (ended : List ReadRecord) (before later : List Packet),
        exec (.resetTimerExpiry b) s = .next t ∧ t.inFault .arrayUnresponsive = true
        ∧ s.keptInFault t = true ∧ t.now = max s.now deadline
        ∧ t.writer.list = [] ∧ t.writer.program = none ∧ t.writer.compaction = none
        ∧ ended.Perm s.reads ∧ ended.Pairwise (fun x y => x.tag ≤ y.tag)
        ∧ t.link.responses
          = s.link.responses ++ before ++ ended.map (fun r => .readData r.tag .halted []) ++ later
        ∧ (∀ r ∈ s.reads, r.tag ∉ t.link.tags)
        ∧ (∀ tag change, s.engine.current = .rangeApply tag →
          s.region.held = some { kind := .region change, taken := 0, void := false } →
          .directiveDone tag .failed [] ∈ t.link.responses ∧ tag ∉ t.link.tags ∧ t.engine.current = .absent
            ∧ t.region.held = none)
        ∧ (directoryLawful s.absorb.directory = true →
          ∀ page, t.pinCount page = s.pinCount page - (s.reads.filter (fun r => r.page == page)).length)
        ∧ (s.control.state = .running →
          (∀ i, (t.slot i).state ≠ .opened) ∧ t.region.staging = .empty
          ∧ (s.region.staging ≠ .empty → t.engine.latched.getLsbD 8 = true)
          ∧ t.region.walker = none ∧ t.link.head = none
          ∧ (∀ w, s.region.walker = some w → .rangeDone true w.zeroed w.skipped ∈ t.link.responses)
          ∧ ∀ w, s.link.head = some w →
            .writeDone w.tag .halted 0 ∈ t.link.responses ∧ w.tag ∉ t.link.tags))

/-- IDENTIFY_DONE in stage 2: accepted figures of an array whose banks were all marked present are adopted, and
stage 3 begins by reading metadata pages 0 and 64, both of bank 0; figures that are not accepted, or a bank
marked absent, make the bridge FAULTED with GEOMETRY. IDENTIFY_TIMER_EXPIRY makes it FAULTED with
ARRAY_UNRESPONSIVE (R165, R166, R178): every bank record is FAULTED and the writer STOPPED (R66, R105, R163), which
the model reads from R163 for an entry from STARTING too (log entry 31). That both halves are read side by side is the
model's choice (log entry 13). -/
def Obligations.IdentifyAdoptsTheGeometryOrFaults : Prop :=
  ∀ (s : State) (deadline : Nat), s.ready = true → s.control.drain = none →
    s.control.startup = some { stage := .identify, stopAsked := false } →
    s.control.identifyTimer = .running deadline →
    (∀ banks exponent spares, banks ∈ [1, 2, 4, 8] → 12 ≤ exponent → exponent ≤ 22 → 16 ≤ spares →
      spares ≤ 64 → spares % 8 = 0 → (∀ b : BankId, b.val < banks → (s.bank b).presence = .present) →
      (s.bank 0).monitor = .idle → (s.bank 0).noneWaits = true → s.sched.pendingMeta = none →
      exec (.identifyDone banks exponent spares 1) s = .next (State.judgeAlert (State.readSent
        { s with
          geometry := some { banks := banks, pages := 2 ^ exponent, spares := spares },
          control := { s.control with
            startup := some { stage := .choose HalfScan.start HalfScan.start, stopAsked := false },
            identifyTimer := .stopped } }
        0 { index := 2 ^ exponent - 128 / banks, owner := .startup 0, retried := false }
        [{ index := 2 ^ exponent - 128 / banks + 64 / banks, owner := .startup 64, retried := false }]
        0 .reading)))
    ∧ (∀ banks exponent spares version, s.control.state = .starting →
      banks ∉ [1, 2, 4, 8] ∨ exponent < 12 ∨ 22 < exponent ∨ spares < 16 ∨ 64 < spares ∨ spares % 8 ≠ 0
        ∨ version ≠ 1 ∨ (∃ b : BankId, b.val < banks ∧ (s.bank b).presence ≠ .present) →
      ∃ t, exec (.identifyDone banks exponent spares version) s = .next t ∧ t.inFault .geometry = true
        ∧ s.keptInFault t = true ∧ t.now = s.now)
    ∧ (s.control.state = .starting →
      ∃ t, exec .identifyTimerExpiry s = .next t ∧ t.inFault .arrayUnresponsive = true
        ∧ s.keptInFault t = true ∧ t.now = max s.now deadline)

/-! ## The metadata log -/

/-- METADATA_REQUEST_JOIN while the writer is APPENDING and its list has room: the oldest request the Remap Unit
holds, or the request a RANGE_APPLY holds, joins the list's end and waits; with 8 requests in the list it does
not join (R102). Before its held request the Remap Unit hands its unrecorded retirements, oldest first, two to a
request and the last alone (R86, R88); that each of these requests joins by its own command is the model's choice
(log entry 38). In DORMANT and FAULTED none joins, so that the slots and the epoch list stay as they are, which the
model reads from R43 and R163 (log entry 39). -/
def Obligations.HeldRequestJoinsTheList : Prop :=
  (∀ (s : State) (who : Requester), s.control.state = .dormant ∨ s.control.state = .faulted →
    exec (.metadataRequestJoin who) s = .next s)
  ∧ ∀ s : State, s.ready = true → s.writer.state = .appending → s.control.state ≠ .dormant →
    s.control.state ≠ .faulted →
    (∀ r rest, s.writer.list.length < 8 → s.remap.held = r :: rest → s.remap.unrecorded = [] →
      exec (.metadataRequestJoin .remapUnit) s = .next (State.judgeAlert { s with
        remap := { s.remap with held := rest },
        writer := { s.writer with list := s.writer.list ++ [r] } }))
    ∧ (∀ x y more, s.writer.list.length < 8 → s.remap.held ≠ [] → s.remap.unrecorded = x :: y :: more →
      exec (.metadataRequestJoin .remapUnit) s = .next (State.judgeAlert { s with
        remap := { s.remap with unrecorded := more },
        writer := { s.writer with
          list := s.writer.list ++ [{ kind := .retire [x, y], taken := 0, void := false }] } }))
    ∧ (∀ x, s.writer.list.length < 8 → s.remap.held ≠ [] → s.remap.unrecorded = [x] →
      exec (.metadataRequestJoin .remapUnit) s = .next (State.judgeAlert { s with
        remap := { s.remap with unrecorded := [] },
        writer := { s.writer with
          list := s.writer.list ++ [{ kind := .retire [x], taken := 0, void := false }] } }))
    ∧ (∀ r, s.writer.list.length < 8 → s.region.held = some r →
      exec (.metadataRequestJoin .regionUnit) s = .next (State.judgeAlert { s with
        region := { s.region with held := none },
        writer := { s.writer with list := s.writer.list ++ [r] } }))
    ∧ (∀ who, 8 ≤ s.writer.list.length → exec (.metadataRequestJoin who) s = .next s)

/-- What an append takes outside a drain: the records of the list in order, as many as fit in the free places;
a request is split when only its first records fit, and what it leaves stays at the front of the list (R103). -/
def Obligations.AppendTakesRecordsInListOrder : Prop :=
  ∀ (used free : Nat) (list : List Request),
    (planAppend false used free list).records = (list.flatMap Request.remaining).take free
    ∧ (planAppend false used free list).rest.flatMap Request.remaining
      = (list.flatMap Request.remaining).drop free
    ∧ (planAppend false used free list).refused = []

/-- PROGRAM_DONE with OK for a log page program: the used count rises by the records taken, the buffer becomes the
image, or 16 BLANK records when the page is full, and the writer is IDLE with its list empty (R65, R104). Its
requests are answered persisted. RETIRE changes nothing more. MAP installs the entry, takes the spare out of the free
list, retires the spare it replaces and raises REMAPPED, and the slot becomes FREE, in a lost page once the UNLOST
carried behind it has taken the page out of the lost set (R89). UNLOST takes the page out of the lost set and frees
its slot (R90). Stated for the only slot of its page and an OPEN head epoch. OPEN_SESSION makes the session number the
one it carries and ends start-up in RUNNING (R167), or in DORMANT when POWER_WARN has been taken (R168). SHUTDOWN ends
the drain: a POWER drain in DORMANT, where a RANGE_APPLY that still holds the engine is answered FAILED (R151, R171;
log entry 39), and a RESTART drain in STARTING at stage 1, with the reads ended, the lanes answered and granted in
full, the writer UNLOADED, the slots FREE, the tables empty and every bank sent BANK_RESET (R80, R141, R165, R173); what
that leaves of the epoch list, the free spares and the geometry is the model's choice (log entries 15, 20 and 41), and
so is the ascending order of the eight BANK_RESETs (log entry 28).
A POWER drain leaves every other request that waits where it is, in the list or held, and with it each slot in RECORDING
and the epoch list, which DORMANT keeps until a hard reset (R43, R171; log entry 39).
The persisted answers of LOST and of a region record stand in ReleaseJudgesTheSlotInOrder and
RangeApplyRequestsItsRecord. -/
def Obligations.PersistedAppendAdvancesTheLog : Prop :=
  (∀ (s : State) (b : BankId) (q : Nat) (p : WriterProgram), s.ready = true → s.control.drain = none →
    s.control.startup = none → s.geometry = none ∨ b.val < s.bankCount →
    (s.bank b).monitor = .programming → (s.bank b).program = .metadata →
    (s.bank b).awaited = [.programDone q] → (s.bank b).noneWaits = true → s.writer.state = .appending →
    s.writer.program = some p → s.writer.list = [] →
    (∀ c ∈ p.carried, ∃ spares, c.request.kind = .retire spares) →
    s.writer.used + p.records + 32 ≤ 1024 →
    exec (.programDone b.val q .ok) s = .next (State.judgeAlert
      { s.setBank b { s.bank b with
          monitor := .idle, program := .absent, programTimer := .stopped, awaited := [] } with
        sched := {
          banks := s.sched.banks.set b.val { s.bank b with
            monitor := .idle, program := .absent, programTimer := .stopped, awaited := [] },
          pendingMeta := none },
        writer := { s.writer with
          state := .idle, used := s.writer.used + p.records, program := none,
          buffer := if (s.writer.used + p.records) % 16 = 0 then List.replicate 16 Record.blank
            else p.image } }))
  ∧ (∀ (s : State) (b : BankId) (q : Nat) (p : WriterProgram), s.endsAppend b q p = true →
    (∀ (i : SlotId) (page : Nat) (k : BankId) (spare taken : Nat) (old : Option Nat) (e : Epoch)
        (rest : List Epoch),
      p.carried = .last (.map i page k.val spare old) taken
        :: (if page ∈ s.remap.lost then [.last (.unlost (some i) page) 0] else []) →
      (s.slot i).state = .recording → (s.slot i).page = page → s.slotList page = [i] →
      directoryLawful s.absorb.directory = true → s.tracker.epochs = e :: rest → e.state = .opened →
      s.engine.incidents.length < 16 →
      exec (.programDone b.val q .ok) s = .next (State.judgeAlert { s.appended b p with
        absorb := s.absorb.freed page [i],
        tracker := s.tracker.lessOne (s.slot i).epoch,
        remap := { s.remap with
          table := installMap page spare s.remap.table,
          free := s.remap.free.set k.val (s.remap.free[k.val].filter (fun x => x.index != spare)),
          retired := match old with
            | some x => s.remap.retired.set k.val (insertNat x s.remap.retired[k.val])
            | none => s.remap.retired,
          lost := s.remap.lost.filter (fun x => x != page) },
        engine := { s.engine with
          latched := s.engine.latched ||| 0x10#32,
          incidents := s.engine.incidents ++ [{ kind := .remapped, fence := s.tracker.fenceCounter,
                                                page := some page, bank := some k.val, slot := some i.val,
                                                spareOld := old, operation := some spare }] } }))
    ∧ (∀ (i : SlotId) (page : Nat) (e : Epoch) (rest : List Epoch),
      p.carried = [.last (.unlost (some i) page) 0] →
      (s.slot i).state = .recording → (s.slot i).page = page → s.slotList page = [i] →
      directoryLawful s.absorb.directory = true → s.tracker.epochs = e :: rest → e.state = .opened →
      exec (.programDone b.val q .ok) s = .next (State.judgeAlert { s.appended b p with
        absorb := s.absorb.freed page [i],
        tracker := s.tracker.lessOne (s.slot i).epoch,
        remap := { s.remap with lost := s.remap.lost.filter (fun x => x != page) } }))
    ∧ (∀ page, p.carried = [.last (.unlost none page) 0] →
      exec (.programDone b.val q .ok) s = .next (State.judgeAlert { s.appended b p with
        remap := { s.remap with lost := s.remap.lost.filter (fun x => x != page) } })))
  ∧ (∀ (s : State) (b : BankId) (q : Nat) (p : WriterProgram) (session : BitVec 32) (stopAsked : Bool),
    s.inLastAppend b q p = true → p.carried = [.last (.openSession session) 0] →
    s.control.state = .starting → s.control.drain = none →
    s.control.startup = some { stage := .openSession none, stopAsked := stopAsked } →
    session = (if s.control.session = 0xFFFFFFFF#32 then 1#32 else s.control.session + 1#32) →
    exec (.programDone b.val q .ok) s = .next (State.judgeAlert (
      if stopAsked then { s.appended b p with
        control := { s.control with state := .dormant, startup := none, session := session } }
      else { s.appended b p with
        control := { s.control with state := .running, startup := none, session := session },
        absorb := State.reset.absorb, tracker := State.reset.tracker,
        region := { s.region with staging := .empty, walker := none } })))
  ∧ (∀ (s : State) (b : BankId) (q : Nat) (p : WriterProgram) (d : Drain) (session : BitVec 32)
      (outcome : ShutdownOutcome) (fence stranded : Nat),
    State.inLastAppend { s with
      writer := { s.writer with list := [] }, remap := { s.remap with held := [] } } b q p = true →
    p.carried = [.last (.shutdown session outcome fence stranded) 0] → s.control.state = .draining →
    s.control.startup = none → s.control.drain = some d → d.shutdown = .handed → d.kind = .power →
    s.region.held = none →
    (∀ r ∈ s.writer.list ++ s.remap.held, match r.kind with
      | .lost _ => False
      | .region _ => False
      | _ => True) →
    exec (.programDone b.val q .ok) s = .next (State.judgeAlert { s.appended b p with
      control := { s.control with state := .dormant, drain := none } }))
  ∧ ∀ (s : State) (b : BankId) (q : Nat) (p : WriterProgram) (d : Drain) (session : BitVec 32)
      (outcome : ShutdownOutcome) (fence stranded : Nat),
    s.inLastAppend b q p = true → p.carried = [.last (.shutdown session outcome fence stranded) 0] →
    s.control.state = .draining → s.control.startup = none → s.control.drain = some d → d.shutdown = .handed →
    (d.kind = .power → s.region.held = none →
      exec (.programDone b.val q .ok) s = .next (State.judgeAlert { s.appended b p with
        control := { s.control with state := .dormant, drain := none } }))
    ∧ (∀ (tag : Nat) (change : RegionChange), d.kind = .power → s.engine.current = .rangeApply tag →
      s.region.held = some { kind := .region change, taken := 0, void := false } →
      exec (.programDone b.val q .ok) s = .next (State.judgeAlert { s.appended b p with
        control := { s.control with state := .dormant, drain := none },
        region := { s.region with held := none },
        engine := { s.engine with current := .absent },
        link := { s.link with
          tags := s.link.tags.filter (fun x => x != tag),
          responses := s.link.responses ++ [.directiveDone tag .failed []] } }))
    ∧ (d.kind = .restart → s.region.held = none → (∀ k, (s.bank k).monitor ≠ .resetting) →
      (∀ r ∈ s.link.memLane, r.tag ∉ s.link.tags) → (∀ r ∈ s.link.dirLane, r.tag ∉ s.link.tags) →
      exec (.programDone b.val q .ok) s = .next (State.judgeAlert { s with
        control := { s.control with
          state := .starting, drain := none,
          startup := some { stage := .resetBanks, stopAsked := false } },
        reads := [], link := s.link.restarted s.reads,
        writer := { (s.appended b p).writer with state := .unloaded, compaction := none },
        absorb := State.reset.absorb, tracker := State.reset.tracker, remap := State.reset.remap,
        region := { s.region with table := [] },
        sched := { banks := s.sched.banks.map (fun x => x.resetAt s.now), pendingMeta := none },
        arrayOut := s.arrayOut ++ allBanks.map ArrayCommand.bankReset }))

/-- A metadata program that fails beyond RETRY_LIMIT in RUNNING: METADATA_FAULT is latched and raised with the page
and the writer's work, the writer stops with an empty list, and the bridge is DEGRADED (R105, R163). The actions of
leaving RUNNING follow: no slot is OPEN (R18), a staging is discarded with RANGE_ABANDONED (R120), an active scrub is
abandoned with its notice (R129), and a write at the lane head is answered HALTED (R14). -/
def Obligations.MetadataFailureDegradesTheBridge : Prop :=
  ∀ (s : State) (b : BankId) (q : Nat) (p : WriterProgram), s.ready = true → s.control.state = .running →
    s.control.drain = none → s.control.startup = none → s.geometry = none ∨ b.val < s.bankCount →
    (s.bank b).program = .metadata → .programDone q ∈ (s.bank b).awaited → s.writer.program = some p →
    s.engine.profile.retryLimit < p.attempts + 1 →
    ∃ t, exec (.programDone b.val q .programFail) s = .next t ∧ t.control.state = .degraded
      ∧ t.writer.state = .stopped ∧ t.writer.program = none ∧ t.writer.compaction = none
      ∧ t.engine.latched.getLsbD 9 = true ∧ t.region.staging = .empty ∧ t.region.walker = none
      ∧ (s.engine.incidents.length < 16 → ({
            kind := .metadataFault, fence := s.tracker.fenceCounter,
            metadataPage := some p.page,
            operation := some (match s.writer.state with
              | .compacting => 1 | .formatting => 2 | _ => 0) } : Incident) ∈ t.engine.incidents)
      ∧ (16 ≤ s.engine.incidents.length → t.engine.latched.getLsbD 7 = true)
      ∧ t.writer.list = [] ∧ (∀ i, (t.slot i).state ≠ .opened)
      ∧ (s.region.staging ≠ .empty → t.engine.latched.getLsbD 8 = true)
      ∧ (∀ w, s.region.walker = some w → .rangeDone true w.zeroed w.skipped ∈ t.link.responses)
      ∧ (∀ w, s.link.head = some w → .writeDone w.tag .halted 0 ∈ t.link.responses ∧ w.tag ∉ t.link.tags)
      ∧ t.link.head = none ∧ t.geometry = s.geometry ∧ t.engine.profile = s.engine.profile
      ∧ t.remap.table = s.remap.table ∧ t.region.table = s.region.table ∧ t.now = s.now
      ∧ t.hostOut = s.hostOut

/-- The snapshot a compaction makes is a valid half of the next generation, and its 64 half pages hold it from
position 0 with BLANK after its last record (R100, R107). -/
def Obligations.SnapshotIsAValidHalf : Prop :=
  ∀ (s : State) (session : BitVec 32),
    validHalf (s.snapshot session) = some (s.writer.generation + 1)
    ∧ ((s.snapshot session).length ≤ 1024 →
      (pageImages 64 (s.snapshot session)).flatten
        = s.snapshot session ++ List.replicate (1024 - (s.snapshot session).length) Record.blank
      ∧ ∀ image ∈ pageImages 64 (s.snapshot session), image.length = 16)

/-- Replay of a snapshot rebuilds the tables it was made from: the remap table, the retired spares, the lost set,
the region table and the session, with no SHUTDOWN found (R107, R113, R114). -/
def Obligations.ReplayRebuildsTheSnapshot : Prop :=
  ∀ (s : State) (g : Geometry) (session : BitVec 32) (half : Nat), s.factsLawful g = true →
    Replay.run g ((s.snapshot session).drop 1 ++ [Record.blank])
        (Replay.start half (s.writer.generation + 1))
      = .stopped {
          half := half, generation := s.writer.generation + 1, table := s.remap.table,
          retired := allBanks.flatMap (fun b => (s.remap.retired[b.val]).map (fun k => (b.val, k))),
          lost := s.remap.lost, regions := s.region.table, session := some session, shutdown := none,
          inSnapshot := false, used := (s.snapshot session).length, buffer := [] }

/-! ## Directives -/

/-- A directive that the bridge state does not admit is answered STARTING in STARTING and HALTED in every other state,
with an empty payload, and changes nothing but its lane, its credit and, where it is none of the eight exempt
directives, the staging (R120, R149, R150). Every directive that is not exempt, whether refused, answered BAD_ARGUMENT
or carried out, discards a staging in progress with RANGE_ABANDONED latched, and acts exactly as if no staging had
existed (R120, R149 step 2). -/
def Obligations.RefusedDirectiveChangesNothing : Prop :=
  ∀ (s : State) (c : Instr) (d : DirRequest) (which : Directive), c.directive? = some which →
    s.offersDirective d = true → directiveOf? d.code = some which →
    (which.sparesStaging = false → exec c s = exec c s.abandoned)
    ∧ ((match s.control.state with
      | .starting => which ≠ .statusFetch
      | .running => which = .reformat
      | .degraded => which ∉ [.statusFetch, .incidentTake, .regionList, .remapQuery, .profile, .flush, .restart]
      | .draining => which ∉ [.statusFetch, .incidentTake]
      | .dormant => which ∉ [.statusFetch, .incidentTake]
      | .faulted => which ∉ [.statusFetch, .incidentTake]
          ∧ ¬ (which = .reformat ∧ s.control.faultReason = .metadataCorrupt)) →
    exec c s = .next (State.judgeAlert { (if which.sparesStaging then s else s.abandoned) with
      link := s.link.tookDirective [.directiveDone d.tag
        (if s.control.state = .starting then .starting else .halted) []] }))

/-- UNKNOWN_DIRECTIVE: a code that names no directive is answered UNKNOWN in every bridge state, and discards a
staging in progress with RANGE_ABANDONED latched (R120, R149 step 1). In each bridge state, a directive it admits
(R150) whose payload is longer than 64 bytes, not of the length its byte gives, or not of its code's length is answered
BAD_ARGUMENT (R142, R149 step 4), and one that is not exempt discards a staging first (R120). -/
def Obligations.BadCodeOrLengthIsAnswered : Prop :=
  (∀ (s : State) (d : DirRequest), s.offersDirective d = true →
    d.code ∉ [0x01#8, 0x10#8, 0x11#8, 0x12#8, 0x13#8, 0x14#8, 0x20#8, 0x21#8, 0x30#8, 0x31#8, 0x40#8, 0x41#8,
      0x42#8] →
    exec .unknownDirective s = .next (State.judgeAlert { s.abandoned with
      link := s.link.tookDirective [.directiveDone d.tag .unknown []] }))
  ∧ ∀ (s : State) (c : Instr) (d : DirRequest) (which : Directive), c.directive? = some which →
    s.offersDirective d = true → directiveOf? d.code = some which →
    (match s.control.state with
      | .starting => which = .statusFetch
      | .running => which ≠ .reformat
      | .degraded => which ∈ [.statusFetch, .incidentTake, .regionList, .remapQuery, .profile, .flush, .restart]
      | .draining => which ∈ [.statusFetch, .incidentTake]
      | .dormant => which ∈ [.statusFetch, .incidentTake]
      | .faulted => which ∈ [.statusFetch, .incidentTake]
          ∨ which = .reformat ∧ s.control.faultReason = .metadataCorrupt) →
    64 < d.payloadLength ∨ d.payloadLength ≠ d.payload.length ∨ d.payloadLength ≠ which.payloadLength →
    exec c s = .next (State.judgeAlert { (if which.sparesStaging then s else s.abandoned) with
      link := s.link.tookDirective [.directiveDone d.tag .badArgument []] })

/-- The range staging in RUNNING: RANGE_FIRST and RANGE_LAST by their arguments and the staging, and
RANGE_APPLY and RANGE_SCRUB out of sequence, each with its result and the staging afterwards (R119). -/
def Obligations.RangeStagingFollowsItsTable : Prop :=
  ∀ (s : State) (d : DirRequest), s.offersDirective d = true → s.control.state = .running →
    let ends := fun result staging => State.judgeAlert { s with
      link := s.link.tookDirective [.directiveDone d.tag result []],
      region := { s.region with staging := staging } }
    (∀ page, d.code = 0x10#8 → d.payloadLength = 4 → d.payload = leBytes 4 page → page < 2 ^ 32 →
      exec .rangeFirst s = .next (
        if s.region.staging ≠ .empty then ends .sequence .empty
        else if page < s.capacityPages then ends .done (.firstSet page)
        else ends .badArgument .empty))
    ∧ (∀ page, d.code = 0x11#8 → d.payloadLength = 4 → d.payload = leBytes 4 page → page < 2 ^ 32 →
      exec .rangeLast s = .next (match s.region.staging with
        | .firstSet first =>
          if first ≤ page ∧ page < s.capacityPages then ends .done (.bothSet first page)
          else ends .badArgument (.firstSet first)
        | _ => ends .sequence .empty))
    ∧ (∀ attr : Byte, d.code = 0x12#8 → d.payloadLength = 1 → d.payload = [attr] →
      (∀ first last, s.region.staging ≠ .bothSet first last) →
      exec .rangeApply s = .next (ends .sequence .empty))
    ∧ (d.code = 0x13#8 → d.payloadLength = 0 → d.payload = [] →
      (∀ first last, s.region.staging ≠ .bothSet first last) →
      exec .rangeScrub s = .next (ends .sequence .empty))

/-- RANGE_APPLY of a staged range where no record is needed: BAD_ARGUMENT, DONE with the matching entry,
OVERLAP, FULL, REFUSED_FIXED and NO_MATCH, by the first case that applies; the staging is EMPTY afterwards and
the table unchanged (R119, R121). -/
def Obligations.RangeApplyWithoutARecord : Prop :=
  ∀ (s : State) (d : DirRequest) (attr : Byte) (first last : Nat), s.offersDirective d = true →
    s.control.state = .running → d.code = 0x12#8 → d.payloadLength = 1 → d.payload = [attr] →
    s.region.staging = .bothSet first last → regionsLawful s.region.table = true →
    let ends := fun result payload => State.judgeAlert { s with
      link := s.link.tookDirective [.directiveDone d.tag result payload],
      region := { s.region with staging := .empty } }
    (attr ∉ [0#8, 1#8, 2#8] → exec .rangeApply s = .next (ends .badArgument []))
    ∧ (∀ k a, s.region.table[k]? = some { first := first, last := last, attr := a } →
      (attr = 1#8 ∧ a = .guarded) ∨ (attr = 2#8 ∧ a = .fixed) →
      exec .rangeApply s = .next (ends .done
        (leBytes 1 k ++ [attr, 0x00#8, 0x00#8] ++ leBytes 4 first ++ leBytes 4 last)))
    ∧ (∀ r ∈ s.region.table, r.first ≤ last → first ≤ r.last →
      (attr = 1#8 ∨ attr = 2#8) ∧ ¬ (r.first = first ∧ r.last = last)
        ∨ (attr = 1#8 ∧ r = { first := first, last := last, attr := .fixed }) →
      exec .rangeApply s = .next (ends .overlap []))
    ∧ (attr = 1#8 ∨ attr = 2#8 → (∀ r ∈ s.region.table, last < r.first ∨ r.last < first) →
      16 ≤ s.region.table.length → exec .rangeApply s = .next (ends .full []))
    ∧ (attr = 0#8 → { first := first, last := last, attr := .fixed } ∈ s.region.table →
      exec .rangeApply s = .next (ends .refusedFixed []))
    ∧ (attr = 0#8 → (∀ r ∈ s.region.table, ¬ (r.first = first ∧ r.last = last)) →
      exec .rangeApply s = .next (ends .noMatch []))

/-- RANGE_APPLY of a staged range that needs a record: the request joins the pending-append list, the staging is
EMPTY, the directive holds the engine unanswered, and the table is unchanged (R121, R122, R151). Stated for a
writer that is APPENDING with room in its list. When the record has persisted, the change is made and the directive
is answered DONE with the entry as it then stands, or for a removal with attribute NONE and the index it had (R122).
A request that still waits in the list when an answer frees the last slot of a drain is refused, the directive is
answered FAILED with the table unchanged, and the next append carries the SHUTDOWN alone, as things stand at that moment
(R104, R106, R171; stated for an UNLOST, an OPEN head epoch and no slot in a program queue); the order of those effects
between the answers of a program and the next append is the model's choice (log entry 27). The change keeps the table in
order (R116). -/
def Obligations.RangeApplyRequestsItsRecord : Prop :=
  (∀ (s : State) (d : DirRequest) (attr : Byte) (first last : Nat), s.offersDirective d = true →
    s.control.state = .running → d.code = 0x12#8 → d.payloadLength = 1 → d.payload = [attr] →
    s.region.staging = .bothSet first last → regionsLawful s.region.table = true →
    s.writer.state = .appending → s.writer.list.length < 8 →
    let asks := fun change => exec .rangeApply s = .next (State.judgeAlert { s with
      link := { s.link.tookDirective [] with tags := insertNat d.tag s.link.tags },
      region := { s.region with staging := .empty },
      engine := { s.engine with current := .rangeApply d.tag },
      writer := { s.writer with
        list := s.writer.list ++ [{ kind := .region change, taken := 0, void := false }] } })
    (attr = 2#8 → { first := first, last := last, attr := .guarded } ∈ s.region.table →
      asks (.promote first last))
    ∧ (attr = 0#8 → { first := first, last := last, attr := .guarded } ∈ s.region.table →
      asks (.remove first last))
    ∧ (attr = 1#8 ∨ attr = 2#8 → (∀ r ∈ s.region.table, last < r.first ∨ r.last < first) →
      s.region.table.length < 16 →
      asks (.add first last (if attr = 1#8 then .guarded else .fixed))))
  ∧ (∀ (s : State) (b : BankId) (q tag : Nat) (p : WriterProgram) (change : RegionChange),
    s.endsAppend b q p = true → p.carried = [.last (.region change) 0] → s.engine.current = .rangeApply tag →
    let answers := fun (at' : List Region) (code : Byte) (first last : Nat) =>
      exec (.programDone b.val q .ok) s = .next (State.judgeAlert { s.appended b p with
        region := { s.region with table := change.apply s.region.table },
        engine := { s.engine with current := .absent },
        link := { s.link with
          tags := s.link.tags.filter (fun x => x != tag),
          responses := s.link.responses ++ [.directiveDone tag .done
            (leBytes 1 (at'.findIdx (fun r => r.first == first && r.last == last))
              ++ [code, 0x00#8, 0x00#8] ++ leBytes 4 first ++ leBytes 4 last)] } })
    (∀ first last attr, change = .add first last attr →
      answers (change.apply s.region.table) (if attr = .guarded then 0x01#8 else 0x02#8) first last)
    ∧ (∀ first last, change = .promote first last →
      { first := first, last := last, attr := .guarded } ∈ s.region.table →
      answers (change.apply s.region.table) 0x02#8 first last)
    ∧ (∀ first last, change = .remove first last →
      { first := first, last := last, attr := .guarded } ∈ s.region.table →
      answers s.region.table 0x00#8 first last))
  ∧ (∀ (s : State) (b : BankId) (q tag page : Nat) (p : WriterProgram) (i : SlotId) (change : RegionChange) (d : Drain)
      (e : Epoch) (rest : List Epoch), s.ready = true → s.geometry = none ∨ b.val < s.bankCount →
    s.control.state = .draining → s.control.startup = none → s.control.drain = some d → d.shutdown = .notHanded →
    d.recordPermitted = true → (s.bank b).monitor = .programming → (s.bank b).program = .metadata →
    (s.bank b).awaited = [.programDone q] → s.writer.state = .appending →
    (∀ k, (s.bank k).presence ≠ .absent ∧ (s.bank k).programQueue = []) →
    s.writer.program = some p → p.carried = [.last (.unlost (some i) page) 0] → s.writer.used + p.records < 1024 →
    s.writer.list = [{ kind := .region change, taken := 0, void := false }] → s.engine.current = .rangeApply tag →
    s.remap.held = [] → (s.slot i).state = .recording → (s.slot i).page = page → s.slotList page = [i] →
    directoryLawful s.absorb.directory = true → s.tracker.epochs = e :: rest → e.state = .opened →
    (∀ j, j ≠ i → (s.slot j).state = .free ∨ (s.slot j).state = .stranded) →
    ∃ t, exec (.programDone b.val q .ok) s = .next t ∧ (t.slot i).state = .free ∧ t.region.table = s.region.table
      ∧ t.engine.current = .absent ∧ t.link.responses = s.link.responses ++ [.directiveDone tag .failed []]
      ∧ t.control.state = .draining ∧ t.control.drain.map Drain.shutdown = some .handed ∧ t.writer.list = []
      ∧ t.writer.program.map WriterProgram.carried = some [.last (.shutdown s.control.session
          (match d.kind with | .power => .complete | .restart => .restart) s.tracker.lastPersisted
          (allSlots.filter (fun j => (s.slot j).state == .stranded)).length) 0])
  ∧ ∀ (attr first last : Nat) (table : List Region) (change : RegionChange), first ≤ last →
    regionsLawful table = true → table.length ≤ 16 → judgeApply attr first last table = .change change →
    regionsLawful (change.apply table) = true ∧ (change.apply table).length ≤ 16

/-- RANGE_SCRUB in RUNNING with the staging BOTH_SET: STARTED with the walker at the first page and both counts
0, or BUSY with an active scrub untouched; the staging becomes EMPTY (R124). -/
def Obligations.RangeScrubStartsTheWalker : Prop :=
  ∀ (s : State) (d : DirRequest) (first last : Nat), s.offersDirective d = true →
    s.control.state = .running → d.code = 0x13#8 → d.payloadLength = 0 → d.payload = [] →
    s.region.staging = .bothSet first last →
    exec .rangeScrub s = .next (match s.region.walker with
      | some _ => State.judgeAlert { s with
          link := s.link.tookDirective [.directiveDone d.tag .busy []],
          region := { s.region with staging := .empty } }
      | none => State.judgeAlert { s with
          link := s.link.tookDirective [.directiveDone d.tag .started []],
          region := { s.region with
            staging := .empty,
            walker := some { first := first, last := last, next := first, zeroed := 0, skipped := 0 } } })

/-- REGION_LIST: STARTING or HALTED outside RUNNING and DEGRADED; BAD_ARGUMENT for a start index other than 0, 4,
8 and 12; otherwise DONE with the region count, the number of entries carried and up to four entries of 12 bytes
from the start index on, each with its region index. Nothing else changes, the staging included (R123, R143,
R150). -/
def Obligations.RegionListReportsFourEntries : Prop :=
  ∀ (s : State) (d : DirRequest) (start : Byte), s.offersDirective d = true → d.code = 0x14#8 →
    d.payloadLength = 1 → d.payload = [start] →
    exec .regionList s = .next (State.judgeAlert { s with
      link := s.link.tookDirective [
        if s.control.state = .starting then .directiveDone d.tag .starting []
        else if ¬ (s.control.state = .running ∨ s.control.state = .degraded) then
          .directiveDone d.tag .halted []
        else if start ∈ [0#8, 4#8, 8#8, 12#8] then
          .directiveDone d.tag .done
            (leBytes 1 s.region.table.length
              ++ leBytes 1 (min 4 (s.region.table.length - start.toNat)) ++ [0x00#8, 0x00#8]
              ++ ((s.region.table.zipIdx.drop start.toNat).take 4).flatMap (fun x =>
                leBytes 1 x.2 ++ [if x.1.attr = .guarded then 0x01#8 else 0x02#8, 0x00#8, 0x00#8]
                  ++ leBytes 4 x.1.first ++ leBytes 4 x.1.last))
        else .directiveDone d.tag .badArgument []] })

/-- RELEASE in RUNNING, in its order: BAD_ARGUMENT above slot 31, NO_MATCH for a slot that is not STRANDED, DONE with
the page number when the page is already lost, the slot and its older slots FREE at once (R93), FULL with 32 lost
pages, and otherwise a LOST request with the engine held; the last is stated for a writer that is APPENDING with room
in its list and no retirement unrecorded (R94, R151). When the LOST record has persisted and the slot is still
STRANDED, the page joins the lost set, the slot and its older slots become FREE, and the answer is DONE with the page
number (R95). Slots become FREE where the slot is its page's newest and nothing waits for a bank. When the slot has left
STRANDED, the lost set stays, the next append carries an UNLOST request on behalf of no slot, and the answer is the same
(R95); that a slot opened again since, which its age tells, counts as one that left is the model's choice (log entry
43). -/
def Obligations.ReleaseJudgesTheSlotInOrder : Prop :=
  (∀ (s : State) (d : DirRequest) (arg : Byte), s.offersDirective d = true → s.control.state = .running →
    s.region.staging = .empty → d.code = 0x20#8 → d.payloadLength = 1 → d.payload = [arg] →
    let ends := fun result => State.judgeAlert { s with
      link := s.link.tookDirective [.directiveDone d.tag result []] }
    (31 < arg.toNat → exec .release s = .next (ends .badArgument))
    ∧ ∀ i : SlotId, i.val = arg.toNat →
      ((s.slot i).state ≠ .stranded → exec .release s = .next (ends .noMatch))
      ∧ (∀ older, (s.slot i).state = .stranded → (s.slot i).page ∈ s.remap.lost →
        s.slotList (s.slot i).page = older ++ [i] → i ∉ older → directoryLawful s.absorb.directory = true →
        (∀ b, (s.bank b).noneWaits = true) → s.sched.pendingMeta = none → s.control.drain = none →
        exec .release s = .next (State.judgeAlert { s with
          link := s.link.tookDirective [.directiveDone d.tag .done (leBytes 4 (s.slot i).page)],
          absorb := s.absorb.freed (s.slot i).page (older ++ [i]) }))
      ∧ ((s.slot i).state = .stranded → (s.slot i).page ∉ s.remap.lost → 32 ≤ s.remap.lost.length →
        exec .release s = .next (ends .full))
      ∧ ((s.slot i).state = .stranded → (s.slot i).page ∉ s.remap.lost → s.remap.lost.length < 32 →
        s.remap.unrecorded = [] → s.remap.held = [] → s.writer.state = .appending →
        s.writer.list.length < 8 →
        exec .release s = .next (State.judgeAlert { s with
          link := { s.link.tookDirective [] with tags := insertNat d.tag s.link.tags },
          engine := { s.engine with current := .release d.tag i (s.slot i).age (s.slot i).page },
          writer := { s.writer with
            list := s.writer.list ++ [{ kind := .lost (s.slot i).page, taken := 0, void := false }] } })))
  ∧ (∀ (s : State) (b : BankId) (q tag page age : Nat) (p : WriterProgram) (i : SlotId),
    s.endsAppend b q p = true → p.carried = [.last (.lost page) 0] →
    s.engine.current = .release tag i age page → ¬ ((s.slot i).state = .stranded ∧ (s.slot i).age = age) →
    s.remap.unrecorded = [] → (∀ k, (s.bank k).presence ≠ .absent) →
    ∃ t, exec (.programDone b.val q .ok) s = .next t ∧ t.absorb = s.absorb ∧ t.remap = s.remap
      ∧ t.engine.current = .absent
      ∧ t.link.responses = s.link.responses ++ [.directiveDone tag .done (leBytes 4 page)]
      ∧ t.writer.used = s.writer.used + p.records ∧ t.writer.list = []
      ∧ t.writer.program.map WriterProgram.carried = some [.last (.unlost none page) 0])
  ∧ ∀ (s : State) (b : BankId) (q tag page age : Nat) (p : WriterProgram) (i : SlotId) (older : List SlotId),
    s.endsAppend b q p = true → p.carried = [.last (.lost page) 0] →
    s.engine.current = .release tag i age page → (s.slot i).state = .stranded → (s.slot i).age = age →
    (s.slot i).page = page → s.slotList page = older ++ [i] → i ∉ older →
    directoryLawful s.absorb.directory = true →
    exec (.programDone b.val q .ok) s = .next (State.judgeAlert { s.appended b p with
      absorb := s.absorb.freed page (older ++ [i]),
      remap := { s.remap with lost := insertNat page s.remap.lost },
      engine := { s.engine with current := .absent },
      link := { s.link with
        tags := s.link.tags.filter (fun x => x != tag),
        responses := s.link.responses ++ [.directiveDone tag .done (leBytes 4 page)] } })

/-- REMAP_QUERY: STARTING or HALTED outside RUNNING and DEGRADED; BAD_ARGUMENT at or beyond the capacity;
otherwise DONE with the mapping, the lost mark, the bank's unclaimed free spares and the page's slots in list
order with their states, each by its code of R143. Nothing else changes, the staging included (R96, R143, R150). -/
def Obligations.RemapQueryReportsThePage : Prop :=
  [SlotState.free, .opened, .held, .filling, .queued, .programming, .suspended, .recording, .stranded].map
    SlotState.code = [0, 1, 2, 3, 4, 5, 6, 7, 8]
  ∧ ∀ (s : State) (d : DirRequest) (page : Nat) (b : BankId), s.offersDirective d = true →
    d.code = 0x21#8 → d.payloadLength = 4 →
    d.payload = leBytes 4 page → page < 2 ^ 32 → b.val = page % s.bankCount →
    exec .remapQuery s = .next (State.judgeAlert { s with
      link := s.link.tookDirective [
        if s.control.state = .starting then .directiveDone d.tag .starting []
        else if ¬ (s.control.state = .running ∨ s.control.state = .degraded) then
          .directiveDone d.tag .halted []
        else if page < s.capacityPages then
          .directiveDone d.tag .done
            ([(match mapSpare? s.remap.table page with | some k => BitVec.ofNat 8 k | none => 0xFF#8),
              if page ∈ s.remap.lost then 0x01#8 else 0x00#8,
              BitVec.ofNat 8 (s.remap.free[b.val].filter (fun e => e.claim.isNone)).length,
              BitVec.ofNat 8 (s.slotList page).length]
              ++ (s.slotList page).flatMap (fun i =>
                [BitVec.ofNat 8 i.val, BitVec.ofNat 8 (s.slot i).state.code]))
        else .directiveDone d.tag .badArgument []] })

/-- REFORMAT of a bridge FAULTED with METADATA_CORRUPT: STARTED, the bridge is STARTING with no fault reason,
every slot is FREE, the epoch list is as after a hard reset, the tables of the log are empty, every bank of the
array is sent BANK_RESET, and the geometry, lanes, profile, incidents and latched set are kept (R174). That the
banks are sent it in ascending order is the model's choice (log entry 28), and so is that a bank marked absent is among
them (R174 against R175, log entry 44). -/
def Obligations.ReformatEmptiesTheLogsTables : Prop :=
  ∀ (s : State) (d : DirRequest), s.offersDirective d = true → s.control.state = .faulted →
    s.control.faultReason = .metadataCorrupt → s.control.drain = none → s.region.staging = .empty →
    d.code = 0x31#8 → d.payloadLength = 0 → d.payload = [] → (∀ b, (s.bank b).monitor = .faulted) →
    ∃ t, exec .reformat s = .next t
      ∧ t.link = s.link.tookDirective [.directiveDone d.tag .started []]
      ∧ t.control = { s.control with
          state := .starting, faultReason := .none,
          startup := some { stage := .reformatReset, stopAsked := false } }
      ∧ (∀ i, (t.slot i).state = .free) ∧ t.absorb.opened = 0 ∧ t.absorb.directory = []
      ∧ t.tracker = State.reset.tracker
      ∧ t.remap.table = [] ∧ t.remap.lost = [] ∧ t.remap.unrecorded = [] ∧ t.region.table = []
      ∧ (∀ b : BankId, t.remap.retired[b.val] = [])
      ∧ (∀ b : BankId, b.val < s.bankCount →
          (t.bank b).monitor = .resetting ∧ (t.bank b).resetTimer = .running (s.now + 1000)
          ∧ (t.bank b).programQueue = [] ∧ (t.bank b).readQueue = [] ∧ (t.bank b).awaited = [.resetDone])
      ∧ t.arrayOut = s.arrayOut ++ (allBanks.filter (fun b => decide (b.val < s.bankCount))).map
          ArrayCommand.bankReset
      ∧ t.geometry = s.geometry ∧ t.engine = s.engine ∧ t.reads = s.reads ∧ t.writer = s.writer
      ∧ t.now = s.now ∧ t.hostOut = s.hostOut

/-- STATUS_FETCH in every bridge state: BAD_ARGUMENT for a mode other than 0 and 1; PEEK answers the status
record and changes nothing; TAKE answers it and empties the latched set (R158). In every state each live condition
holds exactly while the state of R157's table holds, at the bit R144 gives it, and ALERT is asserted exactly while
RESET_N is released and a condition of ALERT_MASK is latched or holds (R159). That a write waits for a slot is read
from the slots as they stand (log entry 22), and that the free spare lists are empty in the start-up of a RESTART is
read from R84 (log entry 20); both are DEDUCED. -/
def Obligations.StatusFetchPeeksOrTakes : Prop :=
  (∀ (s : State) (d : DirRequest) (mode : Byte), s.offersDirective d = true → d.code = 0x40#8 →
    d.payloadLength = 1 → d.payload = [mode] →
    exec .statusFetch s = .next (
      if mode = 0#8 then State.judgeAlert { s with
        link := s.link.tookDirective [.directiveDone d.tag .done (s.statusRecord s.liveSet)] }
      else if mode = 1#8 then State.judgeAlert { s with
        link := s.link.tookDirective [.directiveDone d.tag .done (s.statusRecord s.liveSet)],
        engine := { s.engine with latched := 0#32 } }
      else State.judgeAlert { s with
        link := s.link.tookDirective [.directiveDone d.tag .badArgument []] }))
  ∧ (∀ (s : State) (k : Nat), s.liveSet.getLsbD k = true ↔
      (k = 11 ∧ ∃ w, s.link.head = some w ∧ s.noneEligible (w.address / 256) = true
        ∧ ∀ i, (s.slot i).state ≠ .free)
      ∨ (k = 12 ∧ 8 ≤ s.tracker.epochs.length)
      ∨ (k = 13 ∧ ∃ b : BankId, b.val < s.bankCount
        ∧ (s.remap.free[b.val].filter (fun x => x.claim.isNone)).length < 4)
      ∨ (k = 14 ∧ ∃ i, (s.slot i).state = .stranded) ∨ (k = 15 ∧ s.remap.lost ≠ [])
      ∨ (k = 16 ∧ s.region.walker ≠ none)
      ∨ (k = 17 ∧ (s.control.previous.outcome = .unclean ∨ s.control.previous.outcome = .truncated)))
  ∧ ∀ s : State, s.alertLevel = true ↔ s.pins.resetAsserted = false
      ∧ ∃ k, s.engine.profile.alertMask.getLsbD k = true
        ∧ (s.engine.latched.getLsbD k = true ∨ s.liveSet.getLsbD k = true)

/-- The status record is 40 bytes and holds each field at the offsets of R146, with a bank's free spare count 0 at
or above B and before the lists have been derived (R146, R158); the codes of the bridge state, the fault reason and the
previous-session outcome are those of its table. Stated for field values within their ranges. -/
def Obligations.StatusRecordHoldsEachField : Prop :=
  [BridgeState.starting, .running, .degraded, .draining, .dormant, .faulted].map BridgeState.code = [0, 1, 2, 3, 4, 5]
  ∧ [FaultReason.none, .geometry, .metadataCorrupt, .arrayUnresponsive].map FaultReason.code = [0, 1, 2, 3]
  ∧ [PreviousOutcome.fresh, .clean, .truncated, .unclean].map PreviousOutcome.code = [0, 1, 2, 3]
  ∧ ∀ (s : State) (live : BitVec 32), s.tracker.epochs.length ≤ 8 → s.tracker.lastPersisted ≤ 65535 →
    s.tracker.fenceCounter ≤ 65535 → s.remap.lost.length ≤ 32 → s.region.table.length ≤ 16 →
    s.engine.incidents.length ≤ 16 → s.bankCount ≤ 8 → s.control.previous.lastPersisted ≤ 65535 →
    s.control.previous.stranded ≤ 32 → (∀ b : BankId, (s.remap.free[b.val]).length ≤ 64) →
    let field := fun offset width => leNat (((s.statusRecord live).drop offset).take width)
    (s.statusRecord live).length = 40
    ∧ field 0 1 = s.control.state.code ∧ field 1 1 = s.control.faultReason.code
    ∧ field 2 1 = s.control.previous.outcome.code ∧ field 3 1 = s.tracker.epochs.length
    ∧ field 4 4 = s.control.session.toNat ∧ field 8 2 = s.tracker.lastPersisted
    ∧ field 10 2 = s.tracker.fenceCounter
    ∧ field 12 1 = (allSlots.filter (fun i => (s.slot i).state == .free)).length
    ∧ field 13 1 = (allSlots.filter (fun i => (s.slot i).state == .stranded)).length
    ∧ field 14 1 = s.remap.lost.length ∧ field 15 1 = s.region.table.length
    ∧ field 16 1 = s.engine.incidents.length ∧ field 17 1 = s.bankCount
    ∧ field 18 2 = s.control.previous.lastPersisted
    ∧ (∀ b : BankId, field (20 + b.val) 1 = if b.val < s.bankCount ∧ s.remap.derived = true then
        (s.remap.free[b.val].filter (fun e => e.claim.isNone)).length else 0)
    ∧ field 28 4 = s.engine.latched.toNat ∧ field 32 4 = live.toNat
    ∧ field 36 1 = s.control.previous.stranded ∧ field 37 3 = 0

/-- INCIDENT_TAKE: answered STARTING in STARTING; in every other bridge state the oldest records of the incident
queue, at most 4, leave it and are answered DONE with their number, oldest first. Nothing else changes, the
latched set and the staging included (R161, R143, R150). -/
def Obligations.IncidentTakeRemovesTheOldestFour : Prop :=
  ∀ (s : State) (d : DirRequest), s.offersDirective d = true → d.code = 0x41#8 → d.payloadLength = 0 →
    d.payload = [] →
    exec .incidentTake s = .next (if s.control.state = .starting then State.judgeAlert { s with
      link := s.link.tookDirective [.directiveDone d.tag .starting []] }
    else State.judgeAlert { s with
      link := s.link.tookDirective [.directiveDone d.tag .done
        (leBytes 1 (min 4 s.engine.incidents.length) ++ [0x00#8, 0x00#8, 0x00#8]
          ++ (s.engine.incidents.take 4).flatMap Incident.bytes)],
      engine := { s.engine with incidents := s.engine.incidents.drop 4 } })

/-- An incident record is 20 bytes with each field at its offset and a bit of the present set for each field it
carries, the region index of a PROTECTED_WRITE in the place of a tag and a spare old in the place of a metadata page
(R147, R160). Whether the spare new of REMAPPED and the tag of PROTECTED_WRITE, which stand in the operation field,
set bits 5 and 3 is free (log entry 6). -/
def Obligations.IncidentRecordHoldsEachField : Prop :=
  ∀ i : Incident, i.tag = none ∨ i.region = none → i.metadataPage = none ∨ i.spareOld = none →
    (i.kind = .protectedWrite → i.tag = none) →
    i.page.getD 0 < 2 ^ 32 → i.index.getD 0 < 2 ^ 32 → i.fence < 65536 → i.operation.getD 0 < 65536 →
    i.bank.getD 0 < 8 → i.slot.getD 0 < 32 → i.tag.getD 0 < 64 → i.metadataPage.getD 0 < 128 →
    i.spareOld.getD 0 < 64 → i.region.getD 0 < 16 →
    let field := fun offset width => leNat ((i.bytes.drop offset).take width)
    let bit := fun (k : Nat) (x : Option Nat) => if x = none then 0 else 2 ^ k
    let carried := bit 0 i.page + bit 1 i.bank + bit 2 i.slot + bit 3 i.tag + bit 4 i.spareOld
      + bit 6 i.region + bit 7 i.metadataPage + bit 8 i.operation + bit 9 i.index
    i.bytes.length = 20
    ∧ field 0 1 = (match i.kind with
        | .remapped => 1 | .stranded => 2 | .fillUnreadable => 3 | .readFailed => 4 | .protectedWrite => 5
        | .tagClash => 6 | .bankTimeout => 7 | .metadataFault => 8 | .lossyEpoch => 9)
    ∧ (field 1 2 = carried ∨ (i.kind = .remapped ∧ field 1 2 = carried + 2 ^ 5)
        ∨ (i.kind = .protectedWrite ∧ field 1 2 = carried + 2 ^ 3))
    ∧ field 3 1 = 0 ∧ field 4 4 = i.page.getD 0 ∧ field 8 4 = i.index.getD 0 ∧ field 12 2 = i.fence
    ∧ field 14 2 = i.operation.getD 0 ∧ field 16 1 = i.bank.getD 0 ∧ field 17 1 = i.slot.getD 0
    ∧ field 18 1 = i.tag.getD (i.region.getD 0) ∧ field 19 1 = i.spareOld.getD (i.metadataPage.getD 0)

/-- PROFILE in RUNNING or DEGRADED with EMPTY staging: PROBE answers, for each group, the value an APPLY would put in
effect and changes nothing (R153; with another group invalid the value requested, where an example says otherwise: the
model's choice, log entry 42); APPLY puts every group not marked KEEP in effect together, or with any group invalid none
(R154). Groups 2 to 5 are invalid outside their values when not marked KEEP (R145, R152). An APPLY that leaves the FREE
count below LOW_WATER closes every OPEN slot, oldest last-merge time first and of two alike the one of smaller age (R17,
R155): stated of two slots of one bank that is reading, whose fill jobs join its read queue in that order (R19, R22). -/
def Obligations.ProfileProbesAndApplies : Prop :=
  ∀ (s : State) (d : DirRequest) (mode v₁ v₂ v₃ v₄ v₅ z m₀ m₁ m₂ m₃ : Byte) (keep : BitVec 8),
    s.offersDirective d = true → s.control.state = .running ∨ s.control.state = .degraded →
    s.region.staging = .empty → d.code = 0x42#8 → d.payloadLength = 12 →
    d.payload = [mode, keep, v₁, v₂, v₃, v₄, v₅, z, m₀, m₁, m₂, m₃] →
    let bad₂ := !keep.getLsbD 1 && decide (16 < v₂.toNat)
    let bad₃ := !keep.getLsbD 2 && decide (7 < v₃.toNat)
    let bad₄ := !keep.getLsbD 3 && decide (3 < v₄.toNat)
    let bad₅ := !keep.getLsbD 4 && decide (v₅.toNat < 8)
    let bad := bad₂ || bad₃ || bad₄ || bad₅
    let invalid : Byte := 0#3 ++ BitVec.ofBool bad₅ ++ BitVec.ofBool bad₄ ++ BitVec.ofBool bad₃
      ++ BitVec.ofBool bad₂ ++ 0#1
    let now := s.engine.profile
    let asked : Profile := {
      closeAge := if keep.getLsbD 0 then now.closeAge else v₁.toNat,
      lowWater := if keep.getLsbD 1 then now.lowWater else v₂.toNat,
      suspendBudget := if keep.getLsbD 2 then now.suspendBudget else v₃.toNat,
      retryLimit := if keep.getLsbD 3 then now.retryLimit else v₄.toNat,
      drainBudget := if keep.getLsbD 4 then now.drainBudget else v₅.toNat,
      alertMask := if keep.getLsbD 5 then now.alertMask else (m₃ ++ m₂ ++ m₁ ++ m₀) &&& 0x3FFFF#32 }
    let reply := fun (p : Profile) =>
      [mode, invalid, BitVec.ofNat 8 p.closeAge, if bad₂ then 0#8 else BitVec.ofNat 8 p.lowWater,
        if bad₃ then 0#8 else BitVec.ofNat 8 p.suspendBudget, if bad₄ then 0#8 else BitVec.ofNat 8 p.retryLimit,
        if bad₅ then 0#8 else BitVec.ofNat 8 p.drainBudget, 0#8] ++ leBytes 4 p.alertMask.toNat
    let result := if bad then Result.badArgument else Result.done
    (mode = 0#8 → exec .profile s = .next (State.judgeAlert { s with
      link := s.link.tookDirective [.directiveDone d.tag result (reply asked)] }))
    ∧ (mode = 1#8 → bad = true → exec .profile s = .next (State.judgeAlert { s with
      link := s.link.tookDirective [.directiveDone d.tag result (reply now)] }))
    ∧ (mode = 1#8 → bad = false → asked.lowWater ≤ s.freeCount →
      exec .profile s = .next (State.judgeAlert { s with
        link := s.link.tookDirective [.directiveDone d.tag result (reply asked)],
        engine := { s.engine with profile := asked } }))
    ∧ (∀ (i j : SlotId) (c : BankId) (g : Geometry), mode = 1#8 → bad = false → s.freeCount < asked.lowWater →
      (∀ k, (s.slot k).state = .opened ↔ k = i ∨ k = j) →
      ((s.slot i).lastMerge < (s.slot j).lastMerge
        ∨ (s.slot i).lastMerge = (s.slot j).lastMerge ∧ (s.slot i).age < (s.slot j).age) →
      (∀ k ∈ [i, j], (s.slot k).image.full = false ∧ s.slotList (s.slot k).page = [k]
        ∧ (s.slot k).page ∉ s.remap.lost ∧ (s.slot k).page % g.banks = c.val) →
      s.geometry = some g → (s.bank c).monitor = .reading →
      let closed := fun k => { s.slot k with state := .filling, closeTimer := .stopped }
      let job := fun (k : SlotId) =>
        { index := (match mapSpare? s.remap.table (s.slot k).page with
            | some spare => g.pages - g.spares - 128 / g.banks + spare
            | none => (s.slot k).page / g.banks),
          owner := .fill k, retried := false }
      exec .profile s = .next (State.judgeAlert
        { ((s.setSlot i (closed i)).setSlot j (closed j)).setBank c
            { s.bank c with readQueue := (s.bank c).readQueue ++ [job i, job j] } with
          link := s.link.tookDirective [.directiveDone d.tag result (reply asked)],
          engine := { s.engine with profile := asked } }))
    ∧ (mode ≠ 0#8 → mode ≠ 1#8 → exec .profile s = .next (State.judgeAlert { s with
      link := s.link.tookDirective [.directiveDone d.tag .badArgument []] }))

/-- SCRUB_VISIT: a page inside a region is skipped; a page whose merge-eligible slot is HELD, FILLING or QUEUED is
zeroed there; an OPEN one is zeroed, becomes full and closes (R16); the visit to the last page completes the scrub
with its RANGE_DONE notice; a page that needs a slot waits while the FREE count does not exceed LOW_WATER, and above
it opens the lowest-numbered FREE slot with the full written set and origin SCRUB, counted in the current epoch (R12,
R13, R125, R126, R128). A slot that closes or opens full is HELD while an older slot of the page is not STRANDED, and
QUEUED otherwise: it waits if its epoch is not the head, and joins its bank's program queue if it is (R20, R25, R37;
stated for a bank that is not IDLE). A slot is opened where no write waits at the lane head. -/
def Obligations.ScrubVisitsOnePage : Prop :=
  ∀ (s : State) (w : Walker), s.ready = true → s.control.state = .running → s.region.walker = some w →
    let visited := fun (t : State) (zeroed skipped : Nat) =>
      if w.next = w.last then State.judgeAlert { t with
        region := { t.region with walker := none },
        link := { t.link with responses := t.link.responses ++ [.rangeDone false zeroed skipped] } }
      else State.judgeAlert { t with
        region := { t.region with
          walker := some { w with next := w.next + 1, zeroed := zeroed, skipped := skipped } } }
    let ends := fun (i : SlotId) (older : List SlotId) (as : SlotState → State) =>
      ((∃ j ∈ older, (s.slot j).state ≠ .stranded) →
        exec .scrubVisit s = .next (visited (as .held) (w.zeroed + 1) w.skipped))
      ∧ ((∀ j ∈ older, (s.slot j).state = .stranded) → s.headFence? ≠ some (nextFence s.tracker.fenceCounter) →
        exec .scrubVisit s = .next (visited (as .queued) (w.zeroed + 1) w.skipped))
      ∧ (∀ (b : BankId) (g : Geometry), (∀ j ∈ older, (s.slot j).state = .stranded) →
        s.headFence? = some (nextFence s.tracker.fenceCounter) → s.geometry = some g →
        b.val = w.next % g.banks → (s.bank b).monitor ≠ .idle →
        exec .scrubVisit s = .next (visited
          ((as .queued).setBank b { s.bank b with programQueue := (s.bank b).programQueue ++ [i] })
          (w.zeroed + 1) w.skipped))
    (s.unprotected w.next = false → exec .scrubVisit s = .next (visited s w.zeroed (w.skipped + 1)))
    ∧ (∀ i, s.unprotected w.next = true → s.soleEligible w.next i = true → (s.slot i).state ≠ .opened →
      exec .scrubVisit s = .next (visited
        (s.setSlot i { s.slot i with
          image := (s.slot i).image.merge 0 (List.replicate 256 0x00#8), lastMerge := s.now })
        (w.zeroed + 1) w.skipped))
    ∧ (∀ (i : SlotId) (older newer : List SlotId), s.unprotected w.next = true →
      s.soleEligible w.next i = true → (s.slot i).state = .opened → (s.slot i).page = w.next →
      s.slotList w.next = older ++ i :: newer → i ∉ older →
      let zeroed := fun (state : SlotState) => s.setSlot i { s.slot i with
        image := (s.slot i).image.merge 0 (List.replicate 256 0x00#8), lastMerge := s.now,
        closeTimer := .stopped, state := state }
      ends i older zeroed)
    ∧ (∀ i : SlotId, s.unprotected w.next = true → s.noneEligible w.next = true →
      s.engine.profile.lowWater < s.freeCount → s.link.head = none → (s.slot i).state = .free →
      (∀ j, j < i → (s.slot j).state ≠ .free) → directoryLawful s.absorb.directory = true →
      i ∉ s.slotList w.next →
      let granted := fun (state : SlotState) => { s with
        absorb := {
          slots := s.absorb.slots.set i.val {
            state := state, page := w.next, epoch := nextFence s.tracker.fenceCounter,
            image := Image.blank.merge 0 (List.replicate 256 0x00#8), age := s.absorb.opened + 1,
            lastMerge := s.now, closeTimer := .stopped, attempts := 0, suspends := 0, target := none,
            origin := .scrub },
          opened := s.absorb.opened + 1,
          directory := changeEntry w.next (fun e => { e with slots := e.slots ++ [i] })
            s.absorb.directory },
        tracker := { s.tracker with
          epochs := s.tracker.epochs.map (fun e =>
            if e.fence = nextFence s.tracker.fenceCounter then { e with outstanding := e.outstanding + 1 }
            else e) } }
      ends i (s.slotList w.next) granted)
    ∧ (s.unprotected w.next = true → s.noneEligible w.next = true →
      s.freeCount ≤ s.engine.profile.lowWater → exec .scrubVisit s = .next s.judgeAlert)

/-! ## What every command and every step keeps -/

/-- Every step keeps Bridge Control's record in agreement with the bridge state, leaves nothing due, and leaves
ALERT as R159 gives (R159, R162, R164, R171). -/
def Obligations.EveryStepKeepsBridgeControlSound : Prop :=
  ∀ s t : State, s.sound = true → step s = .next t → t.sound = true

/-- Every step keeps the law of the epoch list: 1 to 8 entries of consecutive fence numbers, the newest alone
OPEN, with the number that follows the fence counter (R28, R29, R32, R33, R39). -/
def Obligations.EveryStepKeepsTheEpochListLawful : Prop :=
  ∀ s t : State, s.tracker.lawful = true → step s = .next t → t.tracker.lawful = true

/-- Every step keeps the lanes and the incident queue within their sizes, the latched set free of live
conditions, and the page directory in order without an empty entry (R5, R6, R130, R144, R160). -/
def Obligations.EveryStepKeepsTheBounds : Prop :=
  ∀ s t : State, s.bounded = true → step s = .next t → t.bounded = true

/-- No command reaches the queue of commands that wait, and only the commands of the two input lines change
RESET_N's and POWER_WARN's levels (R181; the queue is the model's own, log entry 7). -/
def Obligations.CommandsLeaveTheQueueAndTheLines : Prop :=
  ∀ (c : Instr) (s t : State), exec c s = .next t → t.pending = s.pending
    ∧ (c.drivesLine = false → t.pins.resetAsserted = s.pins.resetAsserted
      ∧ t.pins.powerWarn = s.pins.powerWarn)

end
end

