-- ==== Sys2Proof/Laws/Outline.lean ====
section
/-!
SUPPORT. What the blocks below Bridge Control leave alone: the lines, the clock, the geometry, what has been
sent to the host, the queue of commands, and the standing of Bridge Control's record. One lemma for each
shared operation.
-/

namespace Sys2Proof.Machine

/-- What no operation below Bridge Control changes. -/
def State.outline (s : State) :
    Pins × List Instr × List (List Byte) × Nat × Option Geometry × BridgeState × FaultReason
      × BitVec 32 × PreviousFacts × Timer × Bool × Bool :=
  (s.pins, s.pending, s.hostOut, s.now, s.geometry, s.control.state, s.control.faultReason,
   s.control.session, s.control.previous, s.control.identifyTimer, s.control.drain.isSome,
   s.control.startup.isSome)

section
variable (s : State)

@[simp] theorem outline_link (x : HostLink) : ({ s with link := x } : State).outline = s.outline := rfl
@[simp] theorem outline_absorb (x : AbsorbBuffer) : ({ s with absorb := x } : State).outline = s.outline := rfl
@[simp] theorem outline_tracker (x : EpochTracker) : ({ s with tracker := x } : State).outline = s.outline := rfl
@[simp] theorem outline_sched (x : Scheduler) : ({ s with sched := x } : State).outline = s.outline := rfl
@[simp] theorem outline_reads (x : List ReadRecord) : ({ s with reads := x } : State).outline = s.outline := rfl
@[simp] theorem outline_remap (x : RemapUnit) : ({ s with remap := x } : State).outline = s.outline := rfl
@[simp] theorem outline_writer (x : Writer) : ({ s with writer := x } : State).outline = s.outline := rfl
@[simp] theorem outline_region (x : RegionUnit) : ({ s with region := x } : State).outline = s.outline := rfl
@[simp] theorem outline_engine (x : DirectiveEngine) : ({ s with engine := x } : State).outline = s.outline := rfl
@[simp] theorem outline_arrayOut (x : List ArrayCommand) :
    ({ s with arrayOut := x } : State).outline = s.outline := rfl
@[simp] theorem outline_remap_writer (x : RemapUnit) (y : Writer) :
    ({ s with remap := x, writer := y } : State).outline = s.outline := rfl
@[simp] theorem outline_drain (f : Drain → Drain) :
    ({ s with control := { s.control with drain := s.control.drain.map f } } : State).outline = s.outline := by
  simp [State.outline]

end

/-- A fold of operations that leave the outline alone leaves it alone. -/
theorem foldl_outline {α : Type} (f : State → α → State) (h : ∀ s a, (f s a).outline = s.outline)
    (xs : List α) (s : State) : (xs.foldl f s).outline = s.outline := by
  induction xs generalizing s with
  | nil => rfl
  | cons a xs ih => rw [List.foldl_cons, ih, h]

section
variable (s : State)

/-! ## Ops -/

@[simp] theorem setSlot_outline (i x) : (s.setSlot i x).outline = s.outline := rfl
@[simp] theorem changeDir_outline (p f) : (s.changeDir p f).outline = s.outline := rfl
@[simp] theorem setBank_outline (b x) : (s.setBank b x).outline = s.outline := rfl
@[simp] theorem setPendingMeta_outline (p) : (s.setPendingMeta p).outline = s.outline := rfl
@[simp] theorem latch_outline (c) : (s.latch c).outline = s.outline := rfl
@[simp] theorem raise_outline (i) : (s.raise i).outline = s.outline := by
  unfold State.raise; split <;> simp
@[simp] theorem push_outline (p) : (s.push p).outline = s.outline := rfl
@[simp] theorem respond_outline (t p) : (s.respond t p).outline = s.outline := rfl
@[simp] theorem emit_outline (c) : (s.emit c).outline = s.outline := rfl
@[simp] theorem returnCredit_outline (l) : (s.returnCredit l).outline = s.outline := by cases l <;> rfl
@[simp] theorem fullGrants_outline : s.fullGrants.outline = s.outline := rfl
theorem examineTag_outline (l t) (f : State → State) (h : ∀ u, (f u).outline = u.outline) :
    (s.examineTag l t f).outline = s.outline := by
  unfold State.examineTag; split <;> simp [h]

/-! ## The Bank Scheduler -/

@[simp] theorem countProgram_outline : s.countProgram.outline = s.outline := by
  simp [State.countProgram]
@[simp] theorem sendRead_outline (b j) : (s.sendRead b j).outline = s.outline := rfl
@[simp] theorem sendProgram_outline (b p i d) : (s.sendProgram b p i d).outline = s.outline := by
  simp [State.sendProgram]
@[simp] theorem sendReset_outline (b) : (s.sendReset b).outline = s.outline := rfl
@[simp] theorem suspendDecision_outline (b) : (s.suspendDecision b).outline = s.outline := by
  unfold State.suspendDecision; split <;> simp
@[simp] theorem startProgram_outline (i) : (s.startProgram i).outline = s.outline := rfl
@[simp] theorem dispatchSlot_outline (b i) : (s.dispatchSlot b i).outline = s.outline := by
  simp [State.dispatchSlot]
@[simp] theorem dispatchMeta_outline (b p) : (s.dispatchMeta b p).outline = s.outline := by
  simp [State.dispatchMeta]
@[simp] theorem issueRead_outline (b) : (s.issueRead b).outline = s.outline := by
  unfold State.issueRead; split <;> simp
@[simp] theorem arbitrate_outline (b) : (s.arbitrate b).outline = s.outline := by
  unfold State.arbitrate; repeat' split
  all_goals simp
@[simp] theorem arbitrateAll_outline : s.arbitrateAll.outline = s.outline :=
  foldl_outline _ arbitrate_outline _ _
@[simp] theorem joinRead_outline (b j) : (s.joinRead b j).outline = s.outline := by
  unfold State.joinRead; split <;> simp
@[simp] theorem joinProgram_outline (i) : (s.joinProgram i).outline = s.outline := by
  simp [State.joinProgram]
@[simp] theorem pushFront_outline (b i) : (s.pushFront b i).outline = s.outline := rfl
@[simp] theorem enterIdle_outline (b) : (s.enterIdle b).outline = s.outline := by
  simp [State.enterIdle]
@[simp] theorem resume_outline (b) : (s.resume b).outline = s.outline := by
  unfold State.resume; split <;> simp
@[simp] theorem serveSuspended_outline (b) : (s.serveSuspended b).outline = s.outline := by
  unfold State.serveSuspended; split <;> simp
@[simp] theorem afterRead_outline (b) : (s.afterRead b).outline = s.outline := by
  unfold State.afterRead; repeat' split
  all_goals simp
@[simp] theorem requeueRead_outline (b j) : (s.requeueRead b j).outline = s.outline := rfl
@[simp] theorem leaveProgram_outline (b) : (s.leaveProgram b).outline = s.outline := by
  unfold State.leaveProgram; repeat' split
  all_goals simp

/-! ## The Epoch Tracker -/

@[simp] theorem admitHead_outline : s.admitHead.outline = s.outline := by
  unfold State.admitHead; split
  · exact foldl_outline _ joinProgram_outline _ _
  · rfl
@[simp] theorem notePersisted_outline (e) : (s.notePersisted e).outline = s.outline := by
  unfold State.notePersisted; split <;> simp
@[simp] theorem noteLossy_outline (e) : (s.noteLossy e).outline = s.outline := by
  unfold State.noteLossy; split <;> simp
@[simp] theorem removeHead_outline (e r) : (s.removeHead e r).outline = s.outline := by
  simp [State.removeHead]
@[simp] theorem removeDrained_outline (es) (s : State) : (removeDrained es s).outline = s.outline := by
  induction es generalizing s with
  | nil => rfl
  | cons e es ih => unfold removeDrained; split <;> simp [ih]
@[simp] theorem judgeRemoval_outline : s.judgeRemoval.outline = s.outline := by
  unfold State.judgeRemoval; repeat' split
  all_goals simp
@[simp] theorem epochUp_outline (f) : (s.epochUp f).outline = s.outline := rfl
@[simp] theorem epochDown_outline (f l) : (s.epochDown f l).outline = s.outline := by
  simp [State.epochDown]

/-! ## The Absorb Buffer -/

@[simp] theorem enterQueued_outline (i) : (s.enterQueued i).outline = s.outline := by
  unfold State.enterQueued; dsimp only; split <;> simp
@[simp] theorem requestFill_outline (i) : (s.requestFill i).outline = s.outline := by
  simp [State.requestFill]
@[simp] theorem closureDecision_outline (i) : (s.closureDecision i).outline = s.outline := by
  unfold State.closureDecision; repeat' split
  all_goals simp
@[simp] theorem closeSlot_outline (i) : (s.closeSlot i).outline = s.outline := by
  simp [State.closeSlot]
@[simp] theorem closeInAgeOrder_outline (l) : (s.closeInAgeOrder l).outline = s.outline :=
  foldl_outline _ closeSlot_outline _ _
@[simp] theorem lowWaterClosure_outline : s.lowWaterClosure.outline = s.outline := by
  unfold State.lowWaterClosure; split
  · exact foldl_outline _ closeSlot_outline _ _
  · rfl
@[simp] theorem reexamineSlot_outline (i) : (s.reexamineSlot i).outline = s.outline := by
  unfold State.reexamineSlot; split <;> simp
@[simp] theorem reexamine_outline (p) : (s.reexamine p).outline = s.outline :=
  foldl_outline _ reexamineSlot_outline _ _
@[simp] theorem mergeInto_outline (i o d) : (s.mergeInto i o d).outline = s.outline := by
  unfold State.mergeInto; dsimp only; repeat' split
  all_goals simp
@[simp] theorem placeSlot_outline (i x) : (s.placeSlot i x).outline = s.outline := by
  simp [State.placeSlot]
@[simp] theorem openSlot_outline (i p o d k) : (s.openSlot i p o d k).outline = s.outline := by
  unfold State.openSlot; dsimp only; split <;> simp
@[simp] theorem absorbWrite_outline (p o d k) : (s.absorbWrite p o d k).outline = s.outline := by
  unfold State.absorbWrite; repeat' split
  all_goals simp
@[simp] theorem freeSlot_outline (i) : (s.freeSlot i).outline = s.outline := by
  unfold State.freeSlot
  simp only [arbitrate_outline, reexamine_outline, changeDir_outline]
  exact foldl_outline _ (fun t j => setSlot_outline t j _) _ _
@[simp] theorem freeReported_outline (i) : (s.freeReported i).outline = s.outline := by
  simp [State.freeReported]
theorem takeFence_outline (n) (f : Nat → State → State) (h : ∀ k u, (f k u).outline = u.outline) :
    (s.takeFence n f).outline = s.outline := by
  simp [State.takeFence, h]

/-! ## The Remap Unit -/

@[simp] theorem answerDirective_outline (t r p) : (s.answerDirective t r p).outline = s.outline := rfl
@[simp] theorem setFreeSpares_outline (b x) : (s.setFreeSpares b x).outline = s.outline := rfl
@[simp] theorem addRetired_outline (b k) : (s.addRetired b k).outline = s.outline := rfl
@[simp] theorem dropFreeSpare_outline (b k) : (s.dropFreeSpare b k).outline = s.outline := rfl
@[simp] theorem setClaim_outline (b k c) : (s.setClaim b k c).outline = s.outline := rfl
@[simp] theorem strandSlot_outline (i o) : (s.strandSlot i o).outline = s.outline := by
  simp [State.strandSlot]
@[simp] theorem retireFailed_outline (b i) : (s.retireFailed b i).outline = s.outline := by
  unfold State.retireFailed; repeat' split
  all_goals simp
@[simp] theorem handoff_outline (b i) : (s.handoff b i).outline = s.outline := by
  unfold State.handoff; dsimp only; repeat' split
  all_goals simp
@[simp] theorem withdrawUnlost_outline (i) : (s.withdrawUnlost i).outline = s.outline := rfl
@[simp] theorem leaveLost_outline (p) : (s.leaveLost p).outline = s.outline := rfl
@[simp] theorem freeRecorded_outline (i p) : (s.freeRecorded i p).outline = s.outline := by
  unfold State.freeRecorded; split <;> simp
@[simp] theorem mapNotPersisted_outline (r i b k) : (s.mapNotPersisted r i b k).outline = s.outline := by
  unfold State.mapNotPersisted; dsimp only; split <;> simp
@[simp] theorem directiveFailed_outline : s.directiveFailed.outline = s.outline := by
  unfold State.directiveFailed; split <;> simp
@[simp] theorem noteOpenSession_outline (p) : (s.noteOpenSession p).outline = s.outline := by
  unfold State.noteOpenSession; repeat' split
  all_goals simp_all [State.outline]
@[simp] theorem noteShutdown_outline : s.noteShutdown.outline = s.outline := by
  simp [State.noteShutdown]
@[simp] theorem requestNotPersisted_outline (f r) : (s.requestNotPersisted f r).outline = s.outline := by
  unfold State.requestNotPersisted; repeat' split
  all_goals simp
@[simp] theorem joinRequest_outline (r) : (s.joinRequest r).outline = s.outline := by
  unfold State.joinRequest; split <;> simp
@[simp] theorem handRequest_outline (r) : (s.handRequest r).outline = s.outline := by
  unfold State.handRequest; split <;> simp
@[simp] theorem handRetirement_outline : s.handRetirement.outline = s.outline := by
  simp [State.handRetirement]
@[simp] theorem handRetirements_outline (n) (s : State) : (State.handRetirements n s).outline = s.outline := by
  induction n generalizing s with
  | zero => rfl
  | succ n ih => unfold State.handRetirements; split <;> simp [ih]
@[simp] theorem handOwn_outline (k) : (s.handOwn k).outline = s.outline := by
  unfold State.handOwn; split <;> simp
@[simp] theorem handHeld_outline (r) : (s.handHeld r).outline = s.outline := by
  unfold State.handHeld; split <;> simp
@[simp] theorem recordOne_outline (i k) : (State.recordOne i s k).outline = s.outline := by
  unfold State.recordOne; repeat' split
  all_goals simp
@[simp] theorem programmedOk_outline (i) : (s.programmedOk i).outline = s.outline := by
  unfold State.programmedOk; split
  · simp
  · rw [foldl_outline _ (fun t k => recordOne_outline t i k)]; simp
@[simp] theorem applyMap_outline (p b k o) : (s.applyMap p b k o).outline = s.outline := by
  unfold State.applyMap; dsimp only; split <;> simp
@[simp] theorem mapPersisted_outline (i p b k o) : (s.mapPersisted i p b k o).outline = s.outline := by
  unfold State.mapPersisted; dsimp only; repeat' split
  all_goals simp
@[simp] theorem lostPersisted_outline : s.lostPersisted.outline = s.outline := by
  unfold State.lostPersisted; repeat' split
  all_goals simp
@[simp] theorem regionPersisted_outline (c) : (s.regionPersisted c).outline = s.outline := by
  unfold State.regionPersisted; split <;> simp
@[simp] theorem requestPersisted_outline (r) : (s.requestPersisted r).outline = s.outline := by
  unfold State.requestPersisted; repeat' split
  all_goals simp
@[simp] theorem answerRequests_outline (f v rs) (s : State) :
    (answerRequests f v rs s).outline = s.outline := by
  induction rs generalizing v s with
  | nil => rfl
  | cons r rs ih => unfold answerRequests; simp [ih]

/-! ## The Metadata Writer -/

@[simp] theorem forbidRecord_outline : s.forbidRecord.outline = s.outline := by
  simp [State.forbidRecord]
@[simp] theorem stopWriter_outline : s.stopWriter.outline = s.outline := by
  simp [State.stopWriter]
@[simp] theorem giveUp_outline (p) : (s.giveUp p).outline = s.outline := by
  simp [State.giveUp]
@[simp] theorem handProgram_outline : s.handProgram.outline = s.outline := by
  unfold State.handProgram; repeat' split
  all_goals simp
@[simp] theorem handImage_outline (p i) : (s.handImage p i).outline = s.outline := by
  simp [State.handImage]
@[simp] theorem dropProgram_outline (r) : (s.dropProgram r).outline = s.outline := by
  simp [State.dropProgram]
@[simp] theorem listShutdown_outline (r) : (s.listShutdown r).outline = s.outline := by
  simp [State.listShutdown]

/-- A drain whose end point has come is the drain in progress. -/
theorem endingDrain?_some {d : Drain} (h : s.endingDrain? = some d) : s.control.drain = some d :=
  (Option.filter_eq_some_iff.mp h).1

theorem markHanded_outline {d e : Drain} (h : s.control.drain = some e) : (s.markHanded d).outline = s.outline := by
  simp [State.outline, State.markHanded, h]
@[simp] theorem judgeEndListing_outline : s.judgeEndListing.outline = s.outline := by
  unfold State.judgeEndListing; split
  · next h => rw [listShutdown_outline, markHanded_outline s (endingDrain?_some s h)]
  · rfl
@[simp] theorem takeAppend_outline : s.takeAppend.outline = s.outline := by
  unfold State.takeAppend; dsimp only; split <;> simp
@[simp] theorem startAppend_outline : s.startAppend.outline = s.outline := by
  unfold State.startAppend; dsimp only; split <;> simp
@[simp] theorem kick_outline : s.kick.outline = s.outline := by
  unfold State.kick; split <;> simp
@[simp] theorem handShutdown_outline (r) : (s.handShutdown r).outline = s.outline := by
  unfold State.handShutdown; dsimp only; split <;> simp
@[simp] theorem judgeEnd_outline : s.judgeEnd.outline = s.outline := by
  unfold State.judgeEnd; split
  · next h => rw [handShutdown_outline, markHanded_outline s (endingDrain?_some s h)]
  · rfl
@[simp] theorem beginCompaction_outline (n o) : (s.beginCompaction n o).outline = s.outline := by
  simp [State.beginCompaction]
@[simp] theorem answerOpenSession_outline : s.answerOpenSession.outline = s.outline := by
  unfold State.answerOpenSession; split <;> simp
@[simp] theorem compactionDone_outline (c) : (s.compactionDone c).outline = s.outline := by
  unfold State.compactionDone; dsimp only; split <;> simp
@[simp] theorem compactionOk_outline : s.compactionOk.outline = s.outline := by
  unfold State.compactionOk; repeat' split
  all_goals simp
@[simp] theorem abandonCompaction_outline : s.abandonCompaction.outline = s.outline := by
  unfold State.abandonCompaction; dsimp only; repeat' split
  all_goals simp
@[simp] theorem beginFormat_outline (a) : (s.beginFormat a).outline = s.outline := by
  simp [State.beginFormat]
@[simp] theorem formatOk_outline (p) : (s.formatOk p).outline = s.outline := by
  unfold State.formatOk; split <;> simp
@[simp] theorem answerCarried_outline (cs) (s : State) : (answerCarried cs s).outline = s.outline := by
  induction cs generalizing s with
  | nil => rfl
  | cons c cs ih => unfold answerCarried; dsimp only; rw [ih]; split <;> simp
@[simp] theorem appendOk_outline (p) : (s.appendOk p).outline = s.outline := by
  unfold State.appendOk; dsimp only; split <;> simp
@[simp] theorem metaOk_outline (p) : (s.metaOk p).outline = s.outline := by
  unfold State.metaOk; split <;> simp
@[simp] theorem metaFailed_outline (p) : (s.metaFailed p).outline = s.outline := by
  unfold State.metaFailed; repeat' split
  all_goals simp
@[simp] theorem writerOutcome_outline (o) : (s.writerOutcome o).outline = s.outline := by
  unfold State.writerOutcome; dsimp only; repeat' split
  all_goals simp

/-! ## The end of a drain -/

@[simp] theorem answerWaiting_outline (f l) : (s.answerWaiting f l).outline = s.outline := by
  rw [State.answerWaiting, answerRequests_outline]; rfl
@[simp] theorem answerHolder_outline : s.answerHolder.outline = s.outline := by
  rw [State.answerHolder, answerRequests_outline]; rfl

/-! ## The Read Path -/

@[simp] theorem pin_outline (p) : (s.pin p).outline = s.outline := rfl
@[simp] theorem unpin_outline (p) : (s.unpin p).outline = s.outline := by simp [State.unpin]
@[simp] theorem dropRecord_outline (r) : (s.dropRecord r).outline = s.outline := by
  simp [State.dropRecord]
@[simp] theorem answerRead_outline (t r) : (s.answerRead t r).outline = s.outline := rfl
@[simp] theorem makeRecord_outline (t p f l d) : (s.makeRecord t p f l d).outline = s.outline := by
  simp [State.makeRecord]
@[simp] theorem bindRead_outline (r) : (s.bindRead r).outline = s.outline := by
  unfold State.bindRead; dsimp only; repeat' split
  all_goals simp
@[simp] theorem judgeRead_outline (r) : (s.judgeRead r).outline = s.outline := by
  unfold State.judgeRead; repeat' split
  all_goals simp
@[simp] theorem readComplete_outline (t p) : (s.readComplete t p).outline = s.outline := by
  unfold State.readComplete; split <;> simp
@[simp] theorem readFailed_outline (t o) : (s.readFailed t o).outline = s.outline := by
  unfold State.readFailed; dsimp only; repeat' split
  all_goals simp
@[simp] theorem endRecords_outline (r) : (s.endRecords r).outline = s.outline :=
  foldl_outline _ (by intro t x; simp) _ _
@[simp] theorem fillComplete_outline (i p) : (s.fillComplete i p).outline = s.outline := by
  unfold State.fillComplete; split <;> simp
@[simp] theorem fillFailed_outline (i) : (s.fillFailed i).outline = s.outline := by
  unfold State.fillFailed; split <;> simp

/-! ## Leaving RUNNING -/

@[simp] theorem discardStaging_outline : s.discardStaging.outline = s.outline := by
  unfold State.discardStaging; split <;> simp
@[simp] theorem abandonScrub_outline : s.abandonScrub.outline = s.outline := by
  unfold State.abandonScrub; split <;> simp
@[simp] theorem answerHead_outline (w r) : (s.answerHead w r).outline = s.outline := rfl
@[simp] theorem haltHead_outline : s.haltHead.outline = s.outline := by
  unfold State.haltHead; split <;> simp
@[simp] theorem leaveRunning_outline : s.leaveRunning.outline = s.outline := by
  simp [State.leaveRunning]

end

end Sys2Proof.Machine
end

