-- ==== Sys2Proof/Laws/State.lean ====
section
/-!
SUPPORT. The plain updates of the state, field by field: what each changes and what it leaves alone.
-/

namespace Sys2Proof.Machine

section
variable (s : State)

/-! ## Slots, the directory and the epoch list -/

@[simp] theorem State.setSlot_link (i : SlotId) (x : Slot) : (s.setSlot i x).link = s.link := rfl
@[simp] theorem State.setSlot_absorb (i : SlotId) (x : Slot) :
    (s.setSlot i x).absorb = { s.absorb with slots := s.absorb.slots.set i.val x } := rfl
@[simp] theorem State.setSlot_tracker (i : SlotId) (x : Slot) : (s.setSlot i x).tracker = s.tracker := rfl
@[simp] theorem State.setSlot_sched (i : SlotId) (x : Slot) : (s.setSlot i x).sched = s.sched := rfl
@[simp] theorem State.setSlot_reads (i : SlotId) (x : Slot) : (s.setSlot i x).reads = s.reads := rfl
@[simp] theorem State.setSlot_remap (i : SlotId) (x : Slot) : (s.setSlot i x).remap = s.remap := rfl
@[simp] theorem State.setSlot_writer (i : SlotId) (x : Slot) : (s.setSlot i x).writer = s.writer := rfl
@[simp] theorem State.setSlot_region (i : SlotId) (x : Slot) : (s.setSlot i x).region = s.region := rfl
@[simp] theorem State.setSlot_engine (i : SlotId) (x : Slot) : (s.setSlot i x).engine = s.engine := rfl
@[simp] theorem State.setSlot_control (i : SlotId) (x : Slot) : (s.setSlot i x).control = s.control := rfl
@[simp] theorem State.setSlot_geometry (i : SlotId) (x : Slot) : (s.setSlot i x).geometry = s.geometry := rfl
@[simp] theorem State.setSlot_pins (i : SlotId) (x : Slot) : (s.setSlot i x).pins = s.pins := rfl
@[simp] theorem State.setSlot_now (i : SlotId) (x : Slot) : (s.setSlot i x).now = s.now := rfl
@[simp] theorem State.setSlot_arrayOut (i : SlotId) (x : Slot) : (s.setSlot i x).arrayOut = s.arrayOut := rfl
@[simp] theorem State.setSlot_hostOut (i : SlotId) (x : Slot) : (s.setSlot i x).hostOut = s.hostOut := rfl
@[simp] theorem State.setSlot_pending (i : SlotId) (x : Slot) : (s.setSlot i x).pending = s.pending := rfl

@[simp] theorem State.changeDir_link (p : Nat) (f : DirEntry → DirEntry) :
    (s.changeDir p f).link = s.link := rfl
@[simp] theorem State.changeDir_absorb (p : Nat) (f : DirEntry → DirEntry) :
    (s.changeDir p f).absorb = { s.absorb with directory := changeEntry p f s.absorb.directory } := rfl
@[simp] theorem State.changeDir_tracker (p : Nat) (f : DirEntry → DirEntry) :
    (s.changeDir p f).tracker = s.tracker := rfl
@[simp] theorem State.changeDir_sched (p : Nat) (f : DirEntry → DirEntry) :
    (s.changeDir p f).sched = s.sched := rfl
@[simp] theorem State.changeDir_reads (p : Nat) (f : DirEntry → DirEntry) :
    (s.changeDir p f).reads = s.reads := rfl
@[simp] theorem State.changeDir_remap (p : Nat) (f : DirEntry → DirEntry) :
    (s.changeDir p f).remap = s.remap := rfl
@[simp] theorem State.changeDir_writer (p : Nat) (f : DirEntry → DirEntry) :
    (s.changeDir p f).writer = s.writer := rfl
@[simp] theorem State.changeDir_region (p : Nat) (f : DirEntry → DirEntry) :
    (s.changeDir p f).region = s.region := rfl
@[simp] theorem State.changeDir_engine (p : Nat) (f : DirEntry → DirEntry) :
    (s.changeDir p f).engine = s.engine := rfl
@[simp] theorem State.changeDir_control (p : Nat) (f : DirEntry → DirEntry) :
    (s.changeDir p f).control = s.control := rfl
@[simp] theorem State.changeDir_geometry (p : Nat) (f : DirEntry → DirEntry) :
    (s.changeDir p f).geometry = s.geometry := rfl
@[simp] theorem State.changeDir_pins (p : Nat) (f : DirEntry → DirEntry) :
    (s.changeDir p f).pins = s.pins := rfl
@[simp] theorem State.changeDir_now (p : Nat) (f : DirEntry → DirEntry) : (s.changeDir p f).now = s.now := rfl
@[simp] theorem State.changeDir_arrayOut (p : Nat) (f : DirEntry → DirEntry) :
    (s.changeDir p f).arrayOut = s.arrayOut := rfl
@[simp] theorem State.changeDir_hostOut (p : Nat) (f : DirEntry → DirEntry) :
    (s.changeDir p f).hostOut = s.hostOut := rfl
@[simp] theorem State.changeDir_pending (p : Nat) (f : DirEntry → DirEntry) :
    (s.changeDir p f).pending = s.pending := rfl

@[simp] theorem State.epochUp_link (n : Nat) : (s.epochUp n).link = s.link := rfl
@[simp] theorem State.epochUp_absorb (n : Nat) : (s.epochUp n).absorb = s.absorb := rfl
@[simp] theorem State.epochUp_tracker (n : Nat) :
    (s.epochUp n).tracker = { s.tracker with
      epochs := changeEpoch n (fun e => { e with outstanding := e.outstanding + 1 }) s.tracker.epochs } := rfl
@[simp] theorem State.epochUp_sched (n : Nat) : (s.epochUp n).sched = s.sched := rfl
@[simp] theorem State.epochUp_reads (n : Nat) : (s.epochUp n).reads = s.reads := rfl
@[simp] theorem State.epochUp_remap (n : Nat) : (s.epochUp n).remap = s.remap := rfl
@[simp] theorem State.epochUp_writer (n : Nat) : (s.epochUp n).writer = s.writer := rfl
@[simp] theorem State.epochUp_region (n : Nat) : (s.epochUp n).region = s.region := rfl
@[simp] theorem State.epochUp_engine (n : Nat) : (s.epochUp n).engine = s.engine := rfl
@[simp] theorem State.epochUp_control (n : Nat) : (s.epochUp n).control = s.control := rfl
@[simp] theorem State.epochUp_geometry (n : Nat) : (s.epochUp n).geometry = s.geometry := rfl
@[simp] theorem State.epochUp_pins (n : Nat) : (s.epochUp n).pins = s.pins := rfl
@[simp] theorem State.epochUp_now (n : Nat) : (s.epochUp n).now = s.now := rfl
@[simp] theorem State.epochUp_arrayOut (n : Nat) : (s.epochUp n).arrayOut = s.arrayOut := rfl
@[simp] theorem State.epochUp_hostOut (n : Nat) : (s.epochUp n).hostOut = s.hostOut := rfl
@[simp] theorem State.epochUp_pending (n : Nat) : (s.epochUp n).pending = s.pending := rfl

/-! ## Banks -/

@[simp] theorem State.setBank_link (b : BankId) (x : Bank) : (s.setBank b x).link = s.link := rfl
@[simp] theorem State.setBank_absorb (b : BankId) (x : Bank) : (s.setBank b x).absorb = s.absorb := rfl
@[simp] theorem State.setBank_tracker (b : BankId) (x : Bank) : (s.setBank b x).tracker = s.tracker := rfl
@[simp] theorem State.setBank_sched (b : BankId) (x : Bank) :
    (s.setBank b x).sched = { s.sched with banks := s.sched.banks.set b.val x } := rfl
@[simp] theorem State.setBank_reads (b : BankId) (x : Bank) : (s.setBank b x).reads = s.reads := rfl
@[simp] theorem State.setBank_remap (b : BankId) (x : Bank) : (s.setBank b x).remap = s.remap := rfl
@[simp] theorem State.setBank_writer (b : BankId) (x : Bank) : (s.setBank b x).writer = s.writer := rfl
@[simp] theorem State.setBank_region (b : BankId) (x : Bank) : (s.setBank b x).region = s.region := rfl
@[simp] theorem State.setBank_engine (b : BankId) (x : Bank) : (s.setBank b x).engine = s.engine := rfl
@[simp] theorem State.setBank_control (b : BankId) (x : Bank) : (s.setBank b x).control = s.control := rfl
@[simp] theorem State.setBank_geometry (b : BankId) (x : Bank) : (s.setBank b x).geometry = s.geometry := rfl
@[simp] theorem State.setBank_pins (b : BankId) (x : Bank) : (s.setBank b x).pins = s.pins := rfl
@[simp] theorem State.setBank_now (b : BankId) (x : Bank) : (s.setBank b x).now = s.now := rfl
@[simp] theorem State.setBank_arrayOut (b : BankId) (x : Bank) : (s.setBank b x).arrayOut = s.arrayOut := rfl
@[simp] theorem State.setBank_hostOut (b : BankId) (x : Bank) : (s.setBank b x).hostOut = s.hostOut := rfl
@[simp] theorem State.setBank_pending (b : BankId) (x : Bank) : (s.setBank b x).pending = s.pending := rfl

@[simp] theorem State.setPendingMeta_link (p : Option PendingMeta) : (s.setPendingMeta p).link = s.link := rfl
@[simp] theorem State.setPendingMeta_absorb (p : Option PendingMeta) :
    (s.setPendingMeta p).absorb = s.absorb := rfl
@[simp] theorem State.setPendingMeta_tracker (p : Option PendingMeta) :
    (s.setPendingMeta p).tracker = s.tracker := rfl
@[simp] theorem State.setPendingMeta_sched (p : Option PendingMeta) :
    (s.setPendingMeta p).sched = { s.sched with pendingMeta := p } := rfl
@[simp] theorem State.setPendingMeta_reads (p : Option PendingMeta) :
    (s.setPendingMeta p).reads = s.reads := rfl
@[simp] theorem State.setPendingMeta_remap (p : Option PendingMeta) :
    (s.setPendingMeta p).remap = s.remap := rfl
@[simp] theorem State.setPendingMeta_writer (p : Option PendingMeta) :
    (s.setPendingMeta p).writer = s.writer := rfl
@[simp] theorem State.setPendingMeta_region (p : Option PendingMeta) :
    (s.setPendingMeta p).region = s.region := rfl
@[simp] theorem State.setPendingMeta_engine (p : Option PendingMeta) :
    (s.setPendingMeta p).engine = s.engine := rfl
@[simp] theorem State.setPendingMeta_control (p : Option PendingMeta) :
    (s.setPendingMeta p).control = s.control := rfl
@[simp] theorem State.setPendingMeta_geometry (p : Option PendingMeta) :
    (s.setPendingMeta p).geometry = s.geometry := rfl
@[simp] theorem State.setPendingMeta_pins (p : Option PendingMeta) : (s.setPendingMeta p).pins = s.pins := rfl
@[simp] theorem State.setPendingMeta_now (p : Option PendingMeta) : (s.setPendingMeta p).now = s.now := rfl
@[simp] theorem State.setPendingMeta_arrayOut (p : Option PendingMeta) :
    (s.setPendingMeta p).arrayOut = s.arrayOut := rfl
@[simp] theorem State.setPendingMeta_hostOut (p : Option PendingMeta) :
    (s.setPendingMeta p).hostOut = s.hostOut := rfl
@[simp] theorem State.setPendingMeta_pending (p : Option PendingMeta) :
    (s.setPendingMeta p).pending = s.pending := rfl

@[simp] theorem State.countProgram_link : s.countProgram.link = s.link := rfl
@[simp] theorem State.countProgram_absorb : s.countProgram.absorb = s.absorb := rfl
@[simp] theorem State.countProgram_tracker : s.countProgram.tracker = s.tracker := rfl
@[simp] theorem State.countProgram_sched : s.countProgram.sched = s.sched := rfl
@[simp] theorem State.countProgram_reads : s.countProgram.reads = s.reads := rfl
@[simp] theorem State.countProgram_remap : s.countProgram.remap = s.remap := rfl
@[simp] theorem State.countProgram_writer : s.countProgram.writer = s.writer := rfl
@[simp] theorem State.countProgram_region : s.countProgram.region = s.region := rfl
@[simp] theorem State.countProgram_engine : s.countProgram.engine = s.engine := rfl
@[simp] theorem State.countProgram_control :
    s.countProgram.control = { s.control with
      drain := s.control.drain.map (fun d => { d with count := d.count + 1 }) } := rfl
@[simp] theorem State.countProgram_geometry : s.countProgram.geometry = s.geometry := rfl
@[simp] theorem State.countProgram_pins : s.countProgram.pins = s.pins := rfl
@[simp] theorem State.countProgram_now : s.countProgram.now = s.now := rfl
@[simp] theorem State.countProgram_arrayOut : s.countProgram.arrayOut = s.arrayOut := rfl
@[simp] theorem State.countProgram_hostOut : s.countProgram.hostOut = s.hostOut := rfl
@[simp] theorem State.countProgram_pending : s.countProgram.pending = s.pending := rfl

/-! ## The two links and the condition record -/

@[simp] theorem State.latch_link (c : Condition) : (s.latch c).link = s.link := rfl
@[simp] theorem State.latch_absorb (c : Condition) : (s.latch c).absorb = s.absorb := rfl
@[simp] theorem State.latch_tracker (c : Condition) : (s.latch c).tracker = s.tracker := rfl
@[simp] theorem State.latch_sched (c : Condition) : (s.latch c).sched = s.sched := rfl
@[simp] theorem State.latch_reads (c : Condition) : (s.latch c).reads = s.reads := rfl
@[simp] theorem State.latch_remap (c : Condition) : (s.latch c).remap = s.remap := rfl
@[simp] theorem State.latch_writer (c : Condition) : (s.latch c).writer = s.writer := rfl
@[simp] theorem State.latch_region (c : Condition) : (s.latch c).region = s.region := rfl
@[simp] theorem State.latch_engine (c : Condition) :
    (s.latch c).engine = { s.engine with latched := s.engine.latched ||| c.mask } := rfl
@[simp] theorem State.latch_control (c : Condition) : (s.latch c).control = s.control := rfl
@[simp] theorem State.latch_geometry (c : Condition) : (s.latch c).geometry = s.geometry := rfl
@[simp] theorem State.latch_pins (c : Condition) : (s.latch c).pins = s.pins := rfl
@[simp] theorem State.latch_now (c : Condition) : (s.latch c).now = s.now := rfl
@[simp] theorem State.latch_arrayOut (c : Condition) : (s.latch c).arrayOut = s.arrayOut := rfl
@[simp] theorem State.latch_hostOut (c : Condition) : (s.latch c).hostOut = s.hostOut := rfl
@[simp] theorem State.latch_pending (c : Condition) : (s.latch c).pending = s.pending := rfl

@[simp] theorem State.push_link (p : Packet) :
    (s.push p).link = { s.link with responses := s.link.responses ++ [p] } := rfl
@[simp] theorem State.push_absorb (p : Packet) : (s.push p).absorb = s.absorb := rfl
@[simp] theorem State.push_tracker (p : Packet) : (s.push p).tracker = s.tracker := rfl
@[simp] theorem State.push_sched (p : Packet) : (s.push p).sched = s.sched := rfl
@[simp] theorem State.push_reads (p : Packet) : (s.push p).reads = s.reads := rfl
@[simp] theorem State.push_remap (p : Packet) : (s.push p).remap = s.remap := rfl
@[simp] theorem State.push_writer (p : Packet) : (s.push p).writer = s.writer := rfl
@[simp] theorem State.push_region (p : Packet) : (s.push p).region = s.region := rfl
@[simp] theorem State.push_engine (p : Packet) : (s.push p).engine = s.engine := rfl
@[simp] theorem State.push_control (p : Packet) : (s.push p).control = s.control := rfl
@[simp] theorem State.push_geometry (p : Packet) : (s.push p).geometry = s.geometry := rfl
@[simp] theorem State.push_pins (p : Packet) : (s.push p).pins = s.pins := rfl
@[simp] theorem State.push_now (p : Packet) : (s.push p).now = s.now := rfl
@[simp] theorem State.push_arrayOut (p : Packet) : (s.push p).arrayOut = s.arrayOut := rfl
@[simp] theorem State.push_hostOut (p : Packet) : (s.push p).hostOut = s.hostOut := rfl
@[simp] theorem State.push_pending (p : Packet) : (s.push p).pending = s.pending := rfl

@[simp] theorem State.respond_link (t : Nat) (p : Packet) :
    (s.respond t p).link = { s.link with
      tags := s.link.tags.filter (fun x => x != t), responses := s.link.responses ++ [p] } := rfl
@[simp] theorem State.respond_absorb (t : Nat) (p : Packet) : (s.respond t p).absorb = s.absorb := rfl
@[simp] theorem State.respond_tracker (t : Nat) (p : Packet) : (s.respond t p).tracker = s.tracker := rfl
@[simp] theorem State.respond_sched (t : Nat) (p : Packet) : (s.respond t p).sched = s.sched := rfl
@[simp] theorem State.respond_reads (t : Nat) (p : Packet) : (s.respond t p).reads = s.reads := rfl
@[simp] theorem State.respond_remap (t : Nat) (p : Packet) : (s.respond t p).remap = s.remap := rfl
@[simp] theorem State.respond_writer (t : Nat) (p : Packet) : (s.respond t p).writer = s.writer := rfl
@[simp] theorem State.respond_region (t : Nat) (p : Packet) : (s.respond t p).region = s.region := rfl
@[simp] theorem State.respond_engine (t : Nat) (p : Packet) : (s.respond t p).engine = s.engine := rfl
@[simp] theorem State.respond_control (t : Nat) (p : Packet) : (s.respond t p).control = s.control := rfl
@[simp] theorem State.respond_geometry (t : Nat) (p : Packet) : (s.respond t p).geometry = s.geometry := rfl
@[simp] theorem State.respond_pins (t : Nat) (p : Packet) : (s.respond t p).pins = s.pins := rfl
@[simp] theorem State.respond_now (t : Nat) (p : Packet) : (s.respond t p).now = s.now := rfl
@[simp] theorem State.respond_arrayOut (t : Nat) (p : Packet) : (s.respond t p).arrayOut = s.arrayOut := rfl
@[simp] theorem State.respond_hostOut (t : Nat) (p : Packet) : (s.respond t p).hostOut = s.hostOut := rfl
@[simp] theorem State.respond_pending (t : Nat) (p : Packet) : (s.respond t p).pending = s.pending := rfl

@[simp] theorem State.emit_link (c : ArrayCommand) : (s.emit c).link = s.link := rfl
@[simp] theorem State.emit_absorb (c : ArrayCommand) : (s.emit c).absorb = s.absorb := rfl
@[simp] theorem State.emit_tracker (c : ArrayCommand) : (s.emit c).tracker = s.tracker := rfl
@[simp] theorem State.emit_sched (c : ArrayCommand) : (s.emit c).sched = s.sched := rfl
@[simp] theorem State.emit_reads (c : ArrayCommand) : (s.emit c).reads = s.reads := rfl
@[simp] theorem State.emit_remap (c : ArrayCommand) : (s.emit c).remap = s.remap := rfl
@[simp] theorem State.emit_writer (c : ArrayCommand) : (s.emit c).writer = s.writer := rfl
@[simp] theorem State.emit_region (c : ArrayCommand) : (s.emit c).region = s.region := rfl
@[simp] theorem State.emit_engine (c : ArrayCommand) : (s.emit c).engine = s.engine := rfl
@[simp] theorem State.emit_control (c : ArrayCommand) : (s.emit c).control = s.control := rfl
@[simp] theorem State.emit_geometry (c : ArrayCommand) : (s.emit c).geometry = s.geometry := rfl
@[simp] theorem State.emit_pins (c : ArrayCommand) : (s.emit c).pins = s.pins := rfl
@[simp] theorem State.emit_now (c : ArrayCommand) : (s.emit c).now = s.now := rfl
@[simp] theorem State.emit_arrayOut (c : ArrayCommand) : (s.emit c).arrayOut = s.arrayOut ++ [c] := rfl
@[simp] theorem State.emit_hostOut (c : ArrayCommand) : (s.emit c).hostOut = s.hostOut := rfl
@[simp] theorem State.emit_pending (c : ArrayCommand) : (s.emit c).pending = s.pending := rfl

@[simp] theorem State.judgeAlert_link : s.judgeAlert.link = s.link := rfl
@[simp] theorem State.judgeAlert_absorb : s.judgeAlert.absorb = s.absorb := rfl
@[simp] theorem State.judgeAlert_tracker : s.judgeAlert.tracker = s.tracker := rfl
@[simp] theorem State.judgeAlert_sched : s.judgeAlert.sched = s.sched := rfl
@[simp] theorem State.judgeAlert_reads : s.judgeAlert.reads = s.reads := rfl
@[simp] theorem State.judgeAlert_remap : s.judgeAlert.remap = s.remap := rfl
@[simp] theorem State.judgeAlert_writer : s.judgeAlert.writer = s.writer := rfl
@[simp] theorem State.judgeAlert_region : s.judgeAlert.region = s.region := rfl
@[simp] theorem State.judgeAlert_engine : s.judgeAlert.engine = s.engine := rfl
@[simp] theorem State.judgeAlert_control : s.judgeAlert.control = s.control := rfl
@[simp] theorem State.judgeAlert_geometry : s.judgeAlert.geometry = s.geometry := rfl
@[simp] theorem State.judgeAlert_pins : s.judgeAlert.pins = { s.pins with alert := s.alertLevel } := rfl
@[simp] theorem State.judgeAlert_now : s.judgeAlert.now = s.now := rfl
@[simp] theorem State.judgeAlert_arrayOut : s.judgeAlert.arrayOut = s.arrayOut := rfl
@[simp] theorem State.judgeAlert_hostOut : s.judgeAlert.hostOut = s.hostOut := rfl
@[simp] theorem State.judgeAlert_pending : s.judgeAlert.pending = s.pending := rfl

@[simp] theorem State.answerDirective_link (t : Nat) (r : Result) (x : List Byte) :
    (s.answerDirective t r x).link = { s.link with
      tags := s.link.tags.filter (fun x => x != t),
      responses := s.link.responses ++ [.directiveDone t r x] } := rfl
@[simp] theorem State.answerDirective_absorb (t : Nat) (r : Result) (x : List Byte) :
    (s.answerDirective t r x).absorb = s.absorb := rfl
@[simp] theorem State.answerDirective_tracker (t : Nat) (r : Result) (x : List Byte) :
    (s.answerDirective t r x).tracker = s.tracker := rfl
@[simp] theorem State.answerDirective_sched (t : Nat) (r : Result) (x : List Byte) :
    (s.answerDirective t r x).sched = s.sched := rfl
@[simp] theorem State.answerDirective_reads (t : Nat) (r : Result) (x : List Byte) :
    (s.answerDirective t r x).reads = s.reads := rfl
@[simp] theorem State.answerDirective_remap (t : Nat) (r : Result) (x : List Byte) :
    (s.answerDirective t r x).remap = s.remap := rfl
@[simp] theorem State.answerDirective_writer (t : Nat) (r : Result) (x : List Byte) :
    (s.answerDirective t r x).writer = s.writer := rfl
@[simp] theorem State.answerDirective_region (t : Nat) (r : Result) (x : List Byte) :
    (s.answerDirective t r x).region = s.region := rfl
@[simp] theorem State.answerDirective_engine (t : Nat) (r : Result) (x : List Byte) :
    (s.answerDirective t r x).engine = { s.engine with current := .absent } := rfl
@[simp] theorem State.answerDirective_control (t : Nat) (r : Result) (x : List Byte) :
    (s.answerDirective t r x).control = s.control := rfl
@[simp] theorem State.answerDirective_geometry (t : Nat) (r : Result) (x : List Byte) :
    (s.answerDirective t r x).geometry = s.geometry := rfl
@[simp] theorem State.answerDirective_pins (t : Nat) (r : Result) (x : List Byte) :
    (s.answerDirective t r x).pins = s.pins := rfl
@[simp] theorem State.answerDirective_now (t : Nat) (r : Result) (x : List Byte) :
    (s.answerDirective t r x).now = s.now := rfl
@[simp] theorem State.answerDirective_arrayOut (t : Nat) (r : Result) (x : List Byte) :
    (s.answerDirective t r x).arrayOut = s.arrayOut := rfl
@[simp] theorem State.answerDirective_hostOut (t : Nat) (r : Result) (x : List Byte) :
    (s.answerDirective t r x).hostOut = s.hostOut := rfl
@[simp] theorem State.answerDirective_pending (t : Nat) (r : Result) (x : List Byte) :
    (s.answerDirective t r x).pending = s.pending := rfl

/-! ## Spares, staging and Bridge Control -/

@[simp] theorem State.setFreeSpares_link (b : BankId) (x : List FreeSpare) :
    (s.setFreeSpares b x).link = s.link := rfl
@[simp] theorem State.setFreeSpares_absorb (b : BankId) (x : List FreeSpare) :
    (s.setFreeSpares b x).absorb = s.absorb := rfl
@[simp] theorem State.setFreeSpares_tracker (b : BankId) (x : List FreeSpare) :
    (s.setFreeSpares b x).tracker = s.tracker := rfl
@[simp] theorem State.setFreeSpares_sched (b : BankId) (x : List FreeSpare) :
    (s.setFreeSpares b x).sched = s.sched := rfl
@[simp] theorem State.setFreeSpares_reads (b : BankId) (x : List FreeSpare) :
    (s.setFreeSpares b x).reads = s.reads := rfl
@[simp] theorem State.setFreeSpares_remap (b : BankId) (x : List FreeSpare) :
    (s.setFreeSpares b x).remap = { s.remap with free := s.remap.free.set b.val x } := rfl
@[simp] theorem State.setFreeSpares_writer (b : BankId) (x : List FreeSpare) :
    (s.setFreeSpares b x).writer = s.writer := rfl
@[simp] theorem State.setFreeSpares_region (b : BankId) (x : List FreeSpare) :
    (s.setFreeSpares b x).region = s.region := rfl
@[simp] theorem State.setFreeSpares_engine (b : BankId) (x : List FreeSpare) :
    (s.setFreeSpares b x).engine = s.engine := rfl
@[simp] theorem State.setFreeSpares_control (b : BankId) (x : List FreeSpare) :
    (s.setFreeSpares b x).control = s.control := rfl
@[simp] theorem State.setFreeSpares_geometry (b : BankId) (x : List FreeSpare) :
    (s.setFreeSpares b x).geometry = s.geometry := rfl
@[simp] theorem State.setFreeSpares_pins (b : BankId) (x : List FreeSpare) :
    (s.setFreeSpares b x).pins = s.pins := rfl
@[simp] theorem State.setFreeSpares_now (b : BankId) (x : List FreeSpare) :
    (s.setFreeSpares b x).now = s.now := rfl
@[simp] theorem State.setFreeSpares_arrayOut (b : BankId) (x : List FreeSpare) :
    (s.setFreeSpares b x).arrayOut = s.arrayOut := rfl
@[simp] theorem State.setFreeSpares_hostOut (b : BankId) (x : List FreeSpare) :
    (s.setFreeSpares b x).hostOut = s.hostOut := rfl
@[simp] theorem State.setFreeSpares_pending (b : BankId) (x : List FreeSpare) :
    (s.setFreeSpares b x).pending = s.pending := rfl

@[simp] theorem State.addRetired_link (b : BankId) (k : Nat) : (s.addRetired b k).link = s.link := rfl
@[simp] theorem State.addRetired_absorb (b : BankId) (k : Nat) : (s.addRetired b k).absorb = s.absorb := rfl
@[simp] theorem State.addRetired_tracker (b : BankId) (k : Nat) : (s.addRetired b k).tracker = s.tracker := rfl
@[simp] theorem State.addRetired_sched (b : BankId) (k : Nat) : (s.addRetired b k).sched = s.sched := rfl
@[simp] theorem State.addRetired_reads (b : BankId) (k : Nat) : (s.addRetired b k).reads = s.reads := rfl
@[simp] theorem State.addRetired_remap (b : BankId) (k : Nat) :
    (s.addRetired b k).remap = { s.remap with
      retired := s.remap.retired.set b.val (insertNat k s.remap.retired[b.val]) } := rfl
@[simp] theorem State.addRetired_writer (b : BankId) (k : Nat) : (s.addRetired b k).writer = s.writer := rfl
@[simp] theorem State.addRetired_region (b : BankId) (k : Nat) : (s.addRetired b k).region = s.region := rfl
@[simp] theorem State.addRetired_engine (b : BankId) (k : Nat) : (s.addRetired b k).engine = s.engine := rfl
@[simp] theorem State.addRetired_control (b : BankId) (k : Nat) : (s.addRetired b k).control = s.control := rfl
@[simp] theorem State.addRetired_geometry (b : BankId) (k : Nat) :
    (s.addRetired b k).geometry = s.geometry := rfl
@[simp] theorem State.addRetired_pins (b : BankId) (k : Nat) : (s.addRetired b k).pins = s.pins := rfl
@[simp] theorem State.addRetired_now (b : BankId) (k : Nat) : (s.addRetired b k).now = s.now := rfl
@[simp] theorem State.addRetired_arrayOut (b : BankId) (k : Nat) :
    (s.addRetired b k).arrayOut = s.arrayOut := rfl
@[simp] theorem State.addRetired_hostOut (b : BankId) (k : Nat) : (s.addRetired b k).hostOut = s.hostOut := rfl
@[simp] theorem State.addRetired_pending (b : BankId) (k : Nat) : (s.addRetired b k).pending = s.pending := rfl

@[simp] theorem State.setStaging_link (x : Staging) : (s.setStaging x).link = s.link := rfl
@[simp] theorem State.setStaging_absorb (x : Staging) : (s.setStaging x).absorb = s.absorb := rfl
@[simp] theorem State.setStaging_tracker (x : Staging) : (s.setStaging x).tracker = s.tracker := rfl
@[simp] theorem State.setStaging_sched (x : Staging) : (s.setStaging x).sched = s.sched := rfl
@[simp] theorem State.setStaging_reads (x : Staging) : (s.setStaging x).reads = s.reads := rfl
@[simp] theorem State.setStaging_remap (x : Staging) : (s.setStaging x).remap = s.remap := rfl
@[simp] theorem State.setStaging_writer (x : Staging) : (s.setStaging x).writer = s.writer := rfl
@[simp] theorem State.setStaging_region (x : Staging) :
    (s.setStaging x).region = { s.region with staging := x } := rfl
@[simp] theorem State.setStaging_engine (x : Staging) : (s.setStaging x).engine = s.engine := rfl
@[simp] theorem State.setStaging_control (x : Staging) : (s.setStaging x).control = s.control := rfl
@[simp] theorem State.setStaging_geometry (x : Staging) : (s.setStaging x).geometry = s.geometry := rfl
@[simp] theorem State.setStaging_pins (x : Staging) : (s.setStaging x).pins = s.pins := rfl
@[simp] theorem State.setStaging_now (x : Staging) : (s.setStaging x).now = s.now := rfl
@[simp] theorem State.setStaging_arrayOut (x : Staging) : (s.setStaging x).arrayOut = s.arrayOut := rfl
@[simp] theorem State.setStaging_hostOut (x : Staging) : (s.setStaging x).hostOut = s.hostOut := rfl
@[simp] theorem State.setStaging_pending (x : Staging) : (s.setStaging x).pending = s.pending := rfl

@[simp] theorem State.setBridge_link (b : BridgeState) : (s.setBridge b).link = s.link := rfl
@[simp] theorem State.setBridge_absorb (b : BridgeState) : (s.setBridge b).absorb = s.absorb := rfl
@[simp] theorem State.setBridge_tracker (b : BridgeState) : (s.setBridge b).tracker = s.tracker := rfl
@[simp] theorem State.setBridge_sched (b : BridgeState) : (s.setBridge b).sched = s.sched := rfl
@[simp] theorem State.setBridge_reads (b : BridgeState) : (s.setBridge b).reads = s.reads := rfl
@[simp] theorem State.setBridge_remap (b : BridgeState) : (s.setBridge b).remap = s.remap := rfl
@[simp] theorem State.setBridge_writer (b : BridgeState) : (s.setBridge b).writer = s.writer := rfl
@[simp] theorem State.setBridge_region (b : BridgeState) : (s.setBridge b).region = s.region := rfl
@[simp] theorem State.setBridge_engine (b : BridgeState) : (s.setBridge b).engine = s.engine := rfl
@[simp] theorem State.setBridge_control (b : BridgeState) :
    (s.setBridge b).control = { s.control with state := b } := rfl
@[simp] theorem State.setBridge_geometry (b : BridgeState) : (s.setBridge b).geometry = s.geometry := rfl
@[simp] theorem State.setBridge_pins (b : BridgeState) : (s.setBridge b).pins = s.pins := rfl
@[simp] theorem State.setBridge_now (b : BridgeState) : (s.setBridge b).now = s.now := rfl
@[simp] theorem State.setBridge_arrayOut (b : BridgeState) : (s.setBridge b).arrayOut = s.arrayOut := rfl
@[simp] theorem State.setBridge_hostOut (b : BridgeState) : (s.setBridge b).hostOut = s.hostOut := rfl
@[simp] theorem State.setBridge_pending (b : BridgeState) : (s.setBridge b).pending = s.pending := rfl

@[simp] theorem State.setStage_link (x : Stage) : (s.setStage x).link = s.link := rfl
@[simp] theorem State.setStage_absorb (x : Stage) : (s.setStage x).absorb = s.absorb := rfl
@[simp] theorem State.setStage_tracker (x : Stage) : (s.setStage x).tracker = s.tracker := rfl
@[simp] theorem State.setStage_sched (x : Stage) : (s.setStage x).sched = s.sched := rfl
@[simp] theorem State.setStage_reads (x : Stage) : (s.setStage x).reads = s.reads := rfl
@[simp] theorem State.setStage_remap (x : Stage) : (s.setStage x).remap = s.remap := rfl
@[simp] theorem State.setStage_writer (x : Stage) : (s.setStage x).writer = s.writer := rfl
@[simp] theorem State.setStage_region (x : Stage) : (s.setStage x).region = s.region := rfl
@[simp] theorem State.setStage_engine (x : Stage) : (s.setStage x).engine = s.engine := rfl
@[simp] theorem State.setStage_control (x : Stage) :
    (s.setStage x).control = { s.control with
      startup := s.control.startup.map (fun up => { up with stage := x }) } := rfl
@[simp] theorem State.setStage_geometry (x : Stage) : (s.setStage x).geometry = s.geometry := rfl
@[simp] theorem State.setStage_pins (x : Stage) : (s.setStage x).pins = s.pins := rfl
@[simp] theorem State.setStage_now (x : Stage) : (s.setStage x).now = s.now := rfl
@[simp] theorem State.setStage_arrayOut (x : Stage) : (s.setStage x).arrayOut = s.arrayOut := rfl
@[simp] theorem State.setStage_hostOut (x : Stage) : (s.setStage x).hostOut = s.hostOut := rfl
@[simp] theorem State.setStage_pending (x : Stage) : (s.setStage x).pending = s.pending := rfl

@[simp] theorem State.forbidRecord_link : s.forbidRecord.link = s.link := rfl
@[simp] theorem State.forbidRecord_absorb : s.forbidRecord.absorb = s.absorb := rfl
@[simp] theorem State.forbidRecord_tracker : s.forbidRecord.tracker = s.tracker := rfl
@[simp] theorem State.forbidRecord_sched : s.forbidRecord.sched = s.sched := rfl
@[simp] theorem State.forbidRecord_reads : s.forbidRecord.reads = s.reads := rfl
@[simp] theorem State.forbidRecord_remap : s.forbidRecord.remap = s.remap := rfl
@[simp] theorem State.forbidRecord_writer : s.forbidRecord.writer = s.writer := rfl
@[simp] theorem State.forbidRecord_region : s.forbidRecord.region = s.region := rfl
@[simp] theorem State.forbidRecord_engine : s.forbidRecord.engine = s.engine := rfl
@[simp] theorem State.forbidRecord_control :
    s.forbidRecord.control = { s.control with
      drain := s.control.drain.map (fun d => { d with recordPermitted := false }) } := rfl
@[simp] theorem State.forbidRecord_geometry : s.forbidRecord.geometry = s.geometry := rfl
@[simp] theorem State.forbidRecord_pins : s.forbidRecord.pins = s.pins := rfl
@[simp] theorem State.forbidRecord_now : s.forbidRecord.now = s.now := rfl
@[simp] theorem State.forbidRecord_arrayOut : s.forbidRecord.arrayOut = s.arrayOut := rfl
@[simp] theorem State.forbidRecord_hostOut : s.forbidRecord.hostOut = s.hostOut := rfl
@[simp] theorem State.forbidRecord_pending : s.forbidRecord.pending = s.pending := rfl

@[simp] theorem State.atExpiry_link (t : Timer) : (s.atExpiry t).link = s.link := rfl
@[simp] theorem State.atExpiry_absorb (t : Timer) : (s.atExpiry t).absorb = s.absorb := rfl
@[simp] theorem State.atExpiry_tracker (t : Timer) : (s.atExpiry t).tracker = s.tracker := rfl
@[simp] theorem State.atExpiry_sched (t : Timer) : (s.atExpiry t).sched = s.sched := rfl
@[simp] theorem State.atExpiry_reads (t : Timer) : (s.atExpiry t).reads = s.reads := rfl
@[simp] theorem State.atExpiry_remap (t : Timer) : (s.atExpiry t).remap = s.remap := rfl
@[simp] theorem State.atExpiry_writer (t : Timer) : (s.atExpiry t).writer = s.writer := rfl
@[simp] theorem State.atExpiry_region (t : Timer) : (s.atExpiry t).region = s.region := rfl
@[simp] theorem State.atExpiry_engine (t : Timer) : (s.atExpiry t).engine = s.engine := rfl
@[simp] theorem State.atExpiry_control (t : Timer) : (s.atExpiry t).control = s.control := rfl
@[simp] theorem State.atExpiry_geometry (t : Timer) : (s.atExpiry t).geometry = s.geometry := rfl
@[simp] theorem State.atExpiry_pins (t : Timer) : (s.atExpiry t).pins = s.pins := rfl
@[simp] theorem State.atExpiry_now (t : Timer) : (s.atExpiry t).now = expiryTime s.now t := rfl
@[simp] theorem State.atExpiry_arrayOut (t : Timer) : (s.atExpiry t).arrayOut = s.arrayOut := rfl
@[simp] theorem State.atExpiry_hostOut (t : Timer) : (s.atExpiry t).hostOut = s.hostOut := rfl
@[simp] theorem State.atExpiry_pending (t : Timer) : (s.atExpiry t).pending = s.pending := rfl

@[simp] theorem State.tick_link : s.tick.link = s.link := rfl
@[simp] theorem State.tick_absorb : s.tick.absorb = s.absorb := rfl
@[simp] theorem State.tick_tracker : s.tick.tracker = s.tracker := rfl
@[simp] theorem State.tick_sched : s.tick.sched = s.sched := rfl
@[simp] theorem State.tick_reads : s.tick.reads = s.reads := rfl
@[simp] theorem State.tick_remap : s.tick.remap = s.remap := rfl
@[simp] theorem State.tick_writer : s.tick.writer = s.writer := rfl
@[simp] theorem State.tick_region : s.tick.region = s.region := rfl
@[simp] theorem State.tick_engine : s.tick.engine = s.engine := rfl
@[simp] theorem State.tick_control : s.tick.control = s.control := rfl
@[simp] theorem State.tick_geometry : s.tick.geometry = s.geometry := rfl
@[simp] theorem State.tick_pins : s.tick.pins = s.pins := rfl
@[simp] theorem State.tick_now : s.tick.now = s.now + 1 := rfl
@[simp] theorem State.tick_arrayOut : s.tick.arrayOut = s.arrayOut := rfl
@[simp] theorem State.tick_hostOut : s.tick.hostOut = s.hostOut := rfl
@[simp] theorem State.tick_pending : s.tick.pending = s.pending := rfl

end

end Sys2Proof.Machine
end

