-- ==== Sys2Proof/Laws/Ops.lean ====
section
/-!
SUPPORT. For the operations that commands share, one lemma each that says what the operation does.
-/

namespace Sys2Proof.Machine

/-! ## Lists and numbers -/

theorem insertNat_filter (x : Nat) (xs : List Nat) (h : x ∉ xs) :
    (insertNat x xs).filter (fun y => y != x) = xs := by
  induction xs with
  | nil => simp [insertNat]
  | cons y ys ih =>
    have hy : x ≠ y := fun e => h (e ▸ List.mem_cons_self)
    have hys : x ∉ ys := fun m => h (List.mem_cons_of_mem _ m)
    have keep : ys.filter (fun z => z != x) = ys :=
      List.filter_eq_self.mpr (fun z hz => by
        simp only [bne_iff_ne]; exact fun e => hys (e ▸ hz))
    unfold insertNat
    split
    · simp [hy.symm, keep]
    · simp [hy.symm, ih hys]

/-! ## Slots and banks -/

section
variable (s : State)

@[simp] theorem slot_setSlot (i : SlotId) (x : Slot) : (s.setSlot i x).slot i = x := by
  simp [State.slot]

theorem slot_setSlot_ne (i j : SlotId) (x : Slot) (h : i ≠ j) : (s.setSlot i x).slot j = s.slot j := by
  simp only [State.slot, State.setSlot_absorb]
  exact Vector.getElem_set_ne _ _ (fun e => h (Fin.ext e))

@[simp] theorem bank_setBank (b : BankId) (x : Bank) : (s.setBank b x).bank b = x := by
  simp [State.bank]

theorem bank_setBank_ne (b c : BankId) (x : Bank) (h : b ≠ c) : (s.setBank b x).bank c = s.bank c := by
  simp only [State.bank, State.setBank_sched]
  exact Vector.getElem_set_ne _ _ (fun e => h (Fin.ext e))

@[simp] theorem setBank_setBank (b : BankId) (x y : Bank) : (s.setBank b x).setBank b y = s.setBank b y := by
  simp [State.setBank]

@[simp] theorem setSlot_setSlot (i : SlotId) (x y : Slot) : (s.setSlot i x).setSlot i y = s.setSlot i y := by
  simp [State.setSlot]

@[simp] theorem slot_setBank (b : BankId) (x : Bank) (i : SlotId) : (s.setBank b x).slot i = s.slot i := rfl

@[simp] theorem bank_setSlot (i : SlotId) (x : Slot) (b : BankId) : (s.setSlot i x).bank b = s.bank b := rfl

/-! ## Merging -/

/-- What a merge does to a slot that is not OPEN. -/
theorem mergeInto_of_not_opened (i : SlotId) (offset : Nat) (data : List Byte)
    (h : (s.slot i).state ≠ .opened) :
    s.mergeInto i offset data = s.setSlot i { s.slot i with
      image := (s.slot i).image.merge offset data, lastMerge := s.now } := by
  simp [State.mergeInto, h]

/-- What a merge does to an OPEN slot that does not become full. -/
theorem mergeInto_of_not_full (i : SlotId) (offset : Nat) (data : List Byte)
    (h : (s.slot i).state = .opened) (hf : ((s.slot i).image.merge offset data).full = false) :
    s.mergeInto i offset data = s.setSlot i { s.slot i with
      image := (s.slot i).image.merge offset data, lastMerge := s.now,
      closeTimer := s.freshCloseTimer } := by
  simp [State.mergeInto, h, hf]

/-- What a merge does to an OPEN slot that becomes full. -/
theorem mergeInto_of_full (i : SlotId) (offset : Nat) (data : List Byte)
    (h : (s.slot i).state = .opened) (hf : ((s.slot i).image.merge offset data).full = true) :
    s.mergeInto i offset data = (s.setSlot i { s.slot i with
      image := (s.slot i).image.merge offset data, lastMerge := s.now,
      closeTimer := s.freshCloseTimer }).closeSlot i := by
  simp [State.mergeInto, h, hf]

/-! ## A metadata program that failed -/

/-- Outside a drain no SHUTDOWN waits behind the program in hand. -/
theorem shutdownListed_of_not_draining (h : s.control.state ≠ .draining) : s.shutdownListed = false := by
  simp [State.shutdownListed, h]

/-- Beyond RETRY_LIMIT, with no SHUTDOWN listed, the writer gives up. -/
theorem metaFailed_of_beyond (p : WriterProgram) (h : s.shutdownListed = false)
    (hr : s.engine.profile.retryLimit < p.attempts + 1) : s.metaFailed p = s.giveUp p.page := by
  simp [State.metaFailed, h, hr]

/-- With a SHUTDOWN listed behind it, a failed program is dropped and the next append begins. -/
theorem metaFailed_of_listed (p : WriterProgram) (h : s.shutdownListed = true) :
    s.metaFailed p = (s.dropProgram false).kick := by
  simp [State.metaFailed, h]

/-! ## The requests of the Remap Unit -/

/-- A request joins a writer that has not stopped at the end of its list. -/
theorem joinRequest_of_working (r : Request) (h : s.writer.state ≠ .stopped) :
    s.joinRequest r = { s with writer := { s.writer with list := s.writer.list ++ [r] } } := by
  simp [State.joinRequest, h]

/-- With room and no retirement unrecorded, a request that is made is handed at once. -/
theorem handOwn_of_room (kind : RequestKind) (h : s.remap.held = []) (hu : s.remap.unrecorded = [])
    (hl : s.writer.list.length < 8) : s.handOwn kind = s.joinRequest (Request.of kind) := by
  have room : ¬ 8 ≤ s.writer.list.length := Nat.not_le.mpr hl
  simp [State.handOwn, State.handRequest, State.handRetirements, h, hu, room]

/-- Without room, a request that is made is held, and the unrecorded retirements wait for it. -/
theorem handOwn_of_full (kind : RequestKind) (hl : 8 ≤ s.writer.list.length) :
    s.handOwn kind = { s with remap := { s.remap with held := s.remap.held ++ [Request.of kind] } } := by
  have wait : State.handRetirements s.remap.unrecorded.length s = s := by
    cases s.remap.unrecorded.length <;> simp [State.handRetirements, hl]
  simp [State.handOwn, State.handRequest, wait, hl]

/-- A held request with no retirement unrecorded leaves those held and joins. -/
theorem handHeld_of_recorded (r : Request) (h : s.remap.unrecorded = []) :
    s.handHeld r = ({ s with remap := { s.remap with held := s.remap.held.drop 1 } }).joinRequest r := by
  simp [State.handHeld, h]

/-- Unrecorded retirements go ahead of the held request. -/
theorem handHeld_of_unrecorded (r : Request) (h : s.remap.unrecorded ≠ []) :
    s.handHeld r = s.handRetirement := by
  simp [State.handHeld, h]

/-! ## The beginning of an append and the end of a drain -/

/-- A writer that is kicked begins an append, or nothing changes. -/
theorem kick_cases : s.kick = s ∨ (s.writer.state = .idle ∧ s.writer.list ≠ [] ∧ s.sched.pendingMeta = none
    ∧ s.drainOver = false ∧ s.kick = s.startAppend) := by
  unfold State.kick
  split
  · next h => exact .inr ⟨h.1, h.2.1, h.2.2.1, h.2.2.2.2, rfl⟩
  · exact .inl rfl

theorem kick_of_empty (h : s.writer.list = []) : s.kick = s := by simp [State.kick, h]

/-- No append begins once the SHUTDOWN of a drain has been answered. -/
theorem kick_of_drainOver (h : s.drainOver = true) : s.kick = s := by simp [State.kick, h]

theorem drainOver_of_none (h : s.control.drain = none) : s.drainOver = false := by
  simp [State.drainOver, h]

/-- Without a drain no end point comes. -/
theorem endingDrain?_of_none (h : s.control.drain = none) : s.endingDrain? = none := by
  simp [State.endingDrain?, h]

/-- No end point has come that a state with nothing due has not answered for. -/
theorem endingDrain?_of_quiet (h : s.quiet = true) : s.endingDrain? = none := by
  simp only [State.quiet, Bool.and_eq_true] at h
  cases hd : s.control.drain with
  | none => exact endingDrain?_of_none s hd
  | some d =>
    rw [hd] at h
    cases hs : d.shutdown <;> simp_all [State.endingDrain?]

/-- The end point of a drain is judged: nothing changes, or the SHUTDOWN that is permitted there is handed. -/
theorem judgeEnd_cases : (s.endingDrain? = none ∧ s.judgeEnd = s)
    ∨ ∃ d, s.control.drain = some d ∧ d.shutdown = .notHanded ∧ d.recordPermitted = true ∧ s.drainAtEnd d = true
      ∧ s.judgeEnd = (s.markHanded d).handShutdown (s.shutdownRequest d) := by
  unfold State.judgeEnd
  split
  · next d h =>
    obtain ⟨hd, hp⟩ := Option.filter_eq_some_iff.mp h
    simp only [Bool.and_eq_true, beq_iff_eq] at hp
    exact .inr ⟨d, hd, hp.1.1, hp.1.2, hp.2, rfl⟩
  · next h => exact .inl ⟨h, rfl⟩

theorem judgeEnd_of_none (h : s.endingDrain? = none) : s.judgeEnd = s := by simp [State.judgeEnd, h]

theorem judgeEndListing_of_none (h : s.endingDrain? = none) : s.judgeEndListing = s := by
  simp [State.judgeEndListing, h]

/-- An append that refuses no request takes its records at once. -/
theorem startAppend_of_room (h : s.appendPlan.refused = []) : s.startAppend = s.takeAppend := by
  simp [State.startAppend, h]

/-- Where nothing waits, nothing is answered. -/
theorem answerWaiting_of_none (refused : Bool) (h : s.remap.held = []) (hr : s.region.held = none) :
    s.answerWaiting refused [] = s := by
  have remap : ({ s.remap with held := [] } : RemapUnit) = s.remap := by rw [← h]
  have region : ({ s.region with held := none } : RegionUnit) = s.region := by rw [← hr]
  simp only [State.answerWaiting, remap, region, h, hr, Option.toList_none, List.append_nil, answerRequests]

/-- Where no request is a directive's, the entry to DORMANT or FAULTED answers none, and every request stays. -/
theorem answerHolder_of_none (h : ∀ r ∈ s.writer.list ++ s.remap.held, r.holdsEngine = false)
    (hr : s.region.held = none) : s.answerHolder = s := by
  have list : s.writer.list.filter (fun r => !r.holdsEngine) = s.writer.list :=
    List.filter_eq_self.mpr fun r m => by simp [h r (List.mem_append_left _ m)]
  have held : s.remap.held.filter (fun r => !r.holdsEngine) = s.remap.held :=
    List.filter_eq_self.mpr fun r m => by simp [h r (List.mem_append_right _ m)]
  have mine : (s.writer.list ++ s.remap.held).filter Request.holdsEngine = [] :=
    List.filter_eq_nil_iff.mpr fun r m => by simp [h r m]
  have region : ({ s.region with held := none } : RegionUnit) = s.region := by rw [← hr]
  simp only [State.answerHolder, list, held, mine, region, hr, Option.toList_none, List.append_nil, answerRequests]

/-- The one request that a RANGE_APPLY holds is answered as that of a directive that failed. -/
theorem answerHolder_of_region (c : RegionChange)
    (h : ∀ r ∈ s.writer.list ++ s.remap.held, r.holdsEngine = false)
    (hr : s.region.held = some { kind := .region c, taken := 0, void := false }) :
    s.answerHolder = State.directiveFailed { s with region := { s.region with held := none } } := by
  have list : s.writer.list.filter (fun r => !r.holdsEngine) = s.writer.list :=
    List.filter_eq_self.mpr fun r m => by simp [h r (List.mem_append_left _ m)]
  have held : s.remap.held.filter (fun r => !r.holdsEngine) = s.remap.held :=
    List.filter_eq_self.mpr fun r m => by simp [h r (List.mem_append_right _ m)]
  have mine : (s.writer.list ++ s.remap.held).filter Request.holdsEngine = [] :=
    List.filter_eq_nil_iff.mpr fun r m => by simp [h r m]
  simp [State.answerHolder, list, held, mine, hr, answerRequests, State.requestNotPersisted]

/-- The completions of all eight banks are named in stage 1, with or without a geometry. -/
theorem namesBank_of_stage (up : Startup) (bank : Nat) (h : s.control.startup = some up)
    (hs : up.stage = .resetBanks) : s.namesBank bank = true := by
  simp [State.namesBank, State.stage?, h, hs]

/-! ## The end of a command -/

theorem judgeDrain_of_quiet (h : s.quiet = true) : s.judgeDrain = s := by
  have unjudged := judgeEnd_of_none s (endingDrain?_of_quiet s h)
  simp only [State.quiet, Bool.and_eq_true] at h
  simp only [State.judgeDrain, unjudged]
  cases hd : s.control.drain with
  | none => rfl
  | some d =>
    rw [hd] at h
    cases hs : d.shutdown <;> simp_all

theorem advanceStartup_of_quiet (h : s.quiet = true) : s.advanceStartup = s := by
  simp only [State.quiet, Bool.and_eq_true] at h
  have fmt : s.takeFormat = s := by
    unfold State.takeFormat
    split <;> simp_all
  unfold State.advanceStartup
  rw [fmt]
  unfold State.takeOpenSession
  split <;> simp_all

/-- A command that leaves nothing due ends with ALERT judged and no more. -/
theorem settle_of_quiet (h : s.quiet = true) : s.settle = s.judgeAlert := by
  unfold State.settle
  rw [judgeDrain_of_quiet s h, advanceStartup_of_quiet s h]

theorem act_true (t : State) (h : s.pins.resetAsserted = false) : s.act true t = t.settle := by
  simp [State.act, h]

theorem act_reset (o : Bool) (t : State) (h : s.pins.resetAsserted = true) : s.act o t = s := by
  simp [State.act, h]

theorem act_false (t : State) : s.act false t = s := by
  simp [State.act]

/-- Nothing is due in a state that agrees with one where nothing is, in what `quiet` reads. -/
theorem quiet_congr (t : State) (hc : t.control = s.control) (hs : t.slotsAtRest = s.slotsAtRest)
    (hb : ∀ b, (t.bank b).carriesData = (s.bank b).carriesData) (hw : t.writer.state = s.writer.state)
    (hg : t.geometry = s.geometry) : t.quiet = s.quiet := by
  have count : t.bankCount = s.bankCount := by simp [State.bankCount, hg]
  simp only [State.quiet, State.drainAtEnd, State.banksInUse, State.stage?, hc, hs, hb, hw, count]

/-- Nothing becomes due when one bank record changes and the bank carries a data program as before. -/
theorem quiet_of_bank (t : State) (b : BankId) (x : Bank) (hc : t.control = s.control)
    (hs : t.slotsAtRest = s.slotsAtRest) (hb : t.sched.banks = s.sched.banks.set b.val x)
    (hw : t.writer.state = s.writer.state) (hg : t.geometry = s.geometry)
    (hx : x.carriesData = (s.bank b).carriesData) : t.quiet = s.quiet := by
  refine quiet_congr s t hc hs (fun c => ?_) hw hg
  by_cases e : b = c
  · subst e; simp only [State.bank, hb, Vector.getElem_set_self]; exact hx
  · simp only [State.bank, hb]; rw [Vector.getElem_set_ne _ _ (fun e' => e (Fin.ext e'))]

/-- The slots are at rest as before when a slot that is not at rest is replaced by one that is not. -/
theorem slotsAtRest_of_slot (t : State) (i : SlotId) (x : Slot)
    (hs : t.absorb.slots = s.absorb.slots.set i.val x)
    (h1 : (s.slot i).state ≠ .free) (h2 : (s.slot i).state ≠ .stranded) (h3 : x.state ≠ .free)
    (h4 : x.state ≠ .stranded) : t.slotsAtRest = s.slotsAtRest := by
  have no : ∀ v : Vector Slot 32, v[i.val].state ≠ .free → v[i.val].state ≠ .stranded →
      v.toList.all (fun x => x.state == .free || x.state == .stranded) = false := by
    intro v hf hg
    rw [List.all_eq_false]
    exact ⟨v[i.val], by simp, by simp [hf, hg]⟩
  rw [State.slotsAtRest, State.slotsAtRest, no t.absorb.slots (by simpa [hs] using h3) (by simpa [hs] using h4),
    no s.absorb.slots h1 h2]

/-- A command that acts and changes nothing that could make anything due. -/
theorem act_settled (t : State) (h : s.ready = true) (hq : t.quiet = true) : s.act true t = t.judgeAlert := by
  simp only [State.ready, Bool.and_eq_true, Bool.not_eq_true'] at h
  rw [act_true s t h.1, settle_of_quiet t hq]

theorem ready_quiet (h : s.ready = true) : s.quiet = true := by
  simp only [State.ready, Bool.and_eq_true] at h; exact h.2

theorem ready_released (h : s.ready = true) : s.pins.resetAsserted = false := by
  simp only [State.ready, Bool.and_eq_true, Bool.not_eq_true'] at h; exact h.1

/-! ## Taking a request -/

theorem examineTag_fresh (lane : Lane) (tag : Nat) (f : State → State) (h : tag ∉ s.link.tags) :
    s.examineTag lane tag f = f { s with link := { s.link with tags := insertNat tag s.link.tags } } := by
  simp [State.examineTag, h]

theorem examineTag_clash (lane : Lane) (tag : Nat) (f : State → State) (h : tag ∈ s.link.tags) :
    s.examineTag lane tag f = (s.latch .tagClash).raise
      { kind := .tagClash, tag := some tag,
        operation := some (match lane with | .memory => 0 | .directive => 1) } := by
  cases lane <;> simp [State.examineTag, h]

theorem popMemory_eq : s.popMemory = { s with link := s.link.tookMemory [] } := rfl

theorem popDirective_eq : s.popDirective = { s with link := s.link.tookDirective [] } := rfl

theorem offersMemory_cases (r : MemRequest) (h : s.offersMemory r = true) :
    s.ready = true ∧ s.link.head = none ∧ (∃ rest, s.link.memLane = r :: rest) ∧ s.canTake = true
      ∧ r.tag ∉ s.link.tags := by
  simp only [State.offersMemory, Bool.and_eq_true, beq_iff_eq, Option.isNone_iff_eq_none, decide_eq_true_eq,
    Bool.not_eq_true', List.contains_eq_mem, decide_eq_false_iff_not] at h
  obtain ⟨⟨⟨⟨h1, h2⟩, h3⟩, h4⟩, h5⟩ := h
  refine ⟨h1, h2, ?_, by simp [State.canTake, ready_released s h1, h4], h5⟩
  cases hl : s.link.memLane with
  | nil => simp [hl] at h3
  | cons a l => simp only [hl, List.head?_cons, Option.some.injEq] at h3; exact ⟨l, by rw [h3]⟩

theorem offersDirective_cases (d : DirRequest) (h : s.offersDirective d = true) :
    s.ready = true ∧ s.engine.current = .absent ∧ (∃ rest, s.link.dirLane = d :: rest) ∧ s.canTake = true
      ∧ d.tag ∉ s.link.tags := by
  simp only [State.offersDirective, Bool.and_eq_true, beq_iff_eq, decide_eq_true_eq, Bool.not_eq_true',
    List.contains_eq_mem, decide_eq_false_iff_not] at h
  obtain ⟨⟨⟨⟨h1, h2⟩, h3⟩, h4⟩, h5⟩ := h
  refine ⟨h1, h2, ?_, by simp [State.canTake, ready_released s h1, h4], h5⟩
  cases hl : s.link.dirLane with
  | nil => simp [hl] at h3
  | cons a l => simp only [hl, List.head?_cons, Option.some.injEq] at h3; exact ⟨l, by rw [h3]⟩

/-- A read that may be taken is taken, judged and bound or answered, and the command ends. -/
theorem readTake_offered (r : ReadRequest) (h : s.offersMemory (.read r) = true) :
    execReadTake s = .next ((s.tookMemory r.tag).judgeRead r).settle := by
  obtain ⟨h1, h2, ⟨rest, h3⟩, h4, h5⟩ := offersMemory_cases s _ h
  have due : s.readDue? = some r := by simp [State.readDue?, h2, h3, h4]
  simp only [execReadTake, due, State.takeRead]
  rw [act_true _ _ (ready_released s h1), examineTag_fresh s.popMemory .memory r.tag _ h5]
  rfl

/-- A write that may be taken is taken, judged and absorbed or answered, and the command ends. -/
theorem writeTake_offered (w : WriteRequest) (h : s.offersMemory (.write w) = true) :
    execWriteTake s = .next ((s.tookMemory w.tag).judgeWrite w).settle := by
  obtain ⟨h1, h2, ⟨rest, h3⟩, h4, h5⟩ := offersMemory_cases s _ h
  have due : s.writeDue? = some w := by simp [State.writeDue?, h2, h3, h4]
  simp only [execWriteTake, due, State.takeWrite]
  rw [act_true _ _ (ready_released s h1), examineTag_fresh s.popMemory .memory w.tag _ h5]
  rfl

/-- A directive that may be taken is taken and judged, and the command ends. -/
theorem directive_offered (which : Directive) (body : DirRequest → State → State) (d : DirRequest)
    (h : s.offersDirective d = true) (hc : directiveOf? d.code = some which) :
    execDirective which body s
      = .next ((s.tookDirective d.tag).judgeDirective which d body).settle := by
  obtain ⟨h1, h2, ⟨rest, h3⟩, h4, h5⟩ := offersDirective_cases s _ h
  have due : s.dueAs? which = some d := by simp [State.dueAs?, State.directiveDue?, h2, h3, h4, hc]
  simp only [execDirective, due, State.takeDirective]
  rw [act_true _ _ (ready_released s h1), examineTag_fresh s.popDirective .directive d.tag _ h5]
  rfl

/-- The response to a request just taken frees its tag again. -/
theorem respond_tookMemory (tag : Nat) (p : Packet) (h : tag ∉ s.link.tags) :
    (s.tookMemory tag).respond tag p = { s with link := s.link.tookMemory [p] } := by
  simp [State.tookMemory, State.respond, State.push, HostLink.tookMemory, insertNat_filter _ _ h]

/-- The response to a directive just taken frees its tag and the engine again. -/
theorem answer_tookDirective (tag : Nat) (r : Result) (x : List Byte) (h : tag ∉ s.link.tags)
    (hc : s.engine.current = .absent) :
    (s.tookDirective tag).answerDirective tag r x
      = { s with link := s.link.tookDirective [.directiveDone tag r x] } := by
  have keep : ({ s.engine with current := .absent } : DirectiveEngine) = s.engine := by rw [← hc]
  simp [State.tookDirective, State.answerDirective, State.respond, State.push, HostLink.tookDirective,
    insertNat_filter _ _ h, keep]

/-- ALERT is as R159 gives once it has been judged. -/
theorem judgeAlert_alertOk : s.judgeAlert.alertOk = true := by
  simp [State.alertOk]
  rfl

end

end Sys2Proof.Machine
end

