-- ==== Sys2Proof/WellFormed.lean ====
section
/-!
DEFINITION. The check that a command is one the links can deliver. `exec` does not rest on it: every
command has its meaning, well formed or not.
-/

namespace Sys2Proof

/-- The least number of bytes a host packet of each kind holds: the 12-byte header of a READ or a
WRITE, the four bytes before a DIRECTIVE's payload, and the kind byte of any packet (R142). -/
def headerLength (kind : Byte) : Nat :=
  if kind = 0x01#8 then 12 else if kind = 0x02#8 then 12 else if kind = 0x03#8 then 4 else 1

/-- A host packet holds its whole header: the link delivers each packet whole (R142). -/
def packetWellFormed : List Byte → Bool
  | [] => false
  | kind :: rest => decide (headerLength kind ≤ rest.length + 1)

/-- A sequence tag is 0 to 15 (R176). The bank a completion names is left free: one that names no bank
of the array is discarded, not refused (R175). -/
def tagWellFormed (tag : Nat) : Bool := decide (tag < 16)

/-- Whether the links deliver the command in this form. A READ_DONE with other than 256 bytes is
delivered (it is taken as READ_FAIL, R175), and so is any IDENTIFY_DONE (its figures are checked, R178). -/
def WellFormed : Instr → Bool
  | .hostRequestArrival packet => packetWellFormed packet
  | .readDone _ tag _ => tagWellFormed tag
  | .programDone _ tag _ => tagWellFormed tag
  | .suspendAck _ tag _ => tagWellFormed tag
  | _ => true

end Sys2Proof
end

