-- ==== Sys2Proof/Tests/Slice0.lean ====
section
/-!
SUPPORT. Our own tests: the ill-formed commands that each check refuses, for every statement with hypotheses a
concrete state and operands that meet them (`witness_<statement>`), and small tests of single commands whose
expected values are the spec's (`test_<what>`).
-/

/- One test after another: tests that the kernel evaluates, all begun at once, ask for a thread each. -/
set_option Elab.async false

namespace Sys2Proof.Tests

open Sys2Proof Sys2Proof.Machine

/-! ## Well-formed commands -/

theorem test_empty_packet_refused : WellFormed (.hostRequestArrival []) = false := by decide

theorem test_short_read_packet_refused :
    WellFormed (.hostRequestArrival (0x01#8 :: List.replicate 10 0x00#8)) = false := by decide

theorem test_short_write_packet_refused :
    WellFormed (.hostRequestArrival (0x02#8 :: List.replicate 10 0x00#8)) = false := by decide

theorem test_short_directive_packet_refused :
    WellFormed (.hostRequestArrival [0x03#8, 0x00#8, 0x01#8]) = false := by decide

theorem test_read_done_tag_refused : WellFormed (.readDone 0 16 .readFail) = false := by decide

theorem test_program_done_tag_refused : WellFormed (.programDone 0 16 .ok) = false := by decide

theorem test_suspend_ack_tag_refused : WellFormed (.suspendAck 0 16 .suspended) = false := by decide

theorem test_whole_packets_accepted :
    WellFormed (.hostRequestArrival (0x01#8 :: List.replicate 11 0x00#8)) = true
      ∧ WellFormed (.hostRequestArrival [0x03#8, 0x00#8, 0x01#8, 0x00#8]) = true
      ∧ WellFormed (.readDone 0 15 .readFail) = true := by decide

/-- No row of the table gives bits, so no word spells a command. -/
theorem test_no_word_spells_a_command : decodeTableWord 8 0 = none ∧ decodeTableWord 32 1 = none := by decide

/-! ## States to begin from -/

/-- The geometry of the spec's examples: 4 banks of 65,536 pages with 32 spares each. -/
def geo : Geometry := { banks := 4, pages := 65536, spares := 32 }

/-- A bank record after stage 1. -/
def restingBank : Bank := { Bank.afterReset with presence := .present }

/-- The bridge in RUNNING, nothing in hand, with spares 0 to 4 free in each bank. -/
def running : State :=
  { State.reset with
    link := { State.reset.link with memCredits := 16, dirCredits := 4 },
    sched := { banks := Vector.replicate 8 restingBank, pendingMeta := none },
    remap := { RemapUnit.afterReset with
      free := Vector.replicate 8 ((List.range 5).map (fun k => { index := k, claim := none })),
      derived := true },
    writer := { Writer.afterReset with
      state := .idle, generation := 1, used := 20, buffer := List.replicate 16 Record.blank },
    control := { State.reset.control with state := .running, session := 1#32 },
    geometry := some geo,
    pins := { State.reset.pins with resetAsserted := false }, now := 1000 }

/-- A state with a slot in the list of its page and counted in its epoch. -/
def placed (s : State) (i : SlotId) (x : Slot) : State :=
  { (s.setSlot i x).changeDir x.page (fun e => { e with slots := e.slots ++ [i] }) with
    tracker := { s.tracker with
      epochs := s.tracker.epochs.map (fun e =>
        if e.fence = x.epoch then { e with outstanding := e.outstanding + 1 } else e) } }

/-- Two bytes at offsets 16 and 17. -/
def someBytes : Image := Image.blank.merge 16 [0xAA#8, 0xBB#8]

/-- A full image. -/
def allBytes : Image := Image.blank.merge 0 (List.replicate 256 0x11#8)

/-- A slot of page 9, whose bank is bank 1, in epoch 1. -/
def slotIn (state : SlotState) (image : Image) : Slot :=
  { Slot.unused with state := state, page := 9, epoch := 1, image := image, age := 1 }

/-- A state with another bridge state. -/
def inState (s : State) (state : BridgeState) : State :=
  { s with control := { s.control with state := state } }

/-- A state with one request in the memory lane. -/
def offering (s : State) (r : MemRequest) : State :=
  { s with link := { s.link with memLane := [r], memCredits := 15 } }

/-- A state with one directive in its lane. -/
def directed (s : State) (d : DirRequest) : State :=
  { s with link := { s.link with dirLane := [d], dirCredits := 3 } }

/-- A directive request with a payload of the length its byte gives. -/
def dir (code : Byte) (payload : List Byte) : DirRequest :=
  { tag := 7, code := code, payloadLength := payload.length, payload := payload }

/-- A read of page 9. -/
def readOf (offset length : Nat) : ReadRequest :=
  { tag := 5, length := length, address := 256 * 9 + offset, extra := 0 }

/-- A write of two bytes at offset 16 of a page. -/
def writeTo (page : Nat) : WriteRequest :=
  { tag := 5, length := 2, fence := false, notify := false, address := 256 * page + 16,
    data := [0xC1#8, 0xC2#8] }

/-- A state with a bank record changed. -/
def banked (s : State) (b : BankId) (f : Bank → Bank) : State := s.setBank b (f (s.bank b))

/-- A response queue of more than 24 packets. -/
def crowded : State :=
  { running with link := { running.link with responses := List.replicate 25 (.credit .memory false 1) } }

/-- A drain that has not handed its SHUTDOWN. -/
def drainOf (kind : DrainKind) : Drain :=
  { kind := kind, budget := none, count := 0, recordPermitted := true, shutdown := .notHanded }

/-- A drain that waits for the answer to its SHUTDOWN. -/
def draining (kind : DrainKind) : State :=
  { inState running .draining with
    control := { (inState running .draining).control with
      drain := some { drainOf kind with shutdown := .handed } } }

/-- STARTING, at a stage. -/
def startingAt (stage : Stage) : State :=
  { inState running .starting with
    control := { (inState running .starting).control with
      startup := some { stage := stage, stopAsked := false }, session := 0#32 } }

/-! ## The machine, resets and POWER_WARN -/

theorem witness_StepCarriesOutTheFrontCommand : State.reset.pending = [] := by decide +kernel

theorem witness_ReleaseOfResetBeginsStageOne :
    State.reset.pins.resetAsserted = true ∧ State.reset.control.drain = none
      ∧ (∀ b, State.reset.bank b = Bank.afterReset) ∧ running.pins.resetAsserted = false := by decide +kernel

theorem witness_NothingIsTakenUnderResetOrBackPressure :
    (State.reset.pins.resetAsserted = true ∧ Instr.packetSend.drivesLine = false)
      ∧ 24 < crowded.link.responses.length ∧ Instr.flush.directive?.isSome = true := by decide +kernel

/-- The SHUTDOWN of a drain as a request. -/
def shutdownRequest : Request := { kind := .shutdown 1#32 .restart 0 0, taken := 0, void := false }

/-- A log page program in flight in bank 1, which carries requests. -/
def carryingLog (s : State) (used attempts : Nat) (carried : List Carried) : State :=
  { banked s 1 (fun k => { k with
      monitor := .programming, program := .metadata, programTimer := .running 6000, sequence := 3,
      programTag := 3, awaited := [.programDone 3] }) with
    writer := { s.writer with
      state := .appending, used := used,
      program := some { page := used / 16, image := List.replicate 16 Record.blank, records := 1,
                        carried := carried, attempts := attempts } } }

/-- A RESTART drain whose SHUTDOWN is in flight. -/
def shuttingDown : State :=
  carryingLog (draining .restart) 20 0 [{ request := shutdownRequest, complete := true }]

theorem witness_PowerWarnOutsideADrain :
    (∀ s ∈ [draining .restart, shuttingDown],
      s.ready = true ∧ s.pins.powerWarn = false ∧ s.control.state = .draining
        ∧ s.control.drain = some { drainOf .restart with shutdown := .handed }
        ∧ 8 ≤ s.engine.profile.drainBudget)
    ∧ ((inState running .dormant).ready = true ∧ (inState running .faulted).ready = true
      ∧ (draining .power).ready = true ∧ running.pins.powerWarn = false
      ∧ (draining .power).control.drain = some { drainOf .power with shutdown := .handed })
    ∧ (startingAt .identify).ready = true ∧ (startingAt .identify).pins.powerWarn = false
      ∧ (startingAt .identify).control.state = .starting
      ∧ (startingAt .identify).control.startup = some { stage := .identify, stopAsked := false } := by
  decide +kernel

/-- The program of slot 0 in flight in bank 1. -/
def programmingIn (s : State) : State :=
  banked s 1 (fun k => { k with
    monitor := .programming, program := .data 0 .inFlight, programTimer := .running 6000, sequence := 3,
    programTag := 3, awaited := [.programDone 3] })

/-- A slot whose program is in flight, in bank 1. -/
def programming : State :=
  programmingIn (placed running 0 { slotIn .programming allBytes with target := some .own })

/-- What a state must meet for every drain to begin. -/
theorem witness_DrainBegins :
    (∀ s ∈ [programming, inState running .degraded, directed programming (dir 0x30#8 [])],
      s.ready = true ∧ (∀ i, (s.slot i).state ≠ .opened) ∧ s.region.staging = .empty
        ∧ s.region.walker = none ∧ s.link.head = none ∧ s.writer.state ≠ .compacting
        ∧ (∀ b, (s.bank b).noneWaits = true) ∧ s.sched.pendingMeta = none)
    ∧ (programming.pins.powerWarn = false ∧ programming.control.state = .running
      ∧ programming.slotsAtRest = false ∧ 8 ≤ programming.engine.profile.drainBudget)
    ∧ ((inState running .degraded).slotsAtRest = true ∧ (inState running .degraded).control.state = .degraded
      ∧ running.writer.list = [] ∧ running.remap.held = [] ∧ running.region.held = none)
    ∧ (directed programming (dir 0x30#8 [])).offersDirective (dir 0x30#8 []) = true
      ∧ (directed programming (dir 0x30#8 [])).slotsAtRest = false := by decide +kernel

/-- Slots at rest, one of them STRANDED, with an IDLE writer whose half has one free position, or many. -/
theorem witness_DrainBegins_shutdown :
    ∀ used ∈ [20, 1023],
      let s := { placed running 3 (slotIn .stranded allBytes) with writer := { running.writer with used := used } }
      let b : BankId := if used = 20 then 1 else 3
      s.ready = true ∧ (∀ i, (s.slot i).state ≠ .opened) ∧ s.region.staging = .empty ∧ s.region.walker = none
        ∧ s.link.head = none ∧ s.writer.state ≠ .compacting ∧ (∀ k, (s.bank k).noneWaits = true)
        ∧ s.sched.pendingMeta = none ∧ s.pins.powerWarn = false ∧ s.control.state = .running
        ∧ s.slotsAtRest = true ∧ s.writer.state = .idle ∧ s.writer.list = [] ∧ s.writer.program = none
        ∧ s.writer.used < 1024 ∧ s.geometry = some geo
        ∧ b.val = (64 * s.writer.activeHalf + s.writer.used / 16) % geo.banks ∧ (s.bank b).monitor = .idle
        ∧ (s.bank b).presence ≠ .absent ∧ (∀ k, (s.bank k).program ≠ .metadata)
        ∧ 8 ≤ s.engine.profile.drainBudget
        ∧ (directed s (dir 0x30#8 [])).offersDirective (dir 0x30#8 []) = true := by decide +kernel

/-! ## The Host Link -/

theorem witness_RequestPacketsAreReadByTheirLayouts :
    63 < 64 ∧ 255 < 256 ∧ 2 ^ 36 - 1 < 2 ^ 36
      ∧ (0x04#8 ≠ 0x01#8 ∧ 0x04#8 ≠ 0x02#8 ∧ 0x04#8 ≠ 0x03#8) := by decide

/-- A READ packet for 64 bytes of page 9. -/
def readPacket : List Byte :=
  [0x01#8, 0x05#8, 0x40#8, 0x00#8, 0x00#8, 0x09#8, 0x00#8, 0x00#8, 0x00#8, 0x00#8, 0x00#8, 0x00#8]

/-- A FLUSH packet. -/
def flushPacket : List Byte := [0x03#8, 0x07#8, 0x01#8, 0x00#8]

theorem witness_ArrivalsJoinTheEndOfTheirLane :
    running.ready = true ∧ parsePacket readPacket = .memory (.read (readOf 0 64))
      ∧ parsePacket flushPacket = .directive (dir 0x01#8 [])
      ∧ running.link.memLane.length < 16 ∧ running.link.dirLane.length < 4 := by decide +kernel

/-- Both lanes full. -/
def fullLanes : State :=
  { running with link := { running.link with
      memLane := List.replicate 16 (.read (readOf 0 64)), dirLane := List.replicate 4 (dir 0x01#8 []),
      memCredits := 0, dirCredits := 0 } }

theorem witness_OverrunDiscardsTheArrival :
    fullLanes.ready = true ∧ parsePacket readPacket = .memory (.read (readOf 0 64))
      ∧ 16 ≤ fullLanes.link.memLane.length ∧ parsePacket flushPacket = .directive (dir 0x01#8 [])
      ∧ 4 ≤ fullLanes.link.dirLane.length ∧ running.ready = true
      ∧ (0x00#8 ≠ 0x01#8 ∧ 0x00#8 ≠ 0x02#8 ∧ 0x00#8 ≠ 0x03#8) := by decide +kernel

/-- Tags 5 and 7 outstanding, with 15 or 16 incidents. -/
def clashing (s : State) (incidents : Nat) : State :=
  { s with
    link := { s.link with tags := [5, 7] },
    engine := { s.engine with incidents := List.replicate incidents { kind := .readFailed } } }

theorem witness_ClashingTagDiscardsTheRequest :
    (∀ n ∈ [15, 16], ∀ r ∈ [MemRequest.read (readOf 0 64), .write (writeTo 9)],
      (clashing (offering running r) n).ready = true
        ∧ (clashing (offering running r) n).link.responses.length ≤ 24
        ∧ (clashing (offering running r) n).link.head = none
        ∧ (clashing (offering running r) n).link.memLane = [r]
        ∧ r.tag ∈ (clashing (offering running r) n).link.tags)
    ∧ (clashing (directed running (dir 0x01#8 [])) 16).ready = true
      ∧ (clashing (directed running (dir 0x01#8 [])) 16).engine.current = .absent
      ∧ (clashing (directed running (dir 0x01#8 [])) 16).link.dirLane = [dir 0x01#8 []]
      ∧ (dir 0x01#8 []).tag ∈ (clashing (directed running (dir 0x01#8 [])) 16).link.tags
      ∧ Instr.flush.directive?.isSome = true
      ∧ directiveOf? (dir 0x01#8 []).code = Instr.flush.directive? := by decide +kernel

theorem witness_PacketsLeaveInTheOrderGenerated :
    crowded.ready = true
      ∧ crowded.link.responses = .credit .memory false 1 :: List.replicate 24 (.credit .memory false 1) := by
  decide +kernel

theorem witness_SentPacketsFollowTheirLayouts :
    63 < 64 ∧ (List.replicate 255 0x11#8).length < 256 ∧ 65535 < 65536 ∧ 2 ^ 32 - 1 < 2 ^ 32 ∧ 255 < 256 := by
  decide +kernel

/-! ## Reads -/

theorem witness_ReadsAreJudgedInOrder :
    ∀ r ∈ [readOf 0 0, readOf 0 64, readOf 0 65, readOf 63 1, readOf 63 2, readOf (256 * 261879) 1],
      (offering running (.read r)).offersMemory (.read r) = true := by decide +kernel

/-- A page with an OPEN slot that holds offsets 16 and 17. -/
def opened : State :=
  placed running 0 { slotIn .opened someBytes with lastMerge := 900, closeTimer := .running 1100 }

/-- The page of a state is lost. -/
def lost (s : State) : State := { s with remap := { s.remap with lost := [9] } }

theorem witness_ReadsTakeTheNewestSlotBytes :
    (offering (lost opened) (.read (readOf 16 2))).offersMemory (.read (readOf 16 2)) = true
      ∧ (readOf 16 2).address % 64 + (readOf 16 2).length ≤ 64
      ∧ (readOf 16 2).address < 256 * (offering (lost opened) (.read (readOf 16 2))).capacityPages
      ∧ (∀ k < 2, (offering (lost opened) (.read (readOf 16 2))).newestByte? 9 (16 + k)
          = [0xAA#8, 0xBB#8][k]?)
      ∧ (offering (lost opened) (.read (readOf 17 2))).offersMemory (.read (readOf 17 2)) = true
      ∧ (offering (lost opened) (.read (readOf 17 2))).newestByte? 9 18 = none
      ∧ 9 ∈ (offering (lost opened) (.read (readOf 17 2))).remap.lost := by decide +kernel

/-- Bank 1 reading for another owner. -/
def bankReading (s : State) : State :=
  banked s 1 (fun k => { k with
    monitor := .reading, read := some { index := 3, owner := .host 40, retried := false },
    readTimer := .running 1050, sequence := 9, readTag := 9, awaited := [.readDone 9] })

/-- A read of page 13, whose bank is bank 1, while another page of the bank programs. -/
def readBehind : ReadRequest := { readOf 17 2 with address := 256 * 13 + 17 }

/-- A slot whose program is in flight, in bank 1, with a number of suspensions. -/
def programmingAfter (suspends : Nat) : State :=
  programmingIn (placed running 0
    { slotIn .programming allBytes with target := some .own, suspends := suspends })

theorem witness_ArrayReadIsRecordedPinnedAndQueued :
    (∀ x ∈ [(bankReading opened, readOf 17 2, 9), (opened, readOf 17 2, 9),
        (programmingAfter 1, readBehind, 13), (programmingAfter 2, readBehind, 13)],
      let s := offering x.1 (.read x.2.1)
      s.offersMemory (.read x.2.1) = true ∧ x.2.1.address % 64 + x.2.1.length ≤ 64 ∧ s.geometry = some geo
        ∧ x.2.1.address < 256 * (geo.banks * geo.pages - geo.banks * geo.spares - 128)
        ∧ s.control.state = .running ∧ (1 < 2 ∧ s.newestByte? x.2.2 (17 + 1) = none)
        ∧ x.2.2 = x.2.1.address / 256 ∧ x.2.2 ∉ s.remap.lost ∧ (1 : BankId).val = x.2.2 % geo.banks)
    ∧ ((bankReading opened).bank 1).monitor = .reading
    ∧ ((opened.bank 1).monitor = .idle ∧ (opened.bank 1).presence ≠ .absent
      ∧ (opened.bank 1).noneWaits = true ∧ opened.sched.pendingMeta = none)
    ∧ (((programmingAfter 1).bank 1).monitor = .programming
      ∧ ((programmingAfter 1).bank 1).program = .data 0 .inFlight
      ∧ ((programmingAfter 1).slot 0).suspends < running.engine.profile.suspendBudget
      ∧ running.engine.profile.suspendBudget ≤ ((programmingAfter 2).slot 0).suspends) := by decide +kernel

/-- A read of offsets 17 and 18 of page 9, whose first byte was copied from a slot. -/
def boundRead : ReadRecord :=
  { tag := 5, page := 9, first := 17, length := 2, data := [some 0xBB#8, none], bank := 1, index := 2 }

/-- Bank 1 reading for a record. -/
def arrayReading : State :=
  banked { running with
      reads := [boundRead],
      link := { running.link with tags := [5] },
      absorb := { running.absorb with directory := [{ page := 9, slots := [], pins := 1 }] } }
    1 (fun k => { k with
      monitor := .reading, read := some { index := 2, owner := .host 5, retried := false },
      readTimer := .running 1050, sequence := 9, readTag := 9, awaited := [.readDone 9] })

theorem witness_HostReadCompletesWithTheArrayBytes :
    arrayReading.ready = true ∧ (1 : BankId).val < arrayReading.bankCount
      ∧ (arrayReading.bank 1).monitor = .reading ∧ (arrayReading.bank 1).awaited = [.readDone 9]
      ∧ (arrayReading.bank 1).read = some { index := 2, owner := .host boundRead.tag, retried := false }
      ∧ arrayReading.record? boundRead.tag = some boundRead ∧ arrayReading.bankOfPage boundRead.page = 1
      ∧ (List.replicate 256 0x5A#8).length = 256 ∧ (arrayReading.bank 1).noneWaits = true
      ∧ arrayReading.sched.pendingMeta = none := by decide +kernel

/-- A read job of a state's record, with its retry mark. -/
def hostJob (retried : Bool) : ReadJob := { index := 2, owner := .host 5, retried := retried }

theorem witness_ReadJobIsRetriedOnce :
    (∀ retried ∈ [false, true],
      let s := banked arrayReading 1 (fun k => { k with read := some (hostJob retried) })
      s.ready = true ∧ (s.bank 1).monitor = .reading ∧ (s.bank 1).read = some (hostJob retried)
        ∧ (s.bank 1).program = .absent ∧ (s.bank 1).readTimer = .running 1050
        ∧ s.engine.incidents.length < 16)
    ∧ (1 : BankId).val < arrayReading.bankCount ∧ (arrayReading.bank 1).awaited = [.readDone 9]
      ∧ (arrayReading.bank 1).presence ≠ .absent ∧ (List.replicate 255 0x5A#8).length ≠ 256
    ∧ ((hostJob true).owner = .host boundRead.tag ∧ arrayReading.record? boundRead.tag = some boundRead
      ∧ arrayReading.bankOfPage boundRead.page = 1 ∧ (arrayReading.bank 1).noneWaits = true
      ∧ arrayReading.sched.pendingMeta = none) := by decide +kernel

/-- Bank 1 reading for the fill of slot 0. -/
def fillingFrom (s : State) (retried : Bool) : State :=
  banked (placed s 0 (slotIn .filling someBytes)) 1 (fun k => { k with
    monitor := .reading, read := some { index := 2, owner := .fill 0, retried := retried },
    readTimer := .running 1050, sequence := 9, readTag := 9, awaited := [.readDone 9] })

/-- Epoch 1 is not the head. -/
def laterEpoch : State :=
  { running with tracker :=
      { epochs := [{ fence := 65535, state := .closed, outstanding := 1, lossy := false, notify := false },
                   { fence := 1, state := .opened, outstanding := 0, lossy := false, notify := false }],
        fenceCounter := 65535, lastPersisted := 0 } }

theorem witness_FillCompletesTheImage :
    (∀ x ∈ [(laterEpoch, true), (running, false)],
      let s := fillingFrom x.1 x.2
      s.ready = true ∧ (1 : BankId).val < s.bankCount ∧ (s.bank 1).monitor = .reading
        ∧ (s.bank 1).awaited = [.readDone 9]
        ∧ (s.bank 1).read = some { index := 2, owner := .fill 0, retried := x.2 }
        ∧ (s.slot 0).state = .filling ∧ (List.replicate 256 0x5A#8).length = 256
        ∧ (s.bank 1).noneWaits = true ∧ s.sched.pendingMeta = none ∧ s.engine.incidents.length < 16)
    ∧ (fillingFrom laterEpoch true).headFence? ≠ some ((fillingFrom laterEpoch true).slot 0).epoch
    ∧ (let s := fillingFrom running false
       s.headFence? = some (s.slot 0).epoch ∧ s.geometry = some geo
        ∧ (1 : BankId).val = (s.slot 0).page % geo.banks ∧ s.control.state = .running
        ∧ s.control.drain = none ∧ (s.bank 1).presence ≠ .absent ∧ s.slotList (s.slot 0).page = [0]
        ∧ s.pinCount (s.slot 0).page = 0 ∧ (s.slot 0).target = none) := by decide +kernel

theorem witness_MergesOverwriteAndFillsDoNot :
    254 + [0xAA#8, 0xBB#8].length ≤ 256 ∧ (List.replicate 256 0x5A#8).length = 256 := by decide +kernel

/-! ## Writes and fences -/

/-- Pages 9 to 20 are guarded. -/
def guarded (s : State) : State :=
  { s with region := { s.region with table := [{ first := 9, last := 20, attr := .guarded }] } }

/-- Writes at the edges of each check: length, notify without fence, the 64 bytes, the last page, a region. -/
theorem witness_WritesAreJudgedInOrder :
    ∀ w ∈ [writeTo 9, { writeTo 9 with length := 1 }, { writeTo 9 with length := 65 },
        { writeTo 9 with notify := true }, { writeTo 9 with address := 62 }, { writeTo 9 with address := 63 },
        writeTo 8, writeTo 20, writeTo 21, writeTo 261888],
      (offering (guarded running) (.write w)).offersMemory (.write w) = true := by decide +kernel

/-- A page with a QUEUED slot of the current epoch, behind a STRANDED one. -/
def queuedBehind : State :=
  placed (placed running 0 { slotIn .stranded allBytes with epoch := 65535 }) 1 (slotIn .queued allBytes)

/-- Every byte but those at offsets 16 and 17. -/
def allButTwo : Image := (Image.blank.merge 0 (List.replicate 16 0x11#8)).merge 18 (List.replicate 238 0x11#8)

/-- An OPEN slot 1 of page 9, of an epoch that is not the head, behind another slot of the page. -/
def openBehind (older : SlotState) (image : Image) : State :=
  placed (placed laterEpoch 0 { slotIn older allBytes with epoch := 65535 })
    1 { slotIn .opened image with closeTimer := .running 1200 }

/-- A list of seven entries, with a QUEUED slot in its last epoch. -/
def queuedLast : State :=
  placed { running with tracker := {
      epochs := (List.range 6).map (fun k =>
          { fence := k + 1, state := .closed, outstanding := 1, lossy := false, notify := false })
        ++ [{ fence := 7, state := .opened, outstanding := 0, lossy := false, notify := false }],
      fenceCounter := 6, lastPersisted := 0 } } 1 { slotIn .queued allBytes with epoch := 7 }

theorem witness_WriteMergesIntoItsSlot :
    (∀ x ∈ [(opened, (0 : SlotId)), (queuedBehind, 1), (openBehind .stranded allButTwo, 1),
        (openBehind .programming allButTwo, 1)],
      let s := offering x.1 (.write (writeTo 9))
      s.offersMemory (.write (writeTo 9)) = true ∧ s.acceptable (writeTo 9) = true
        ∧ s.unprotected 9 = true ∧ s.soleEligible 9 x.2 = true)
    ∧ ((opened.slot 0).state = .opened ∧ ((opened.slot 0).image.merge 16 [0xC1#8, 0xC2#8]).full = false)
    ∧ (queuedBehind.slot 1).state ≠ .opened
    ∧ (∀ older ∈ [SlotState.stranded, .programming],
      let s := openBehind older allButTwo
      (s.slot 1).state = .opened ∧ ((s.slot 1).image.merge 16 [0xC1#8, 0xC2#8]).full = true
        ∧ (s.slot 1).page = 9 ∧ s.slotList 9 = [0] ++ 1 :: [] ∧ s.headFence? ≠ some (s.slot 1).epoch)
    ∧ ∀ notify : Bool,
      let w : WriteRequest := { writeTo 9 with fence := true, notify := notify }
      let s := offering queuedLast (.write w)
      s.offersMemory (.write w) = true ∧ s.acceptable w = true ∧ s.unprotected 9 = true
        ∧ s.soleEligible 9 1 = true ∧ (∀ j, (s.slot j).state ≠ .opened) ∧ s.tracker.epochs.length = 7
        ∧ s.tracker.epochs.head?.map Epoch.outstanding = some 1 := by decide +kernel

theorem witness_WriteOpensTheLowestFreeSlot :
    let s := offering queuedBehind (.write (writeTo 10))
    s.offersMemory (.write (writeTo 10)) = true ∧ s.acceptable (writeTo 10) = true
      ∧ s.unprotected 10 = true ∧ s.noneEligible 10 = true ∧ (s.slot 2).state = .free
      ∧ (∀ j, j < (2 : SlotId) → (s.slot j).state ≠ .free) ∧ s.engine.profile.lowWater < s.freeCount := by
  decide +kernel

/-- LOW_WATER at its highest, and fewer slots FREE: slots 4 to 24 are STRANDED. -/
def fewFree (s : State) : State :=
  { s with
    absorb := { s.absorb with
      slots := s.absorb.slots.mapIdx (fun k x => if 3 < k ∧ k < 25 then slotIn .stranded allBytes else x) },
    engine := { s.engine with profile := { s.engine.profile with lowWater := 16 } } }

/-- Below LOW_WATER: behind a slot in PROGRAMMING, and alone at a bank that is reading. -/
theorem witness_WriteOpensTheLowestFreeSlot_lowWater :
    ∀ page ∈ [9, 13],
      let s := offering (fewFree (bankReading (programmingIn (placed running 1
        { slotIn .programming allBytes with target := some .own })))) (.write (writeTo page))
      s.offersMemory (.write (writeTo page)) = true ∧ s.acceptable (writeTo page) = true
        ∧ s.unprotected page = true ∧ s.noneEligible page = true ∧ (s.slot 0).state = .free
        ∧ s.freeCount ≤ s.engine.profile.lowWater ∧ (∀ j, (s.slot j).state ≠ .opened)
        ∧ s.slotList page = (if page = 9 then [1] else []) ∧ (s.slot 1).state ≠ .stranded
        ∧ page ∉ s.remap.lost ∧ s.geometry = some geo ∧ page % geo.banks = (1 : BankId).val
        ∧ (s.bank 1).monitor = .reading := by decide +kernel

/-- Every slot holds an image that waits to be programmed. -/
def noFreeSlot : State :=
  { running with absorb := { running.absorb with slots := Vector.replicate 32 (slotIn .queued allBytes) } }

/-- Eight entries in the epoch list, the oldest with work left. -/
def fullEpochs (s : State) : State :=
  { s with tracker := {
      epochs := (List.range 7).map (fun k =>
          { fence := k + 1, state := .closed, outstanding := 1, lossy := false, notify := false })
        ++ [{ fence := 8, state := .opened, outstanding := 0, lossy := false, notify := false }],
      fenceCounter := 7, lastPersisted := 0 } }

/-- A write that waits at the head of the memory lane. -/
def waiting (s : State) (w : WriteRequest) : State :=
  { s with link := { s.link with head := some w, tags := [w.tag] } }

theorem witness_WriteWaitsAtTheLaneHead :
    (let s := offering noFreeSlot (.write (writeTo 9))
     s.offersMemory (.write (writeTo 9)) = true ∧ s.acceptable (writeTo 9) = true
      ∧ s.unprotected 9 = true ∧ s.noneEligible 9 = true ∧ ∀ i, (s.slot i).state ≠ .free)
    ∧ (let s := waiting (fullEpochs running) { writeTo 9 with fence := true }
       s.ready = true ∧ s.link.head = some { writeTo 9 with fence := true } ∧ s.control.state = .running
        ∧ s.unprotected 9 = true ∧ 8 ≤ s.tracker.epochs.length)
    ∧ (let s := waiting queuedBehind (writeTo 9)
       s.ready = true ∧ s.link.head = some (writeTo 9) ∧ s.control.state = .running
        ∧ s.unprotected 9 = true ∧ s.soleEligible 9 1 = true ∧ (s.slot 1).state ≠ .opened)
    ∧ (let s := waiting (inState running .degraded) (writeTo 9)
       s.ready = true ∧ s.link.head = some (writeTo 9) ∧ s.control.state ≠ .running) := by decide +kernel

/-- A slot has become FREE for a waiting write. -/
theorem witness_WriteWaitsAtTheLaneHead_opens :
    let s := waiting queuedBehind (writeTo 10)
    s.ready = true ∧ s.link.head = some (writeTo 10) ∧ s.acceptable (writeTo 10) = true
      ∧ s.unprotected 10 = true ∧ s.noneEligible 10 = true ∧ (s.slot 2).state = .free
      ∧ (∀ j, j < (2 : SlotId) → (s.slot j).state ≠ .free)
      ∧ s.engine.profile.lowWater < s.freeCount := by decide +kernel

/-- The epoch list has room for the fence of a waiting write, with and without NOTIFY. -/
theorem witness_WriteWaitsAtTheLaneHead_fence :
    ∀ notify : Bool,
      let w : WriteRequest := { writeTo 9 with fence := true, notify := notify }
      let s := waiting queuedLast w
      s.ready = true ∧ s.link.head = some w ∧ s.control.state = .running ∧ s.unprotected 9 = true
        ∧ s.soleEligible 9 1 = true ∧ (∀ j, (s.slot j).state ≠ .opened) ∧ s.tracker.epochs.length = 7
        ∧ s.tracker.epochs.head?.map Epoch.outstanding = some 1 := by decide +kernel

/-- A region has come over the page of a waiting write: without a slot, with a FREE one, with a slot to merge into, and
with FENCE but no room in the epoch list. -/
theorem witness_WriteWaitsAtTheLaneHead_protected :
    (∀ x ∈ [(noFreeSlot, writeTo 9), (running, writeTo 12), (queuedBehind, writeTo 9),
        (fullEpochs running, { writeTo 20 with fence := true })],
      let s := waiting (guarded x.1) x.2
      s.ready = true ∧ s.link.head = some x.2 ∧ s.control.state = .running
        ∧ s.region.table.findIdx? (fun r =>
          decide (r.first ≤ x.2.address / 256) && decide (x.2.address / 256 ≤ r.last)) = some 0)
    ∧ ((guarded noFreeSlot).noneEligible 9 = true ∧ ∀ i, ((guarded noFreeSlot).slot i).state ≠ .free)
    ∧ ((guarded running).slot 0).state = .free ∧ (guarded queuedBehind).soleEligible 9 1 = true := by decide +kernel

/-- A program in flight under the epoch that a fence closes. -/
def flushed (s : State) : State := directed s (dir 0x01#8 [])

theorem witness_FlushTakesAFence :
    (∀ s ∈ [flushed (fullEpochs running), flushed programming, flushed running],
      s.offersDirective (dir 0x01#8 []) = true ∧ s.control.state = .running ∧ s.region.staging = .empty)
    ∧ 8 ≤ (flushed (fullEpochs running)).tracker.epochs.length
    ∧ ((flushed programming).tracker.epochs
        = [{ fence := 1, state := .opened, outstanding := 1, lossy := false, notify := false }]
      ∧ (∀ i, ((flushed programming).slot i).state ≠ .opened))
    ∧ (flushed running).tracker.epochs
        = [{ fence := 1, state := .opened, outstanding := 0, lossy := false, notify := false }]
      ∧ (∀ i, ((flushed running).slot i).state ≠ .opened)
      ∧ ∀ i, ((flushed running).slot i).state = .queued → ((flushed running).slot i).epoch ≠ 2 := by
  decide +kernel

/-- Two OPEN slots of the current epoch at a bank that is reading: slots 3 and 5, with the ages given. -/
def twoOpen (age₃ age₅ : Nat) : State :=
  flushed (bankReading (placed (placed queuedLast
    3 { slotIn .opened someBytes with page := 13, age := age₃, epoch := 7, closeTimer := .running 1200 })
    5 { slotIn .opened someBytes with page := 17, age := age₅, epoch := 7, closeTimer := .running 1300 }))

theorem witness_FlushTakesAFence_order :
    ∀ x ∈ [(twoOpen 4 6, (3 : SlotId), (5 : SlotId)), (twoOpen 4 2, 5, 3)],
      let s := x.1
      s.offersDirective (dir 0x01#8 []) = true ∧ s.control.state = .running ∧ s.region.staging = .empty
        ∧ s.tracker.epochs.length = 7 ∧ s.tracker.epochs.head?.map Epoch.outstanding = some 1
        ∧ (∀ k, (s.slot k).state = .opened ↔ k = x.2.1 ∨ k = x.2.2) ∧ (s.slot x.2.1).age < (s.slot x.2.2).age
        ∧ (∀ k ∈ [x.2.1, x.2.2], (s.slot k).epoch = nextFence s.tracker.fenceCounter
          ∧ (s.slot k).image.full = false ∧ s.slotList (s.slot k).page = [k]
          ∧ (s.slot k).page ∉ s.remap.lost ∧ (s.slot k).page % geo.banks = (1 : BankId).val)
        ∧ s.geometry = some geo ∧ (s.bank 1).monitor = .reading := by decide +kernel

theorem witness_CloseTimerClosesTheSlot_lost :
    let s := lost (placed laterEpoch 1 { slotIn .opened someBytes with closeTimer := .running 1200 })
    s.ready = true ∧ (s.slot 1).state = .opened ∧ (s.slot 1).closeTimer = .running 1200
      ∧ (s.slot 1).image.full = false ∧ s.slotList (s.slot 1).page = [] ++ 1 :: []
      ∧ (s.slot 1).page ∈ s.remap.lost ∧ s.headFence? ≠ some (s.slot 1).epoch := by decide +kernel

theorem witness_CloseTimerClosesTheSlot :
    (let s := openBehind .programming someBytes
     s.ready = true ∧ (s.slot 1).state = .opened ∧ (s.slot 1).closeTimer = .running 1200
      ∧ (s.slot 1).image.full = false ∧ s.slotList (s.slot 1).page = [0] ++ 1 :: [] ∧ (1 : SlotId) ∉ [0]
      ∧ (∃ j ∈ [(0 : SlotId)], (s.slot j).state ≠ .stranded))
    ∧ (let s := bankReading opened
       s.ready = true ∧ (s.slot 0).state = .opened ∧ (s.slot 0).closeTimer = .running 1100
        ∧ (s.slot 0).image.full = false ∧ s.slotList (s.slot 0).page = [] ++ 0 :: []
        ∧ (s.slot 0).page ∉ s.remap.lost ∧ s.geometry = some geo
        ∧ (1 : BankId).val = (s.slot 0).page % geo.banks ∧ (s.bank 1).monitor = .reading)
    ∧ (let s := openBehind .stranded someBytes
       s.ready = true ∧ (s.slot 1).state = .opened ∧ (s.slot 1).closeTimer = .running 1200
        ∧ (s.slot 1).image.full = false ∧ s.slotList (s.slot 1).page = [0] ++ 1 :: []
        ∧ (∀ k ∈ [(0 : SlotId)], (s.slot k).state = .stranded)
        ∧ s.headFence? ≠ some (s.slot 1).epoch) := by decide +kernel

/-! ## Programs, suspensions and bank resets -/

/-- Slot 0 of page 9 programs to spare 3, where its MAP entry points. -/
def programmingSpare : State :=
  { programming.setSlot 0 { programming.slot 0 with target := some (.spare 3) } with
    remap := { programming.remap with table := [{ page := 9, spare := 3 }] } }

theorem witness_ProgrammedSlotBecomesFree :
    ∀ s ∈ [programming, programmingSpare],
      s.ready = true ∧ s.control.drain = none ∧ s.control.startup = none ∧ (1 : BankId).val < s.bankCount
        ∧ (s.bank 1).monitor = .programming ∧ (s.bank 1).program = .data 0 .inFlight
        ∧ (s.bank 1).awaited = [.programDone 3] ∧ (s.bank 1).noneWaits = true ∧ s.sched.pendingMeta = none
        ∧ s.writer.list = [] ∧ s.bankOfPage (s.slot 0).page = 1
        ∧ ((s.slot 0).target = some .own
          ∨ ((s.slot 0).target = some (.spare 3) ∧ mapSpare? s.remap.table (s.slot 0).page = some 3))
        ∧ (s.slot 0).page ∉ s.remap.lost ∧ s.slotList (s.slot 0).page = [0]
        ∧ directoryLawful s.absorb.directory = true
        ∧ s.tracker.epochs
          = [{ fence := 1, state := .opened, outstanding := 1, lossy := false, notify := false }] := by
  decide +kernel

/-- Two slots counted in the CLOSED head epoch 65,535, one of them programmed, behind a STRANDED slot and before a HELD
one. -/
def heldBehind (image : Image) : State :=
  let base := { laterEpoch with tracker := { laterEpoch.tracker with
    epochs := laterEpoch.tracker.epochs.map (fun e => if e.state = .closed then { e with outstanding := 1 } else e) } }
  programmingIn (placed (placed (placed base 1 { slotIn .stranded allBytes with epoch := 3 })
    0 { slotIn .programming allBytes with target := some .own, epoch := 65535 }) 2 (slotIn .held image))

theorem witness_ProgrammedSlotBecomesFree_older :
    ∀ image ∈ [allBytes, someBytes],
      let s := heldBehind image
      s.ready = true ∧ s.control.drain = none ∧ s.control.startup = none ∧ (1 : BankId).val < s.bankCount
        ∧ (s.bank 1).monitor = .programming ∧ (s.bank 1).program = .data 0 .inFlight
        ∧ (s.bank 1).awaited = [.programDone 3] ∧ (s.bank 1).noneWaits = true ∧ s.sched.pendingMeta = none
        ∧ s.bankOfPage (s.slot 0).page = 1 ∧ s.writer.list = [] ∧ (s.slot 0).target = some .own
        ∧ (s.slot 0).page ∉ s.remap.lost ∧ s.slotList (s.slot 0).page = [1] ++ 0 :: [2]
        ∧ (∀ j ∈ [(1 : SlotId)], (s.slot j).state = .stranded) ∧ directoryLawful s.absorb.directory = true
        ∧ s.tracker.epochs.head?.map (fun e => (e.fence, e.outstanding)) = some (65535, 2)
        ∧ (s.slot 0).epoch = 65535 ∧ (s.slot 2).state = .held ∧ (s.slot 2).page = (s.slot 0).page
        ∧ (s.slot 2).image.full = (image == allBytes) ∧ (s.slot 2).epoch ≠ 65535 ∧ s.geometry = some geo
        ∧ (s.bank 1).presence ≠ .absent := by decide +kernel

/-- The one slot that the CLOSED head epoch counts is being programmed; slot 2, QUEUED in the next epoch, waits for bank
2, which is reading. -/
def drainedHead (lossy notify : Bool) : State :=
  let base := { laterEpoch with tracker := { laterEpoch.tracker with
    epochs := laterEpoch.tracker.epochs.map (fun e =>
      if e.state = .closed then { e with outstanding := 0, lossy := lossy, notify := notify } else e) } }
  banked (programmingIn (placed (placed base
    0 { slotIn .programming allBytes with target := some .own, epoch := 65535 })
    2 { slotIn .queued allBytes with page := 10 })) 2 (fun k => { k with monitor := .reading })

theorem witness_ProgrammedSlotBecomesFree_head :
    ∀ flag : Bool,
      let s := drainedHead flag flag
      s.ready = true ∧ s.writer.list = [] ∧ (s.slot 0).target = some .own ∧ (s.slot 0).page ∉ s.remap.lost
        ∧ s.slotList (s.slot 0).page = [0] ∧ directoryLawful s.absorb.directory = true
        ∧ s.tracker.epochs = [
          { fence := 65535, state := .closed, outstanding := 1, lossy := flag, notify := flag },
          { fence := 1, state := .opened, outstanding := 1, lossy := false, notify := false }]
        ∧ (s.slot 0).epoch = 65535 ∧ s.engine.incidents.length < 16
        ∧ (s.slot 2).state = .queued ∧ (s.slot 2).epoch = 1
        ∧ (∀ k, (s.slot k).state = .queued → (s.slot k).epoch = 1 → k = 0 ∨ k = 2)
        ∧ s.bankOfPage (s.slot 2).page = 2 ∧ (s.bank 2).monitor ≠ .idle ∧ (s.bank 1).monitor = .programming
        ∧ (s.bank 1).program = .data 0 .inFlight ∧ (s.bank 1).awaited = [.programDone 3]
        ∧ (s.bank 1).noneWaits = true ∧ s.sched.pendingMeta = none ∧ s.bankOfPage (s.slot 0).page = 1 := by
  decide +kernel

/-- A writer at work with a number of requests in its list. -/
def appending (s : State) (requests : Nat) : State :=
  { s with writer := { s.writer with
      state := .appending, list := List.replicate requests { kind := .lost 30, taken := 0, void := false } } }

theorem witness_ProgrammedSlotBecomesFree_recording :
    ∀ x ∈ [(appending (lost programming) 0, Target.own), (appending programming 6, .spare 3),
        (appending (lost programmingSpare) 6, .spare 4)],
      let s := x.1.setSlot 0 { x.1.slot 0 with target := some x.2 }
      s.ready = true ∧ s.control.drain = none ∧ s.control.startup = none ∧ (1 : BankId).val < s.bankCount
        ∧ (s.bank 1).monitor = .programming ∧ (s.bank 1).program = .data 0 .inFlight
        ∧ (s.bank 1).awaited = [.programDone 3] ∧ (s.bank 1).noneWaits = true ∧ s.sched.pendingMeta = none
        ∧ s.bankOfPage (s.slot 0).page = 1 ∧ s.control.state ≠ .degraded ∧ s.writer.state = .appending
        ∧ s.remap.held = [] ∧ s.remap.unrecorded = [] ∧ s.writer.list.length ≤ 6
        ∧ ((s.slot 0).target = some .own ∧ (s.slot 0).page ∈ s.remap.lost
          ∨ (s.slot 0).target = some x.2
            ∧ (mapSpare? s.remap.table (s.slot 0).page).map Target.spare ≠ some x.2) := by decide +kernel

/-- The attempts of slot 0 so far. -/
def attempted (s : State) (attempts : Nat) : State := s.setSlot 0 { s.slot 0 with attempts := attempts }

theorem witness_FailedProgramIsRetriedAtOnce :
    ∀ s ∈ [attempted programming 1, attempted programmingSpare 0],
      s.ready = true ∧ s.control.drain = none ∧ s.control.startup = none ∧ (1 : BankId).val < s.bankCount
        ∧ s.control.state = .running ∧ (s.bank 1).monitor = .programming
        ∧ (s.bank 1).program = .data 0 .inFlight ∧ (s.bank 1).awaited = [.programDone 3]
        ∧ (0 : SlotId) ∉ (s.bank 1).programQueue ∧ (s.bank 1).readQueue = []
        ∧ (s.slot 0).state = .programming ∧ (s.slot 0).target.isSome = true
        ∧ (s.slot 0).attempts + 1 ≤ s.engine.profile.retryLimit
        ∧ s.slotList (s.slot 0).page = [0] ∧ s.pinCount (s.slot 0).page = 0 := by decide +kernel

/-- The free spares of bank 1: spare 0 claimed by slot 4, spare 2 by slot 0, spare 5 free. -/
def spares (s : State) (target : Target) : State :=
  { s.setSlot 0 { s.slot 0 with target := some target } with
    remap := { s.remap with
      free := s.remap.free.set 1
        [{ index := 0, claim := some 4 }, { index := 2, claim := some 0 }, { index := 5, claim := none }] } }

/-- Every free spare of bank 1 is claimed for another slot. -/
def allClaimed : State :=
  { programming with remap := { programming.remap with
      free := programming.remap.free.set 1 [{ index := 0, claim := some 4 }] } }

theorem witness_HandoffClaimsTheLowestFreeSpare :
    (∀ s ∈ [spares programming .own, spares programming (.spare 2)], s.control.state ≠ .degraded)
    ∧ (∀ x ∈ [{ index := 0, claim := some 4 }, ({ index := 2, claim := some 0 } : FreeSpare)],
        x.claim.isSome = true ∧ x.index ≠ 5)
    ∧ ((spares programming .own).remap.free[(1 : BankId).val]
        = [{ index := 0, claim := some 4 }, { index := 2, claim := some 0 }]
          ++ { index := 5, claim := none } :: []
      ∧ ((spares programming .own).slot 0).target = some .own)
    ∧ (((spares programming (.spare 2)).slot 0).target = some (.spare 2)
      ∧ (spares programming (.spare 2)).remap.free[(1 : BankId).val]
        = [{ index := 0, claim := some 4 }] ++ { index := 2, claim := some 0 }
          :: { index := 5, claim := none } :: [])
    ∧ (∀ x ∈ [(spares (inState programming .degraded) .own, none),
        (spares (inState programming .degraded) (.spare 3), some 3), (allClaimed, none)],
      let s := x.1
      (s.control.state = .degraded ∨ ∀ y ∈ s.remap.free[(1 : BankId).val], y.claim.isSome = true)
        ∧ (s.slot 0).target = some (match x.2 with | some k => .spare k | none => .own)
        ∧ (∀ k ∈ x.2, ∀ y ∈ s.remap.free[(1 : BankId).val], y.index ≠ k)
        ∧ s.bankOfPage (s.slot 0).page = 1 ∧ (s.bank 1).monitor ≠ .idle ∧ s.slotList (s.slot 0).page = [0]
        ∧ s.tracker.epochs
          = [{ fence := 1, state := .opened, outstanding := 1, lossy := false, notify := false }]
        ∧ s.engine.incidents.length < 16) := by decide +kernel

/-- The last failure of slot 0 at its own location, or at spare 2, which it claims, with reads waiting or none. -/
theorem witness_HandoffClaimsTheLowestFreeSpare_outcome :
    ∀ x ∈ [((none : Option Nat), [({ index := 0, claim := some 4 } : FreeSpare), { index := 2, claim := some 0 }]),
        (some 2, [{ index := 0, claim := some 4 }])],
      ∀ jobs ∈ [[], [hostJob false]],
      let target := match x.1 with | some y => Target.spare y | none => .own
      let s := banked (attempted (spares programming target) 2) 1 (fun k => { k with readQueue := jobs })
      s.ready = true ∧ s.control.state = .running ∧ s.control.drain = none ∧ s.control.startup = none
        ∧ s.geometry = some geo ∧ (1 : BankId).val < geo.banks ∧ (s.bank 1).monitor = .programming
        ∧ (s.bank 1).program = .data 0 .inFlight ∧ (s.bank 1).awaited = [.programDone 3]
        ∧ (s.bank 1).presence ≠ .absent ∧ s.sched.pendingMeta = none ∧ (0 : SlotId) ∉ (s.bank 1).programQueue
        ∧ (s.slot 0).state = .programming ∧ s.bankOfPage (s.slot 0).page = 1 ∧ s.slotList (s.slot 0).page = [0]
        ∧ s.pinCount (s.slot 0).page = 0 ∧ s.engine.profile.retryLimit < (s.slot 0).attempts + 1
        ∧ (s.slot 0).target = some target ∧ (∀ y ∈ x.2, y.claim.isSome = true ∧ y.index ≠ 5 ∧ some y.index ≠ x.1)
        ∧ s.remap.free[(1 : BankId).val] = x.2
            ++ (match x.1 with | some y => [{ index := y, claim := some 0 }] | none => [])
            ++ { index := 5, claim := none } :: [] := by decide +kernel

/-- Bank 1 reading, for the record of an array read, under a suspended program, with jobs waiting for the next batch. -/
def servingBatch (retried : Bool) (waiting : Nat) : State :=
  let s := programmingAfter 1
  banked { s.setSlot 0 { s.slot 0 with state := .suspended } with
      reads := [{ boundRead with page := 13 }], link := { running.link with tags := [5] } }
    1 (fun k => { k with
      monitor := .suspendedReading, programTimer := .paused 4000, read := some (hostJob retried),
      readTimer := .running 1050, sequence := 9, readTag := 9, awaited := [.readDone 9],
      readQueue := List.replicate waiting { hostJob false with owner := .host 6 } })

theorem witness_ProgramTimeoutResetsTheBank_read :
    let s := servingBatch false 1
    s.ready = true ∧ s.control.drain = none ∧ (s.bank 1).monitor = .suspendedReading
      ∧ (s.bank 1).program = .data 0 .inFlight ∧ (s.bank 1).read = some (hostJob false)
      ∧ (s.bank 1).readTimer = .running 1050 := by decide +kernel

theorem witness_ProgramTimeoutResetsTheBank :
    programming.ready = true ∧ (programming.bank 1).monitor = .programming
      ∧ (programming.bank 1).program = .data 0 .inFlight
      ∧ (programming.bank 1).programTimer = .running 6000 ∧ (programming.slot 0).state = .programming := by
  decide +kernel

/-- A suspension under way in bank 1, with two read jobs waiting. -/
def suspending : State :=
  banked programming 1 (fun k => { k with
    monitor := .suspendPending, readQueue := [hostJob false, { hostJob false with owner := .host 6 }],
    awaited := [.programDone 3, .suspendAck 3] })

theorem witness_SuspendedProgramServesABatch :
    suspending.ready = true ∧ (1 : BankId).val < suspending.bankCount
      ∧ (suspending.bank 1).monitor = .suspendPending ∧ (suspending.bank 1).program = .data 0 .inFlight
      ∧ (suspending.bank 1).programTimer = .running 6000
      ∧ (suspending.bank 1).awaited = [.programDone 3, .suspendAck 3]
      ∧ (suspending.bank 1).readQueue = hostJob false :: [{ hostJob false with owner := .host 6 }]
      ∧ (suspending.slot 0).state = .programming := by decide +kernel

theorem witness_SuspendedProgramServesABatch_resume :
    ∀ waiting ∈ [0, 1],
      let s := servingBatch true waiting
      s.ready = true ∧ (1 : BankId).val < s.bankCount ∧ (s.bank 1).monitor = .suspendedReading
        ∧ (s.bank 1).program = .data 0 .inFlight ∧ (s.bank 1).programTimer = .paused 4000
        ∧ (s.bank 1).awaited = [.readDone 9]
        ∧ (s.bank 1).read = some { index := 2, owner := .host boundRead.tag, retried := true }
        ∧ (s.bank 1).batch = 0 ∧ (s.slot 0).state = .suspended
        ∧ s.record? boundRead.tag = some { boundRead with page := 13 } ∧ s.bankOfPage 13 = 1
        ∧ (List.replicate 256 0x5A#8).length = 256 ∧ (s.bank 1).readQueue.length = waiting
        ∧ (s.slot 0).suspends < s.engine.profile.suspendBudget ∧ s.control.state = .running := by decide +kernel

/-- SUSPEND_PENDING in bank 1 with one of the two answers still awaited, and a program in hand. -/
def lastAnswer (s : State) (awaited : Awaited) (program : ProgramInHand) : State :=
  banked s 1 (fun k => { k with awaited := [awaited], program := program })

theorem witness_SuspendedProgramServesABatch_notActive :
    (∀ s ∈ [suspending, lastAnswer suspending (.programDone 3) (.data 0 .inFlight)],
      s.ready = true ∧ (1 : BankId).val < s.bankCount ∧ (s.bank 1).monitor = .suspendPending
        ∧ (s.bank 1).program = .data 0 .inFlight ∧ s.control.drain = none ∧ s.control.startup = none
        ∧ s.bankOfPage (s.slot 0).page = 1 ∧ s.writer.list = [] ∧ (s.slot 0).target = some .own
        ∧ (s.slot 0).page ∉ s.remap.lost ∧ s.slotList (s.slot 0).page = [0]
        ∧ directoryLawful s.absorb.directory = true ∧ (s.bank 1).presence ≠ .absent
        ∧ (s.bank 1).readQueue = hostJob false :: [{ hostJob false with owner := .host 6 }]
        ∧ s.tracker.epochs
          = [{ fence := 1, state := .opened, outstanding := 1, lossy := false, notify := false }])
    ∧ (suspending.bank 1).awaited = [.programDone 3, .suspendAck 3]
    ∧ ((lastAnswer suspending (.programDone 3) (.data 0 .inFlight)).bank 1).awaited = [.programDone 3]
    ∧ (let s := banked (lastAnswer suspending (.suspendAck 3) (.data 0 .retryDue)) 1 (fun k => { k with
        programQueue := [0], readQueue := [] })
       s.ready = true ∧ (s.bank 1).monitor = .suspendPending ∧ (s.bank 1).awaited = [.suspendAck 3]
        ∧ s.control.drain = none ∧ (s.bank 1).program = .data 0 .retryDue ∧ s.control.state = .running
        ∧ (s.slot 0).target = some .own ∧ (s.slot 0).state = .programming
        ∧ (s.bank 1).programQueue = 0 :: [] ∧ s.slotList (s.slot 0).page = [0]
        ∧ s.pinCount (s.slot 0).page = 0 ∧ (s.bank 1).readQueue = [])
    ∧ (let s := lastAnswer suspending (.suspendAck 3) .absent
       s.ready = true ∧ (s.bank 1).monitor = .suspendPending ∧ (s.bank 1).awaited = [.suspendAck 3]
        ∧ s.control.drain = none ∧ (s.bank 1).program = .absent ∧ (s.bank 1).presence ≠ .absent
        ∧ (s.bank 1).readQueue = hostJob false :: [{ hostJob false with owner := .host 6 }]) := by decide +kernel

/-- Bank 7 in reset. -/
def resetting (s : State) (b : BankId) (presence : Presence) : State :=
  banked s b (fun k => { k with
    monitor := .resetting, resetTimer := .running 1500, sequence := 1, awaited := [.resetDone],
    presence := presence })

/-- Stage 1, with the marks of banks 0 to 6 as given and bank 7, which the array of four banks lacks, in reset. -/
def stageOne (marks : Presence) : State :=
  resetting { startingAt .resetBanks with
    sched := { banks := Vector.replicate 8 { Bank.afterReset with presence := marks }, pendingMeta := none } }
    7 .unmarked

theorem witness_ResetDoneEndsABankReset :
    (∀ marks ∈ [Presence.unmarked, .absent],
      let s := stageOne marks
      s.ready = true ∧ (s.bank 7).monitor = .resetting ∧ (s.bank 7).awaited = [.resetDone]
        ∧ (s.bank 7).program = .absent ∧ (s.bank 7).read = none
        ∧ s.control.startup = some { stage := .resetBanks, stopAsked := false } ∧ s.control.drain = none
        ∧ (s.bank 7).presence = .unmarked)
    ∧ ((stageOne .unmarked).bank 0).presence = .unmarked
    ∧ (∀ c, c ≠ (7 : BankId) → ((stageOne .absent).bank c).presence ≠ .unmarked)
    ∧ (let s := banked (resetting running 1 .present) 1 (fun k => { k with readQueue := [hostJob true] })
       s.ready = true ∧ (s.bank 1).monitor = .resetting ∧ (s.bank 1).awaited = [.resetDone]
        ∧ (s.bank 1).program = .absent ∧ (s.bank 1).read = none ∧ s.control.startup = none
        ∧ s.control.drain = none ∧ (1 : BankId).val < s.bankCount ∧ (s.bank 1).presence = .present
        ∧ (s.bank 1).readQueue = hostJob true :: []) := by decide +kernel

/-- Bank 1 in reset with what it had in hand when the reset was sent: a program, a read job, jobs waiting. -/
def endingReset (s : State) (program : ProgramInHand) (read : Option ReadJob) (waiting : Nat) : State :=
  banked (resetting s 1 .present) 1 (fun k => { k with
    program := program, read := read, readQueue := List.replicate waiting { hostJob false with owner := .host 6 } })

/-- Every reset of bank 1 with something in hand ends in a state that meets this. -/
def resetEnds (s : State) : Bool :=
  s.ready && s.control.startup.isNone && s.control.drain.isNone && decide ((1 : BankId).val < s.bankCount)
    && (s.bank 1).presence == .present && (s.bank 1).monitor == .resetting && (s.bank 1).awaited == [.resetDone]

/-- A data program whose attempt failed or was interrupted, within RETRY_LIMIT and beyond it. -/
theorem witness_ResetDoneEndsABankReset_data :
    ∀ phase ∈ [ProgramPhase.failed, .interrupted],
      (∀ x ∈ [(attempted programming 1, 0), (attempted (programmingAfter 2) 2, 1),
          (attempted (programmingAfter 1) 2, 1)],
        let s := endingReset x.1 (.data 0 phase) none x.2
        resetEnds s = true ∧ (s.bank 1).program = .data 0 phase ∧ (s.bank 1).read = none
          ∧ (0 : SlotId) ∉ (s.bank 1).programQueue ∧ (s.slot 0).state = .programming
          ∧ (s.slot 0).attempts ≤ s.engine.profile.retryLimit ∧ s.control.state = .running
          ∧ (s.slot 0).target = some .own ∧ s.slotList (s.slot 0).page = [0] ∧ s.pinCount (s.slot 0).page = 0
          ∧ (s.bank 1).readQueue.length = x.2)
      ∧ running.engine.profile.suspendBudget ≤ ((programmingAfter 2).slot 0).suspends
      ∧ ((programmingAfter 1).slot 0).suspends < running.engine.profile.suspendBudget
      ∧ (let s := endingReset (attempted (spares programming .own) 3) (.data 0 phase) none 1
         resetEnds s = true ∧ (s.bank 1).program = .data 0 phase ∧ (s.bank 1).read = none
          ∧ (0 : SlotId) ∉ (s.bank 1).programQueue ∧ (s.slot 0).state = .programming
          ∧ s.engine.profile.retryLimit < (s.slot 0).attempts ∧ s.control.state ≠ .degraded
          ∧ (s.slot 0).target = some .own ∧ (s.bank 1).readQueue = { hostJob false with owner := .host 6 } :: []
          ∧ s.remap.free[(1 : BankId).val] = [{ index := 0, claim := some 4 }, { index := 2, claim := some 0 }]
            ++ { index := 5, claim := none } :: []) := by decide +kernel

/-- A metadata program that timed out, within RETRY_LIMIT and beyond it. -/
theorem witness_ResetDoneEndsABankReset_metadata :
    ∀ attempts ∈ [0, 1, 2],
      let s := endingReset (carryingLog running 20 attempts [.last (.retire [(1, 3)]) 0]) .metadata none 0
      resetEnds s = true ∧ (s.bank 1).program = .metadata ∧ (s.bank 1).read = none ∧ s.control.state = .running
        ∧ s.writer.state = .appending ∧ s.writer.program.map WriterProgram.attempts = some attempts
        ∧ (attempts + 1 ≤ s.engine.profile.retryLimit ∨ attempts = 2)
        ∧ s.writer.program.map (fun p => s.metaBank p.page) = some 1 ∧ (s.bank 1).readQueue = [] := by
  decide +kernel

/-- A read that timed out twice, of a host read and of a fill outside the head epoch. -/
theorem witness_ResetDoneEndsABankReset_read :
    (let s := endingReset arrayReading .absent (some (hostJob true)) 0
     resetEnds s = true ∧ (s.bank 1).program = .absent ∧ (s.bank 1).read = some (hostJob true)
      ∧ (s.bank 1).readQueue = [] ∧ (s.bank 1).programQueue = [] ∧ s.sched.pendingMeta = none
      ∧ (hostJob true).owner = .host boundRead.tag ∧ s.record? boundRead.tag = some boundRead
      ∧ s.bankOfPage boundRead.page = 1)
    ∧ (let s := endingReset (fillingFrom laterEpoch true) .absent
        (some { index := 2, owner := .fill 0, retried := true }) 0
       resetEnds s = true ∧ (s.bank 1).program = .absent ∧ (s.bank 1).readQueue = []
        ∧ (s.bank 1).programQueue = [] ∧ s.sched.pendingMeta = none ∧ (s.slot 0).state = .filling
        ∧ s.headFence? ≠ some (s.slot 0).epoch ∧ s.engine.incidents.length < 16) := by decide +kernel

theorem witness_ResetTimeoutMarksAbsentOrFaults :
    (let s := stageOne .unmarked
     s.ready = true ∧ (s.bank 7).resetTimer = .running 1500 ∧ s.control.state = .starting
      ∧ s.control.startup = some { stage := .resetBanks, stopAsked := false }
      ∧ (s.bank 7).presence = .unmarked ∧ (s.bank 7).program = .absent ∧ (0 : BankId) ≠ 7
      ∧ (s.bank 0).presence = .unmarked)
    ∧ (let s := resetting running 1 .present
       s.ready = true ∧ (s.bank 1).resetTimer = .running 1500 ∧ s.control.state ≠ .starting) := by
  decide +kernel

/-- The last of the eight marks. -/
theorem witness_ResetTimeoutMarksAbsentOrFaults_last :
    let s := stageOne .present
    s.ready = true ∧ (s.bank 7).resetTimer = .running 1500 ∧ s.control.state = .starting
      ∧ s.control.drain = none ∧ s.control.startup = some { stage := .resetBanks, stopAsked := false }
      ∧ (s.bank 7).presence = .unmarked ∧ ∀ c, c ≠ (7 : BankId) → (s.bank c).presence ≠ .unmarked := by
  decide +kernel

/-- A bank in reset that carries the read of a metadata page in stage 3. -/
theorem witness_ResetTimeoutMarksAbsentOrFaults_startup :
    let s := endingReset (startingAt (.choose HalfScan.start HalfScan.start)) .absent
      (some { index := 65504, owner := .startup 0, retried := false }) 0
    s.ready = true ∧ (s.bank 1).resetTimer = .running 1500 ∧ s.control.state = .starting
      ∧ s.control.startup.isSome = true ∧ (s.bank 1).presence = .present ∧ (s.bank 1).program = .absent
      ∧ (s.bank 1).read.isSome = true := by decide +kernel

/-- RUNNING with a read that waits for the array, an OPEN slot, a staging, a scrub and a write at the lane head. -/
def busyRunning : State :=
  let s := waiting (placed arrayReading 0 (slotIn .opened someBytes)) (writeTo 10)
  { s with region := { s.region with
      staging := .firstSet 9,
      walker := some { first := 9, last := 20, next := 9, zeroed := 3, skipped := 1 } } }

theorem witness_ResetTimeoutMarksAbsentOrFaults_running :
    let s := resetting busyRunning 1 .present
    s.ready = true ∧ (s.bank 1).resetTimer = .running 1500 ∧ s.control.state = .running ∧ s.reads = [boundRead]
      ∧ directoryLawful s.absorb.directory = true ∧ s.pinCount 9 = 1 ∧ (s.slot 0).state = .opened
      ∧ s.region.staging ≠ .empty ∧ s.region.walker.isSome = true ∧ s.link.head = some (writeTo 10) := by
  decide +kernel

/-- Stage 2. -/
def stageTwo : State :=
  { startingAt .identify with
    geometry := none,
    control := { (startingAt .identify).control with identifyTimer := .running 2000 } }

theorem witness_IdentifyAdoptsTheGeometryOrFaults :
    (stageTwo.ready = true ∧ stageTwo.control.drain = none
      ∧ stageTwo.control.startup = some { stage := .identify, stopAsked := false }
      ∧ stageTwo.control.identifyTimer = .running 2000)
    ∧ (8 ∈ [1, 2, 4, 8] ∧ 12 ≤ 22 ∧ 22 ≤ 22 ∧ 16 ≤ 64 ∧ 64 ≤ 64 ∧ 64 % 8 = 0
      ∧ (∀ b : BankId, b.val < 8 → (stageTwo.bank b).presence = .present)
      ∧ (stageTwo.bank 0).monitor = .idle ∧ (stageTwo.bank 0).noneWaits = true
      ∧ stageTwo.sched.pendingMeta = none)
    ∧ stageTwo.control.state = .starting ∧ 3 ∉ [1, 2, 4, 8] ∧ 11 < 12 ∧ 22 < 23 ∧ 15 < 16 ∧ 64 < 65
      ∧ 17 % 8 ≠ 0 := by decide +kernel

/-! ## The metadata log -/

/-- Both holders hold a request. -/
def holding (s : State) : State :=
  { s with
    remap := { s.remap with held := [{ kind := .lost 31, taken := 0, void := false }] },
    region := { s.region with held := some { kind := .region (.remove 1 2), taken := 0, void := false } } }

theorem witness_HeldRequestJoinsTheList :
    (holding (appending running 7)).ready = true ∧ (holding (appending running 7)).writer.state = .appending
      ∧ (holding (appending running 7)).writer.list.length < 8
      ∧ (holding (appending running 7)).remap.unrecorded = []
      ∧ (holding (appending running 7)).remap.held = { kind := .lost 31, taken := 0, void := false } :: []
      ∧ (holding (appending running 7)).region.held
        = some { kind := .region (.remove 1 2), taken := 0, void := false }
      ∧ (holding (appending running 8)).ready = true
      ∧ (holding (appending running 8)).writer.state = .appending
      ∧ 8 ≤ (holding (appending running 8)).writer.list.length := by decide +kernel

/-- A request held for room in the two states in which none joins. -/
theorem witness_HeldRequestJoinsTheList_dormant :
    ∀ state ∈ [BridgeState.dormant, .faulted],
      let s := holding (inState running state)
      (s.control.state = .dormant ∨ s.control.state = .faulted) ∧ s.remap.held ≠ []
        ∧ s.region.held.isSome = true := by decide +kernel

/-- Held requests with retirements listed, one, two and three. -/
theorem witness_HeldRequestJoinsTheList_retirements :
    ∀ n ∈ [1, 2, 3],
      let h := holding (appending running 7)
      let s := { h with remap := { h.remap with unrecorded := [(1, 3), (2, 0), (1, 4)].take n } }
      s.ready = true ∧ s.writer.state = .appending ∧ s.writer.list.length < 8 ∧ s.remap.held ≠ []
        ∧ s.remap.unrecorded.length = n := by decide +kernel

/-- A log page program in flight in bank 1, which carries one retirement. -/
def logging (used attempts : Nat) : State := carryingLog running used attempts [.last (.retire [(1, 3)]) 0]

/-- Slot 0 of page 9 in RECORDING, at a spare that its MAP request claims. -/
def recording : State :=
  let s := placed running 0 { slotIn .recording allBytes with target := some (.spare 2) }
  { s with remap := { s.remap with table := [{ page := 9, spare := 7 }, { page := 10, spare := 1 }] } }

/-- The MAP request of the slot in RECORDING, with the RETIRE of the spare it replaces. -/
def mapRequest : RequestKind := .map 0 9 1 2 (some 7)

/-- The UNLOST request of the slot in RECORDING. -/
def unlostRequest : RequestKind := .unlost (some 0) 9

theorem witness_PersistedAppendAdvancesTheLog :
    ∀ used ∈ [20, 31, 991],
      let s := logging used 0
      s.ready = true ∧ s.control.drain = none ∧ s.control.startup = none ∧ (1 : BankId).val < s.bankCount
        ∧ (s.bank 1).monitor = .programming ∧ (s.bank 1).program = .metadata
        ∧ (s.bank 1).awaited = [.programDone 3] ∧ (s.bank 1).noneWaits = true
        ∧ s.writer.state = .appending ∧ s.writer.program.isSome = true ∧ s.writer.list = []
        ∧ s.writer.used = used ∧ used + 1 + 32 ≤ 1024 := by decide +kernel

/-- Each kind of request that a log page program carries, at the last position that starts no compaction. -/
theorem witness_PersistedAppendAdvancesTheLog_requests :
    ∀ x ∈ [(recording, [Carried.last mapRequest 1]),
        (lost recording, [.last mapRequest 1, .last unlostRequest 0]), (lost recording, [.last unlostRequest 0]),
        (lost running, [.last (.unlost none 9) 0])],
      let s := carryingLog x.1 991 0 x.2
      s.writer.program.any (fun p => s.endsAppend 1 3 p) = true
        ∧ s.writer.program.map WriterProgram.carried = some x.2
        ∧ (x.1.slotList 9 = [0] → (s.slot 0).state = .recording ∧ (s.slot 0).page = 9)
        ∧ directoryLawful s.absorb.directory = true
        ∧ s.tracker.epochs.map Epoch.state = [.opened] ∧ s.engine.incidents.length < 16 := by decide +kernel

/-- The OPEN_SESSION of stage 5 in flight after a session, with POWER_WARN taken or not. -/
def openingSession (last next : BitVec 32) (stopAsked : Bool) : State :=
  let s := carryingLog (startingAt (.openSession none)) 20 0 [.last (.openSession next) 0]
  { s with control := { s.control with
      session := last, startup := some { stage := .openSession none, stopAsked := stopAsked } } }

/-- The SHUTDOWN of a drain in flight, with a read whose answer is owed and a request in each lane. -/
def endingDrain (kind : DrainKind) : State :=
  let s := carryingLog (placed (draining kind) 0 (slotIn .stranded allBytes)) 20 0
    [.last (.shutdown 1#32 .restart 0 0) 0]
  { s with
    reads := [boundRead],
    link := { s.link with
      tags := [5], memLane := [.read { readOf 17 2 with tag := 6 }, .write { writeTo 9 with tag := 6 }],
      dirLane := [dir 0x40#8 [0x00#8], dir 0x99#8 []] } }

/-- The same with a RANGE_APPLY that holds the engine, its request held for room. -/
def endingWithApply : State :=
  let s := endingDrain .power
  { s with
    region := { s.region with held := some { kind := .region (.remove 20 29), taken := 0, void := false } },
    engine := { s.engine with current := .rangeApply 3 }, link := { s.link with tags := [3, 5] } }

/-- OPEN_SESSION: a fresh log and the last session numbers, with POWER_WARN taken or not. -/
theorem witness_PersistedAppendAdvancesTheLog_openSession :
    ∀ x ∈ [(0, 1), (0xFFFFFFFE, 0xFFFFFFFF), (0xFFFFFFFF, 1)], ∀ stopAsked : Bool,
      let last := BitVec.ofNat 32 x.1
      let s := openingSession last (BitVec.ofNat 32 x.2) stopAsked
      s.writer.program.any (fun p => s.inLastAppend 1 3 p) = true ∧ s.control.state = .starting
        ∧ s.writer.program.map WriterProgram.carried = some [.last (.openSession (BitVec.ofNat 32 x.2)) 0]
        ∧ s.control.drain = none
        ∧ s.control.startup = some { stage := .openSession none, stopAsked := stopAsked }
        ∧ s.control.session = last
        ∧ BitVec.ofNat 32 x.2 = (if last = 0xFFFFFFFF#32 then 1#32 else last + 1#32) := by
  decide +kernel

/-- SHUTDOWN: both kinds of drain, and a POWER drain with a RANGE_APPLY whose request is held. -/
theorem witness_PersistedAppendAdvancesTheLog_shutdown :
    (∀ s ∈ [endingDrain .power, endingDrain .restart, endingWithApply],
      s.writer.program.any (fun p => s.inLastAppend 1 3 p) = true ∧ s.control.state = .draining
        ∧ s.writer.program.map WriterProgram.carried = some [.last (.shutdown 1#32 .restart 0 0) 0]
        ∧ s.control.startup = none ∧ s.control.drain.map Drain.shutdown = some .handed)
    ∧ ((endingDrain .power).control.drain.map Drain.kind = some .power ∧ (endingDrain .power).region.held = none
      ∧ endingWithApply.control.drain.map Drain.kind = some .power
      ∧ endingWithApply.engine.current = .rangeApply 3
      ∧ endingWithApply.region.held = some { kind := .region (.remove 20 29), taken := 0, void := false })
    ∧ (let s := endingDrain .restart
       s.control.drain.map Drain.kind = some .restart ∧ s.region.held = none
        ∧ (∀ k, (s.bank k).monitor ≠ .resetting) ∧ (∀ r ∈ s.link.memLane, r.tag ∉ s.link.tags)
        ∧ (∀ r ∈ s.link.dirLane, r.tag ∉ s.link.tags)) := by decide +kernel

/-- A metadata program on its last attempt, with a staging, a scrub, an OPEN slot, a write that waits, and a
number of incidents. -/
def lastAttempt (incidents : Nat) : State :=
  let s := carryingLog (waiting (placed running 0 (slotIn .opened someBytes)) (writeTo 10)) 20 2 []
  { s with
    region := { s.region with
      staging := .firstSet 9,
      walker := some { first := 9, last := 20, next := 9, zeroed := 3, skipped := 1 } },
    engine := { s.engine with incidents := List.replicate incidents { kind := .readFailed } } }

theorem witness_MetadataFailureDegradesTheBridge :
    ∀ n ∈ [15, 16],
      let s := lastAttempt n
      s.ready = true ∧ s.control.state = .running ∧ s.control.drain = none ∧ s.control.startup = none
        ∧ (1 : BankId).val < s.bankCount ∧ (s.bank 1).program = .metadata
        ∧ .programDone 3 ∈ (s.bank 1).awaited ∧ s.writer.program.map WriterProgram.attempts = some 2
        ∧ s.engine.profile.retryLimit < 2 + 1 ∧ s.engine.incidents.length = n ∧ s.region.staging ≠ .empty
        ∧ s.region.walker.isSome = true ∧ s.link.head = some (writeTo 10) := by decide +kernel

/-- A state with facts of every kind. -/
def factual : State :=
  { running with
    remap := { running.remap with
      table := [{ page := 9, spare := 0 }, { page := 10, spare := 0 }, { page := 261887, spare := 31 }],
      retired := (running.remap.retired.set 0 [2, 5]).set 3 [0, 1], lost := [0, 30] },
    region := { running.region with
      table := [{ first := 0, last := 0, attr := .fixed }, { first := 1, last := 261887, attr := .guarded }] } }

theorem witness_SnapshotIsAValidHalf : (factual.snapshot 7#32).length ≤ 1024 := by decide +kernel

theorem witness_ReplayRebuildsTheSnapshot : factual.factsLawful geo = true := by decide +kernel

/-! ## Directives -/

/-- A directive in a state that does not admit it, for each bridge state. -/
theorem witness_RefusedDirectiveChangesNothing :
    (∀ s ∈ [startingAt .resetBanks, inState running .degraded, draining .restart, inState running .dormant,
        inState running .faulted],
      (directed s (dir 0x20#8 [0x00#8])).offersDirective (dir 0x20#8 [0x00#8]) = true
        ∧ s.region.staging = .empty)
    ∧ Instr.release.directive? = some .release
    ∧ directiveOf? (dir 0x20#8 [0x00#8]).code = some .release
    ∧ Directive.release ∉ [.statusFetch, .incidentTake, .regionList, .remapQuery, .profile, .flush, .restart]
    ∧ ((directed running (dir 0x31#8 [])).offersDirective (dir 0x31#8 []) = true
      ∧ directiveOf? (dir 0x31#8 []).code = some .reformat ∧ Instr.reformat.directive? = some .reformat
      ∧ (inState running .faulted).control.faultReason ≠ .metadataCorrupt) := by decide +kernel

/-- Both pages staged. -/
def staged (s : State) (first last : Nat) : State :=
  { s with region := { s.region with staging := .bothSet first last } }

/-- A staging in progress before a directive that discards it: FLUSH, RELEASE, RESTART, PROFILE, and a REFORMAT that is
refused; and one that spares it. -/
theorem witness_RefusedDirectiveChangesNothing_staging :
    (∀ x ∈ [(0x01#8, Directive.flush), (0x20#8, .release), (0x30#8, .restart), (0x42#8, .profile),
        (0x31#8, .reformat)],
      (directed (staged running 9 20) (dir x.1 [])).offersDirective (dir x.1 []) = true
        ∧ directiveOf? x.1 = some x.2 ∧ x.2.sparesStaging = false)
    ∧ (staged running 9 20).region.staging ≠ .empty ∧ Instr.flush.directive? = some .flush
    ∧ Instr.restart.directive? = some .restart ∧ Instr.profile.directive? = some .profile
    ∧ Directive.regionList.sparesStaging = true := by decide +kernel

/-- A payload of 65 bytes, and one of another length than its byte gives. -/
theorem witness_BadCodeOrLengthIsAnswered :
    (∀ s ∈ [running, staged running 9 9],
      (directed s (dir 0x02#8 [])).offersDirective (dir 0x02#8 []) = true)
    ∧ (dir 0x02#8 []).code ∉ [0x01#8, 0x10#8, 0x11#8, 0x12#8, 0x13#8, 0x14#8, 0x20#8, 0x21#8, 0x30#8, 0x31#8,
      0x40#8, 0x41#8, 0x42#8]
    ∧ (let d := { dir 0x14#8 [0x00#8] with payloadLength := 2 }
       (directed running d).offersDirective d = true ∧ directiveOf? d.code = some .regionList
        ∧ Instr.regionList.directive? = some .regionList ∧ d.payloadLength ≠ d.payload.length)
    ∧ (let d := dir 0x14#8 (List.replicate 65 0x00#8)
       (directed running d).offersDirective d = true ∧ 64 < d.payloadLength)
    ∧ (let d := dir 0x14#8 []
       (directed running d).offersDirective d = true
        ∧ d.payloadLength ≠ Directive.regionList.payloadLength) := by decide +kernel

/-- The first page staged. -/
def halfStaged (s : State) (first : Nat) : State :=
  { s with region := { s.region with staging := .firstSet first } }

/-- The last page of the array, and a page before the staged first page. -/
theorem witness_RangeStagingFollowsItsTable :
    (∀ s ∈ [running, halfStaged running 9], ∀ page ∈ [261887, 261888],
      (directed s (dir 0x10#8 (leBytes 4 page))).offersDirective (dir 0x10#8 (leBytes 4 page)) = true
        ∧ page < 2 ^ 32)
    ∧ (∀ s ∈ [running, halfStaged running 9, staged running 9 9], ∀ page ∈ [8, 9, 261887, 261888],
      (directed s (dir 0x11#8 (leBytes 4 page))).offersDirective (dir 0x11#8 (leBytes 4 page)) = true)
    ∧ ((directed (halfStaged running 9) (dir 0x12#8 [0x01#8])).offersDirective (dir 0x12#8 [0x01#8]) = true
      ∧ (directed running (dir 0x13#8 [])).offersDirective (dir 0x13#8 []) = true
      ∧ (halfStaged running 9).region.staging = .firstSet 9 ∧ running.region.staging = .empty) := by
  decide +kernel

/-- Pages 20 to 29 GUARDED and 30 to 39 FIXED. -/
def twoRegions : List Region :=
  [{ first := 20, last := 29, attr := .guarded }, { first := 30, last := 39, attr := .fixed }]

/-- A RANGE_APPLY of staged pages under a region table. -/
def applying (table : List Region) (first last : Nat) (attr : Byte) : State :=
  directed (staged { running with region := { running.region with table := table } } first last)
    (dir 0x12#8 [attr])

/-- Sixteen regions of one page each. -/
def sixteenRegions : List Region :=
  (List.range 16).map (fun k => { first := 2 * k, last := 2 * k, attr := .guarded })

theorem witness_RangeApplyWithoutARecord :
    (∀ x ∈ [(twoRegions, 40, 50, 3#8), (twoRegions, 20, 29, 1#8), (twoRegions, 30, 39, 2#8),
        (twoRegions, 29, 30, 1#8), (twoRegions, 30, 39, 1#8), (sixteenRegions, 31, 31, 1#8),
        (twoRegions, 30, 39, 0#8), (twoRegions, 20, 28, 0#8)],
      (applying x.1 x.2.1 x.2.2.1 x.2.2.2).offersDirective (dir 0x12#8 [x.2.2.2]) = true
        ∧ regionsLawful x.1 = true)
    ∧ 3#8 ∉ [0#8, 1#8, 2#8]
    ∧ (twoRegions[0]? = some { first := 20, last := 29, attr := .guarded }
      ∧ twoRegions[1]? = some { first := 30, last := 39, attr := .fixed })
    ∧ (∀ r ∈ twoRegions, r.first ≤ 30 → 29 ≤ r.last → ¬ (r.first = 29 ∧ r.last = 30))
    ∧ (∀ r ∈ twoRegions, r.first ≤ 39 → 30 ≤ r.last → r = { first := 30, last := 39, attr := .fixed })
    ∧ ((∀ r ∈ sixteenRegions, 31 < r.first ∨ r.last < 31) ∧ 16 ≤ sixteenRegions.length)
    ∧ { first := 30, last := 39, attr := .fixed } ∈ twoRegions
    ∧ ∀ r ∈ twoRegions, ¬ (r.first = 20 ∧ r.last = 28) := by decide +kernel

/-- A RANGE_APPLY that holds the engine while its record is programmed. -/
def applyingRecord (change : RegionChange) : State :=
  let s := carryingLog running 20 0 [.last (.region change) 0]
  { s with
    region := { s.region with table := twoRegions },
    engine := { s.engine with current := .rangeApply 7 }, link := { s.link with tags := [7] } }

theorem witness_RangeApplyRequestsItsRecord :
    (∀ change ∈ [RegionChange.add 25 26 .fixed, .add 40 40 .guarded, .promote 20 29, .remove 20 29],
      let s := applyingRecord change
      s.writer.program.any (fun p => s.endsAppend 1 3 p) = true
        ∧ s.writer.program.map WriterProgram.carried = some [.last (.region change) 0]
        ∧ s.engine.current = .rangeApply 7 ∧ s.region.table = twoRegions)
    ∧ (∀ x ∈ [(twoRegions, 20, 29, 2#8), (twoRegions, 20, 29, 0#8), (twoRegions, 40, 40, 1#8),
        (sixteenRegions.take 15, 29, 29, 2#8)],
      (appending (applying x.1 x.2.1 x.2.2.1 x.2.2.2) 7).offersDirective (dir 0x12#8 [x.2.2.2]) = true
        ∧ regionsLawful x.1 = true)
    ∧ (appending running 7).writer.state = .appending ∧ (appending running 7).writer.list.length < 8
    ∧ { first := 20, last := 29, attr := .guarded } ∈ twoRegions
    ∧ (∀ r ∈ twoRegions, 40 < r.first ∨ r.last < 40)
    ∧ ((∀ r ∈ sixteenRegions.take 15, 29 < r.first ∨ r.last < 29) ∧ (sixteenRegions.take 15).length < 16)
    ∧ 29 ≤ 29 ∧ judgeApply 2 29 29 (sixteenRegions.take 15) = .change (.add 29 29 .fixed) := by decide +kernel

/-- A drain whose last slot waits for its UNLOST record, in flight, with a RANGE_APPLY waiting in the list. -/
def lastSlotRecording (kind : DrainKind) (used : Nat) : State :=
  let s := carryingLog (lost recording) used 0 [.last unlostRequest 0]
  { s with
    control := { s.control with state := .draining, drain := some (drainOf kind) },
    writer := { s.writer with list := [{ kind := .region (.remove 20 29), taken := 0, void := false }] },
    engine := { s.engine with current := .rangeApply 7 }, link := { s.link with tags := [7] } }

theorem witness_RangeApplyRequestsItsRecord_refused :
    ∀ x ∈ [(DrainKind.power, 20), (.restart, 1022)],
      let s := lastSlotRecording x.1 x.2
      s.ready = true ∧ (1 : BankId).val < s.bankCount ∧ s.control.state = .draining ∧ s.control.startup = none
        ∧ s.control.drain = some (drainOf x.1) ∧ (drainOf x.1).shutdown = .notHanded
        ∧ (drainOf x.1).recordPermitted = true ∧ (s.bank 1).monitor = .programming
        ∧ (s.bank 1).program = .metadata ∧ (s.bank 1).awaited = [.programDone 3] ∧ s.writer.state = .appending
        ∧ (∀ k, (s.bank k).presence ≠ .absent ∧ (s.bank k).programQueue = [])
        ∧ s.writer.program.map WriterProgram.carried = some [.last (.unlost (some 0) 9) 0]
        ∧ s.writer.program.map (fun p => decide (s.writer.used + p.records < 1024)) = some true
        ∧ s.writer.list = [{ kind := .region (.remove 20 29), taken := 0, void := false }]
        ∧ s.engine.current = .rangeApply 7 ∧ s.remap.held = [] ∧ (s.slot 0).state = .recording
        ∧ (s.slot 0).page = 9 ∧ s.slotList 9 = [0] ∧ directoryLawful s.absorb.directory = true
        ∧ s.tracker.epochs = [{ fence := 1, state := .opened, outstanding := 1, lossy := false, notify := false }]
        ∧ ∀ j, j ≠ (0 : SlotId) → (s.slot j).state = .free ∨ (s.slot j).state = .stranded := by decide +kernel

/-- A walker over pages 9 to 20. -/
def scrubbing (s : State) (next : Nat) : State :=
  { s with region := { s.region with
      walker := some { first := 9, last := 20, next := next, zeroed := 3, skipped := 1 } } }

theorem witness_RangeScrubStartsTheWalker :
    ∀ s ∈ [directed (staged running 9 20) (dir 0x13#8 []),
        directed (staged (scrubbing running 15) 9 20) (dir 0x13#8 [])],
      s.offersDirective (dir 0x13#8 []) = true ∧ s.control.state = .running
        ∧ s.region.staging = .bothSet 9 20 := by decide +kernel

theorem witness_RegionListReportsFourEntries :
    ∀ start ∈ [0x00#8, 0x03#8, 0x0C#8, 0x10#8], ∀ state ∈ [.running, .degraded, .starting, .faulted],
      let s := directed { inState running state with
        region := { running.region with table := sixteenRegions } } (dir 0x14#8 [start])
      s.offersDirective (dir 0x14#8 [start]) = true := by decide +kernel

/-- A RELEASE of a slot, with page 9 STRANDED in slot 31 and a number of lost pages. -/
def releasing (slot : Byte) (lostPages : Nat) : State :=
  directed (appending (placed { running with
    remap := { running.remap with lost := (List.range lostPages).map (· + 100) } } 31
      (slotIn .stranded allBytes)) 7) (dir 0x20#8 [slot])

/-- Pages 9 with STRANDED slots 30 and 31, the older first, already lost. -/
def releasingLost : State :=
  directed (lost (placed (placed running 30 (slotIn .stranded allBytes)) 31 (slotIn .stranded allBytes)))
    (dir 0x20#8 [0x1F#8])

/-- A RELEASE of slot 31 that holds the engine while its LOST record is programmed. -/
def releasingRecord : State :=
  let s := carryingLog (placed (placed running 30 (slotIn .stranded allBytes)) 31 (slotIn .stranded allBytes))
    20 0 [.last (.lost 9) 0]
  { s with engine := { s.engine with current := .release 7 31 1 9 }, link := { s.link with tags := [7] } }

theorem witness_ReleaseJudgesTheSlotInOrder :
    (releasingLost.offersDirective (dir 0x20#8 [0x1F#8]) = true ∧ releasingLost.control.state = .running
      ∧ releasingLost.region.staging = .empty ∧ (releasingLost.slot 31).page ∈ releasingLost.remap.lost
      ∧ (∀ b, (releasingLost.bank b).noneWaits = true) ∧ releasingLost.sched.pendingMeta = none
      ∧ releasingLost.control.drain = none)
    ∧ (∀ s ∈ [releasingLost, releasingRecord],
      (s.slot 31).state = .stranded ∧ s.slotList (s.slot 31).page = [30] ++ [31]
        ∧ directoryLawful s.absorb.directory = true)
    ∧ (releasingRecord.writer.program.any (fun p => releasingRecord.endsAppend 1 3 p) = true
      ∧ releasingRecord.writer.program.map WriterProgram.carried = some [.last (.lost 9) 0]
      ∧ releasingRecord.engine.current = .release 7 31 1 9 ∧ (releasingRecord.slot 31).age = 1
      ∧ (releasingRecord.slot 31).page = 9)
    ∧ (∀ x ∈ [(0x20#8, 0), (0x00#8, 0), (0x1F#8, 32), (0x1F#8, 31)],
      let s := releasing x.1 x.2
      s.offersDirective (dir 0x20#8 [x.1]) = true ∧ s.control.state = .running ∧ s.region.staging = .empty)
    ∧ 31 < (0x20#8).toNat ∧ (0 : SlotId).val = (0x00#8).toNat ∧ ((releasing 0x00#8 0).slot 0).state ≠ .stranded
    ∧ ((31 : SlotId).val = (0x1F#8).toNat ∧ ((releasing 0x1F#8 32).slot 31).state = .stranded
      ∧ ((releasing 0x1F#8 32).slot 31).page ∉ (releasing 0x1F#8 32).remap.lost
      ∧ 32 ≤ (releasing 0x1F#8 32).remap.lost.length)
    ∧ (((releasing 0x1F#8 31).slot 31).state = .stranded
      ∧ ((releasing 0x1F#8 31).slot 31).page ∉ (releasing 0x1F#8 31).remap.lost
      ∧ (releasing 0x1F#8 31).remap.lost.length < 32 ∧ (releasing 0x1F#8 31).remap.unrecorded = []
      ∧ (releasing 0x1F#8 31).remap.held = [] ∧ (releasing 0x1F#8 31).writer.state = .appending
      ∧ (releasing 0x1F#8 31).writer.list.length < 8) := by decide +kernel

/-- The LOST record of a RELEASE in flight, its slot FREE, or STRANDED again with another age. -/
theorem witness_ReleaseJudgesTheSlotInOrder_left :
    ∀ x ∈ [Slot.unused, { slotIn .stranded allBytes with age := 2 }],
      let s := releasingRecord.setSlot 31 x
      s.writer.program.any (fun p => s.endsAppend 1 3 p) = true
        ∧ s.writer.program.map WriterProgram.carried = some [.last (.lost 9) 0]
        ∧ s.engine.current = .release 7 31 1 9 ∧ ¬ ((s.slot 31).state = .stranded ∧ (s.slot 31).age = 1)
        ∧ s.remap.unrecorded = [] ∧ ∀ k, (s.bank k).presence ≠ .absent := by decide +kernel

theorem witness_RemapQueryReportsThePage :
    ∀ x ∈ [(9, (1 : BankId)), (261887, 3), (261888, 0)], ∀ state ∈ [.running, .degraded, .starting, .dormant],
      let s := directed (inState factual state) (dir 0x21#8 (leBytes 4 x.1))
      s.offersDirective (dir 0x21#8 (leBytes 4 x.1)) = true ∧ x.1 < 2 ^ 32
        ∧ x.2.val = x.1 % s.bankCount := by decide +kernel

/-- FAULTED with METADATA_CORRUPT, with a slot and facts left from before. -/
def corrupt : State :=
  { inState (placed factual 0 (slotIn .queued allBytes)) .faulted with
    control := { (inState running .faulted).control with faultReason := .metadataCorrupt },
    sched := { banks := Vector.replicate 8 { restingBank with monitor := .faulted }, pendingMeta := none },
    writer := { running.writer with state := .stopped } }

/-- A payload of the wrong length in each bridge state, for a directive that it admits. -/
theorem witness_BadCodeOrLengthIsAnswered_states :
    (∀ x ∈ [(startingAt .identify, 0x40#8, Directive.statusFetch), (inState running .degraded, 0x01#8, .flush),
        (draining .power, 0x41#8, .incidentTake), (inState running .dormant, 0x40#8, .statusFetch),
        (corrupt, 0x31#8, .reformat)],
      let d := dir x.2.1 (List.replicate 9 0x00#8)
      (directed x.1 d).offersDirective d = true ∧ directiveOf? d.code = some x.2.2
        ∧ x.1.region.staging = .empty ∧ d.payloadLength ≠ x.2.2.payloadLength)
    ∧ Instr.statusFetch.directive? = some .statusFetch ∧ Instr.flush.directive? = some .flush
    ∧ Instr.incidentTake.directive? = some .incidentTake ∧ Instr.reformat.directive? = some .reformat
    ∧ corrupt.control.faultReason = .metadataCorrupt := by decide +kernel

theorem witness_ReformatEmptiesTheLogsTables :
    let s := directed corrupt (dir 0x31#8 [])
    s.offersDirective (dir 0x31#8 []) = true ∧ s.control.state = .faulted
      ∧ s.control.faultReason = .metadataCorrupt ∧ s.control.drain = none ∧ s.region.staging = .empty
      ∧ ∀ b, (s.bank b).monitor = .faulted := by decide +kernel

/-- Conditions 0 and 10 latched, with five incidents. -/
def eventful (s : State) : State :=
  { s with engine := { s.engine with
      latched := 0x401#32,
      incidents := (List.range 5).map (fun k => { kind := .readFailed, fence := k, page := some 9 }) } }

theorem witness_StatusFetchPeeksOrTakes :
    ∀ s ∈ [eventful running, startingAt .identify, inState running .faulted], ∀ mode ∈ [0x00#8, 0x01#8, 0x02#8],
      (directed s (dir 0x40#8 [mode])).offersDirective (dir 0x40#8 [mode]) = true := by decide +kernel

/-- The largest values the record's fields take. -/
def brimful : State :=
  { eventful (fullEpochs factual) with
    tracker := { (fullEpochs factual).tracker with fenceCounter := 65535, lastPersisted := 65535 },
    remap := { factual.remap with lost := List.range 32 },
    control := { factual.control with
      previous := { outcome := .truncated, lastPersisted := 65535, stranded := 32 },
      session := 0xFFFFFFFF#32 },
    region := { factual.region with table := sixteenRegions } }

theorem witness_StatusRecordHoldsEachField :
    brimful.tracker.epochs.length ≤ 8 ∧ brimful.tracker.lastPersisted ≤ 65535
      ∧ brimful.tracker.fenceCounter ≤ 65535 ∧ brimful.remap.lost.length ≤ 32
      ∧ brimful.region.table.length ≤ 16 ∧ brimful.engine.incidents.length ≤ 16 ∧ brimful.bankCount ≤ 8
      ∧ brimful.control.previous.lastPersisted ≤ 65535 ∧ brimful.control.previous.stranded ≤ 32
      ∧ ∀ b : BankId, (brimful.remap.free[b.val]).length ≤ 64 := by decide +kernel

theorem witness_IncidentTakeRemovesTheOldestFour :
    ∀ s ∈ [eventful running, inState running .faulted, inState running .starting],
      (directed s (dir 0x41#8 [])).offersDirective (dir 0x41#8 []) = true := by decide +kernel

/-- An incident of a kind whose fields are the largest they can be, with or without those at the shared bytes. -/
def greatIncident (kind : IncidentKind) (tag region metadataPage spareOld : Option Nat) : Incident :=
  { kind := kind, fence := 65535, page := some (2 ^ 32 - 1), bank := some 7, slot := some 31, tag := tag,
    region := region, metadataPage := metadataPage, spareOld := spareOld, operation := some 65535,
    index := some (2 ^ 32 - 1) }

theorem witness_IncidentRecordHoldsEachField :
    ∀ i ∈ [greatIncident .metadataFault (some 63) none (some 127) none,
        greatIncident .stranded none none none (some 63), greatIncident .remapped none none none (some 63),
        greatIncident .protectedWrite none (some 15) none none],
      (i.tag = none ∨ i.region = none) ∧ (i.metadataPage = none ∨ i.spareOld = none)
        ∧ (i.kind = .protectedWrite → i.tag = none) ∧ i.page.getD 0 < 2 ^ 32 ∧ i.index.getD 0 < 2 ^ 32
        ∧ i.fence < 65536 ∧ i.operation.getD 0 < 65536 ∧ i.bank.getD 0 < 8 ∧ i.slot.getD 0 < 32
        ∧ i.tag.getD 0 < 64 ∧ i.metadataPage.getD 0 < 128 ∧ i.spareOld.getD 0 < 64
        ∧ i.region.getD 0 < 16 := by decide +kernel

/-- A PROFILE request: mode, KEEP set, five values and an ALERT_MASK of ones. -/
def profileOf (mode : Byte) (keep : BitVec 8) (v₂ v₃ v₄ v₅ : Byte) : DirRequest :=
  dir 0x42#8 [mode, keep, 0x00#8, v₂, v₃, v₄, v₅, 0x00#8, 0xFF#8, 0xFF#8, 0xFF#8, 0xFF#8]

/-- Each group at the last value it takes and at the first it does not, kept and not kept. -/
theorem witness_ProfileProbesAndApplies :
    (∀ mode ∈ [0x00#8, 0x01#8, 0x02#8],
      ∀ d ∈ [profileOf mode 0x00#8 16#8 7#8 3#8 8#8, profileOf mode 0x00#8 17#8 8#8 4#8 7#8,
        profileOf mode 0x3F#8 17#8 8#8 4#8 7#8], (directed running d).offersDirective d = true)
    ∧ running.control.state = .running ∧ running.region.staging = .empty
    ∧ ¬ 16 < (16#8).toNat ∧ ¬ 7 < (7#8).toNat ∧ ¬ 3 < (3#8).toNat ∧ ¬ (8#8).toNat < 8
    ∧ 16 < (17#8).toNat ∧ 16 ≤ running.freeCount := by decide +kernel

/-- Two OPEN slots of one bank, which a raised LOW_WATER closes: by last-merge time, and by age where that is alike. -/
theorem witness_ProfileProbesAndApplies_lowWater :
    ∀ x ∈ [((5, 6), (2, 1)), ((5, 5), (1, 2))],
      let slot := fun (page merged age : Nat) =>
        { slotIn .opened someBytes with page := page, age := age, lastMerge := merged, closeTimer := .running 1200 }
      let few := fewFree (bankReading (placed (placed running 3 (slot 13 x.1.1 x.2.1)) 2 (slot 17 x.1.2 x.2.2)))
      let d := profileOf 0x01#8 0x00#8 16#8 7#8 3#8 8#8
      let s := directed { few with engine := { few.engine with profile := Profile.default } } d
      s.offersDirective d = true ∧ s.control.state = .running ∧ s.region.staging = .empty
        ∧ s.freeCount < 16 ∧ (∀ k, (s.slot k).state = .opened ↔ k = 3 ∨ k = 2)
        ∧ ((s.slot 3).lastMerge < (s.slot 2).lastMerge
          ∨ (s.slot 3).lastMerge = (s.slot 2).lastMerge ∧ (s.slot 3).age < (s.slot 2).age)
        ∧ (∀ k ∈ [(3 : SlotId), 2], (s.slot k).image.full = false ∧ s.slotList (s.slot k).page = [k]
          ∧ (s.slot k).page ∉ s.remap.lost ∧ (s.slot k).page % geo.banks = (1 : BankId).val)
        ∧ s.geometry = some geo ∧ (s.bank 1).monitor = .reading := by decide +kernel

/-- A page of a scrub in a region, one with a QUEUED slot, and one that finds too few FREE slots. -/
theorem witness_ScrubVisitsOnePage :
    (let s := scrubbing (guarded running) 20
     s.ready = true ∧ s.control.state = .running
      ∧ s.region.walker = some { first := 9, last := 20, next := 20, zeroed := 3, skipped := 1 }
      ∧ s.unprotected 20 = false)
    ∧ (let s := scrubbing queuedBehind 9
       s.ready = true ∧ s.control.state = .running
        ∧ s.region.walker = some { first := 9, last := 20, next := 9, zeroed := 3, skipped := 1 }
        ∧ s.unprotected 9 = true ∧ s.soleEligible 9 1 = true ∧ (s.slot 1).state ≠ .opened)
    ∧ (let s := scrubbing noFreeSlot 10
       s.ready = true ∧ s.control.state = .running
        ∧ s.region.walker = some { first := 9, last := 20, next := 10, zeroed := 3, skipped := 1 }
        ∧ s.unprotected 10 = true ∧ s.noneEligible 10 = true
        ∧ s.freeCount ≤ s.engine.profile.lowWater) := by decide +kernel

/-- Slot 1 of page 9 as a scrub finds it: OPEN in its epoch, behind another slot. -/
def scrubbedBehind (s : State) (older : SlotState) : State :=
  scrubbing (placed (placed s 0 { slotIn older allBytes with epoch := 65535 }) 1
    { slotIn .opened someBytes with closeTimer := .running 1200 }) 9

/-- Page 9 as a scrub finds it: without a slot it may merge into, behind an older slot. -/
def scrubbedAlone (s : State) (older : SlotState) : State :=
  scrubbing (placed s 0 { slotIn older allBytes with epoch := 65535 }) 9

/-- An OPEN slot and a page that is granted one, behind a STRANDED and a PROGRAMMING slot, in an epoch that is not the
head and in the head epoch with bank 1 at work. -/
theorem witness_ScrubVisitsOnePage_full :
    (∀ s ∈ [laterEpoch, bankReading running], ∀ older ∈ [SlotState.stranded, .programming],
      (let t := scrubbedBehind s older
       t.ready = true ∧ t.control.state = .running ∧ t.region.walker.map Walker.next = some 9
        ∧ t.unprotected 9 = true ∧ t.soleEligible 9 1 = true ∧ (t.slot 1).state = .opened ∧ (t.slot 1).page = 9
        ∧ t.slotList 9 = [0] ++ 1 :: [] ∧ (t.slot 0).state = older)
      ∧ (let t := scrubbedAlone s older
         t.ready = true ∧ t.control.state = .running ∧ t.region.walker.map Walker.next = some 9
          ∧ t.unprotected 9 = true ∧ t.noneEligible 9 = true ∧ t.engine.profile.lowWater < t.freeCount
          ∧ t.link.head = none ∧ (t.slot 1).state = .free ∧ (∀ j, j < (1 : SlotId) → (t.slot j).state ≠ .free)
          ∧ directoryLawful t.absorb.directory = true ∧ t.slotList 9 = [0] ∧ (t.slot 0).state = older))
    ∧ laterEpoch.headFence? ≠ some (nextFence laterEpoch.tracker.fenceCounter)
    ∧ running.headFence? = some (nextFence running.tracker.fenceCounter) ∧ running.geometry = some geo
    ∧ (1 : BankId).val = 9 % geo.banks ∧ ((bankReading running).bank 1).monitor ≠ .idle := by decide +kernel

/-! ## Small tests of single commands and operations -/

/-- The state after a command. -/
def after (c : Instr) (s : State) : State :=
  match exec c s with
  | .next t => t
  | _ => State.reset

/-- The Introduction's table for the four-bank array, and its largest array. -/
theorem test_geometry :
    geo.capacityPages = 261888 ∧ (running.bankOfPage 3906).val = 2 ∧ running.targetIndex 3906 .own = 976
      ∧ running.spareIndex 0 = 65472 ∧ (running.metaBank 5).val = 1 ∧ running.metaIndex 5 = 65505
      ∧ ({ banks := 8, pages := 4194304, spares := 16 } : Geometry).capacityPages = 33554176 := by decide +kernel

/-- Section 1.9, before step 1: the fence counter is 6, and slots 0 to 2 hold other pages. -/
def sectionOneNine : State :=
  placed (placed (placed { running with
      tracker := { epochs := [{ fence := 7, state := .opened, outstanding := 0, lossy := false, notify := false }],
                   fenceCounter := 6, lastPersisted := 6 },
      absorb := { running.absorb with opened := 40 } }
    0 { slotIn .stranded allBytes with page := 100 }) 1 { slotIn .stranded allBytes with page := 101 })
    2 { slotIn .stranded allBytes with page := 102 }

/-- The WRITE of 64 bytes at 999,936 with tag 5. -/
def firstWrite : WriteRequest :=
  { tag := 5, length := 64, fence := false, notify := false, address := 999936,
    data := List.replicate 64 0x77#8 }

/-- Section 1.9, step 1: slot 3 is OPEN in epoch 7 with age 41 and offsets 0 to 63. -/
theorem test_write_opens_slot :
    let x := (after .writeTake (offering sectionOneNine (.write firstWrite))).slot 3
    x.state = .opened ∧ x.page = 3906 ∧ x.epoch = 7 ∧ x.age = 41 ∧ x.image.byte 63 = some 0x77#8
      ∧ x.image.byte 64 = none := by decide +kernel

/-- Section 1.9, step 3: the close timer sends slot 3 to FILLING with a read of bank 2, index 976. -/
theorem test_close_timer_fills :
    let s := after (.closeTimerExpiry 3) (after .writeTake (offering sectionOneNine (.write firstWrite)))
    (s.slot 3).state = .filling ∧ s.arrayOut = [.readPage 2 976 1] ∧ s.now = 1200 := by decide +kernel

/-- Section 1.9, step 5: a FENCE write of page 3,906 merges, takes fence 7 and is answered with it. -/
theorem test_fence_write :
    let s := placed sectionOneNine 3 { slotIn .filling someBytes with page := 3906, epoch := 7 }
    let t := after .writeTake (offering s (.write { firstWrite with fence := true }))
    t.tracker.fenceCounter = 7 ∧ (t.slot 3).state = .filling
      ∧ t.tracker.epochs.map Epoch.fence = [7, 8]
      ∧ t.link.responses = [.credit .memory false 1, .writeDone 5 .ok 7] := by decide +kernel

/-- A RANGE_APPLY that holds its request for room, beside a request that waits in the list. -/
theorem witness_ResetTimeoutMarksAbsentOrFaults_held :
    let s := resetting { holding (appending running 8) with
      engine := { running.engine with current := .rangeApply 7 }, link := { running.link with tags := [7] } }
      1 .present
    s.ready = true ∧ (s.bank 1).resetTimer = .running 1500 ∧ s.control.state ≠ .starting
      ∧ s.engine.current = .rangeApply 7
      ∧ s.region.held = some { kind := .region (.remove 1 2), taken := 0, void := false } := by decide +kernel

/-- R79: the entry to FAULTED answers the waiting read HALTED, with no data, and lowers the pin of its page. -/
theorem test_fault_answers_reads :
    let t := after (.resetTimerExpiry 1) (resetting busyRunning 1 .present)
    .readData 5 .halted [] ∈ t.link.responses ∧ t.pinCount 9 = 0 := by decide +kernel

/-- Section 3.11, step 4: the third failure hands the slot over; the lowest free spare, 0, is its target. -/
theorem test_third_failure_hands_over :
    let s := after (.programDone 1 3 .programFail) (attempted programming 2)
    (s.slot 0).target = some (.spare 0) ∧ (s.slot 0).attempts = 0
      ∧ s.arrayOut = [.programPage 1 65472 4 (.bytes (List.replicate 256 0x11#8))] := by decide +kernel

/-- R54 and R88: a success at a spare sends the slot to RECORDING. -/
theorem test_spare_success_records :
    ((after (.programDone 1 3 .ok) (programming.setSlot 0 { programming.slot 0 with
      target := some (.spare 0) })).slot 0).state = .recording := by decide +kernel

/-- Section 7.5, step 2: a last page below the first is BAD_ARGUMENT and keeps the staged first page. -/
theorem test_range_last_below_first :
    let s := after .rangeLast (directed (halfStaged running 1000) (dir 0x11#8 (leBytes 4 900)))
    s.region.staging = .firstSet 1000
      ∧ s.link.responses = [.credit .directive false 1, .directiveDone 7 .badArgument []] := by decide +kernel

/-- Section 7.5, step 5: FLUSH discards the staging, latches RANGE_ABANDONED and is carried out. -/
theorem test_flush_abandons_staging :
    let s := after .flush (directed (staged running 1000 1099) (dir 0x01#8 []))
    s.region.staging = .empty ∧ s.engine.latched = 0x100#32 ∧ s.tracker.fenceCounter = 1 := by decide +kernel

/-- Section 7.5, step 13: NONE on a FIXED entry is REFUSED_FIXED. -/
theorem test_fixed_stays :
    (after .rangeApply (applying twoRegions 30 39 0x00#8)).link.responses
      = [.credit .directive false 1, .directiveDone 7 .refusedFixed []] := by decide +kernel

/-- R142: the bytes of a WRITE_DONE with fence number 7 and of a CREDIT with a FULL grant of 16. -/
theorem test_sent_bytes :
    (Packet.writeDone 8 .ok 7).bytes 0#2 = [0x82#8, 0x08#8, 0x00#8, 0x00#8, 0x07#8, 0x00#8]
      ∧ (Packet.credit .memory true 16).bytes 0#2 = [0x93#8, 0x00#8, 0x01#8, 0x10#8] := by decide +kernel

/-- R142: a WRITE packet with FENCE at address 1,000,096, written out byte by byte. -/
theorem test_write_packet_is_read :
    parsePacket ([0x02#8, 0x08#8, 0x01#8, 0x01#8, 0xA0#8, 0x42#8, 0x0F#8, 0x00#8, 0x00#8, 0x00#8, 0x00#8, 0x00#8]
        ++ [0x5A#8])
      = .memory (.write { tag := 8, length := 1, fence := true, notify := false, address := 1000096,
                          data := [0x5A#8] }) := by decide +kernel

/-- R164 and R165: the release of RESET_N sends BANK_RESET to all eight banks. -/
theorem test_release_resets_banks :
    (after .resetNRelease State.reset).arrayOut = allBanks.map ArrayCommand.bankReset := by decide +kernel

/-- R117: a waiting write whose page has come inside a region goes on waiting while it could not be absorbed, and is
answered PROTECTED once a slot is FREE. -/
theorem test_waiting_write_is_protected :
    let stuck := after .stalledWriteAbsorb (waiting (guarded noFreeSlot) (writeTo 9))
    let free := after .stalledWriteAbsorb (waiting (guarded running) (writeTo 12))
    stuck.link.head = some (writeTo 9) ∧ stuck.link.responses = [] ∧ free.link.head = none
      ∧ free.link.responses = [.writeDone 5 .protectedPage 0] := by decide +kernel

/-- A POWER drain cut short by its budget, its SHUTDOWN in flight, with a MAP request behind it and another held for
room, the slot of the first in RECORDING. -/
def endingWithRequests : State :=
  let s := carryingLog { recording with control := (draining .power).control } 20 0
    [.last (.shutdown 1#32 .truncated 0 0) 0]
  { s with
    writer := { s.writer with list := [Request.of mapRequest] },
    remap := { s.remap with held := [Request.of (.unlost none 30)] } }

theorem witness_PersistedAppendAdvancesTheLog_kept :
    let s := endingWithRequests
    s.writer.program.any (fun p => State.inLastAppend { s with
        writer := { s.writer with list := [] }, remap := { s.remap with held := [] } } 1 3 p) = true
      ∧ s.writer.program.map WriterProgram.carried = some [.last (.shutdown 1#32 .truncated 0 0) 0]
      ∧ s.control.state = .draining ∧ s.control.startup = none
      ∧ s.control.drain = some { drainOf .power with shutdown := .handed } ∧ s.region.held = none
      ∧ s.writer.list ++ s.remap.held = [Request.of mapRequest, Request.of (.unlost none 30)] := by
  decide +kernel

/-- R43 and R171: in DORMANT the slot in RECORDING, its request and the epoch list stay as the drain left them, and the
held request does not join. -/
theorem test_dormant_keeps_requests :
    let s := after (.programDone 1 3 .ok) endingWithRequests
    s.control.state = .dormant ∧ (s.slot 0).state = .recording ∧ s.tracker = endingWithRequests.tracker
      ∧ s.writer.list = endingWithRequests.writer.list
      ∧ after (.metadataRequestJoin .remapUnit) s = s := by decide +kernel

/-- R151: the RANGE_APPLY that still holds the engine as a POWER drain ends is answered FAILED. -/
theorem test_held_directive_is_answered :
    let s := after (.programDone 1 3 .ok) endingWithApply
    s.control.state = .dormant ∧ s.engine.current = .absent
      ∧ s.link.responses = [.directiveDone 3 .failed []] := by decide +kernel

/-- R61 and R171: a read that times out under the last suspended program of a spent budget ends the program's attempt,
so no bank carries a data program and the SHUTDOWN is handed, TRUNCATED, and dispatched. -/
theorem test_read_timeout_ends_a_spent_drain :
    let s := servingBatch false 0
    let drain := { drainOf .power with budget := some 8, count := 7 }
    let t := after (.readTimerExpiry 1) { s with
      control := { s.control with state := .draining, drain := some drain }, writer := { s.writer with used := 32 } }
    t.control.drain = some { drain with shutdown := .handed, count := 8 }
      ∧ t.writer.program.map WriterProgram.carried = some [.last (.shutdown 1#32 .truncated 0 0) 0] := by
  decide +kernel

/-- R86: a retirement listed while a LOST request is held goes ahead of it. -/
theorem test_retirement_precedes_held_request :
    let h := holding (appending running 6)
    let s := { h with remap := { h.remap with unrecorded := [(1, 3)] } }
    ((after (.metadataRequestJoin .remapUnit) (after (.metadataRequestJoin .remapUnit) s)).writer.list.drop 6).map
      Request.kind = [.retire [(1, 3)], .lost 31] := by decide +kernel

/-- R81, R157 and R158: every count is 0 from IDENTIFY to the derivation, so SPARES_LOW holds. -/
theorem test_spares_low_before_derivation :
    ({ startingAt (.replay (Replay.start 0 1)) with remap := RemapUnit.afterReset } : State).holds .sparesLow
      = true ∧ State.reset.holds .sparesLow = false := by decide +kernel

/-- R29: fence number 1 follows 65,535. -/
theorem test_fence_numbers_wrap : nextFence 65535 = 1 ∧ nextFence 65534 = 65535 := by decide

/-! ## What every command and every step keeps -/

/-- A state that meets the invariants, with a command that waits. -/
def queued (s : State) (c : Instr) : State := { s with pending := [c] }

theorem witness_EveryStepKeepsBridgeControlSound :
    (queued programming (.programDone 1 3 .ok)).sound = true
      ∧ step (queued programming (.programDone 1 3 .ok)) = exec (.programDone 1 3 .ok) programming :=
  ⟨by decide +kernel, rfl⟩

theorem witness_EveryStepKeepsTheEpochListLawful :
    (queued (flushed (fullEpochs running)) .flush).tracker.lawful = true
      ∧ step (queued (flushed (fullEpochs running)) .flush) = exec .flush (flushed (fullEpochs running)) :=
  ⟨by decide +kernel, rfl⟩

theorem witness_EveryStepKeepsTheBounds :
    (queued fullLanes (.hostRequestArrival readPacket)).bounded = true
      ∧ step (queued fullLanes (.hostRequestArrival readPacket))
        = exec (.hostRequestArrival readPacket) fullLanes := ⟨by decide +kernel, rfl⟩

theorem witness_CommandsLeaveTheQueueAndTheLines :
    Instr.restart.drivesLine = false
      ∧ exec .restart running = .next running := ⟨by decide, rfl⟩

end Sys2Proof.Tests
end

/-! ## Lookups -/

section
/-!
SUPPORT. What the lookups of the Absorb Buffer and the Region Unit find, what closure and the queues of a bank
do to a state, and when nothing becomes due.
-/

namespace Sys2Proof.Machine

theorem mem_allSlots : ∀ i : SlotId, i ∈ allSlots := by decide

theorem mem_allBanks : ∀ b : BankId, b ∈ allBanks := by decide

theorem nodup_allSlots : allSlots.Nodup := by decide

/-- The slots below one, the slot itself, and those above it. -/
theorem allSlots_split : ∀ i : SlotId,
    allSlots = allSlots.filter (fun j => decide (j < i)) ++ i :: allSlots.filter (fun j => decide (i < j)) := by
  decide

section
variable (s : State)

/-! ### Slots of a page -/

theorem lowestFree?_of_first (i : SlotId) (hi : (s.slot i).state = .free)
    (hlow : ∀ j, j < i → (s.slot j).state ≠ .free) : s.lowestFree? = some i := by
  refine List.find?_eq_some_iff_append.mpr ⟨by simp [hi], _, _, allSlots_split i, fun j hj => ?_⟩
  have below : j < i := by simpa using (List.mem_filter.mp hj).2
  simp [hlow j below]

theorem lowestFree?_eq_none_iff : s.lowestFree? = none ↔ ∀ i, (s.slot i).state ≠ .free := by
  simp [State.lowestFree?, mem_allSlots]

/-- A page's merge-eligible slot is the first of its slot list that R8 admits. -/
theorem mergeEligible?_eq (page : Nat) : s.mergeEligible? page = (s.slotList page).find? s.eligible := by
  unfold State.mergeEligible? State.eligible
  congr 1
  funext i
  simp [List.contains_eq_mem, Bool.or_assoc, State.currentEpoch, beq_eq_decide]

theorem mergeEligible?_of_sole (page : Nat) (i : SlotId) (h : s.soleEligible page i = true) :
    s.mergeEligible? page = some i := by
  simp only [State.soleEligible, Bool.and_eq_true, List.contains_eq_mem, decide_eq_true_eq, List.all_eq_true,
    Bool.or_eq_true, beq_iff_eq, Bool.not_eq_true'] at h
  obtain ⟨⟨hmem, hel⟩, hall⟩ := h
  rw [mergeEligible?_eq]
  cases hf : (s.slotList page).find? s.eligible with
  | none => exact absurd hel (List.find?_eq_none.mp hf i hmem)
  | some j =>
    have isIt := hall j (List.mem_of_find?_eq_some hf)
    have found := List.find?_some hf
    simp_all

theorem mergeEligible?_eq_none_iff (page : Nat) : s.mergeEligible? page = none ↔ s.noneEligible page = true := by
  simp [mergeEligible?_eq, State.noneEligible]

/-- A merge-eligible slot is in one of the four states of R8 and in the current epoch. -/
theorem eligible_of_sole (page : Nat) (i : SlotId) (h : s.soleEligible page i = true) : s.eligible i = true := by
  simp only [State.soleEligible, Bool.and_eq_true] at h; exact h.1.2

/-- A slot in one of the four states of R8 is neither FREE nor STRANDED. -/
theorem busy_of_eligible (i : SlotId) (h : s.eligible i = true) :
    (s.slot i).state ≠ .free ∧ (s.slot i).state ≠ .stranded := by
  constructor <;> intro e <;> simp [State.eligible, e] at h

theorem epoch_of_eligible (i : SlotId) (h : s.eligible i = true) : (s.slot i).epoch = s.currentEpoch := by
  simp only [State.eligible, Bool.and_eq_true, beq_iff_eq] at h; exact h.2

/-- The older slots of a slot are those before its first place in the list. -/
theorem olderIn_append (older newer : List SlotId) (i : SlotId) (h : i ∉ older) :
    olderIn (older ++ i :: newer) i = older := by
  have before : ∀ j ∈ older, (j != i) = true := fun j hj => by
    simpa using fun e : j = i => h (e ▸ hj)
  simp [olderIn, List.takeWhile_append_of_pos before]

theorem olderSlots_of_list (i : SlotId) (older newer : List SlotId)
    (hl : s.slotList (s.slot i).page = older ++ i :: newer) (h : i ∉ older) : s.olderSlots i = older := by
  rw [State.olderSlots, hl, olderIn_append _ _ _ h]

theorem olderSlots_setSlot (i j : SlotId) (x : Slot) (h : x.page = (s.slot i).page) :
    (s.setSlot i x).olderSlots j = s.olderSlots j := by
  have page : ((s.setSlot i x).slot j).page = (s.slot j).page := by
    by_cases e : i = j
    · subst e; simp [h]
    · rw [slot_setSlot_ne s i j x e]
  simp only [State.olderSlots, page]
  rfl

theorem setSlot_self (i : SlotId) : s.setSlot i (s.slot i) = s := by
  simp [State.setSlot, State.slot]

/-! ### Regions -/

theorem regionIndex?_eq (page k : Nat) (table : List Region) : regionIndex? page k table
    = (table.findIdx? (fun r => decide (r.first ≤ page) && decide (page ≤ r.last))).map (fun n => n + k) := by
  induction table generalizing k with
  | nil => rfl
  | cons r rest ih =>
    rw [regionIndex?, List.findIdx?_cons]
    split
    · simp
    · simp [ih, Function.comp_def, Nat.add_comm, Nat.add_left_comm]

/-- The region index of a covered page is the place of its entry in the table (R117). -/
theorem coveringRegion?_eq (page : Nat) : s.coveringRegion? page
    = s.region.table.findIdx? (fun r => decide (r.first ≤ page) && decide (page ≤ r.last)) := by
  simp [State.coveringRegion?, regionIndex?_eq]

theorem coveringRegion?_eq_none_iff (page : Nat) :
    s.coveringRegion? page = none ↔ s.unprotected page = true := by
  simp only [coveringRegion?_eq, List.findIdx?_eq_none_iff, State.unprotected, List.all_eq_true,
    Bool.and_eq_false_iff, decide_eq_false_iff_not, Bool.or_eq_true, decide_eq_true_eq, Nat.not_le]

/-! ### When nothing is due -/

/-- A state that keeps what `quiet` reads, with no slot newly at rest and no bank newly without its data program, has
nothing due where the state before had nothing due. -/
theorem quiet_of_busier (t : State) (h : s.quiet = true) (hc : t.control = s.control)
    (hw : t.writer.state = s.writer.state) (hg : t.geometry = s.geometry)
    (hs : t.slotsAtRest = true → s.slotsAtRest = true)
    (hb : ∀ b, (s.bank b).carriesData = true → (t.bank b).carriesData = true) : t.quiet = true := by
  have count : t.bankCount = s.bankCount := by simp [State.bankCount, hg]
  have ends : ∀ d, t.drainAtEnd d = true → s.drainAtEnd d = true := by
    intro d
    simp only [State.drainAtEnd, Bool.or_eq_true, State.banksInUse, count]
    refine Or.imp hs ?_
    cases d.budget with
    | none => simp
    | some n =>
      simp only [Bool.and_eq_true, List.all_eq_true, Bool.not_eq_true']
      refine And.imp_right fun all b hmem => Bool.eq_false_iff.mpr fun carries => ?_
      exact absurd (hb b carries) (by simp [all b hmem])
  unfold State.quiet at h ⊢
  rw [hc, hw, State.stage?, hc]
  revert h
  refine fun h => ?_
  simp only [Bool.and_eq_true] at h ⊢
  refine ⟨?_, h.2⟩
  have first := h.1
  cases hd : s.control.drain with
  | none => rfl
  | some d =>
    rw [hd] at first
    revert first
    cases hsd : d.shutdown with
    | notHanded =>
      simp only [hsd, Bool.not_eq_true', Bool.eq_false_iff]
      exact fun quietNow due => quietNow (ends d due)
    | handed => simp [hsd]
    | answered => simp [hsd]

/-- Outside a drain and a start-up nothing is due. -/
theorem quiet_of_calm (hd : s.control.drain = none) (hs : s.control.startup = none) : s.quiet = true := by
  simp [State.quiet, State.stage?, hd, hs]

/-- The slots are not all at rest while one is in another state than FREE and STRANDED. -/
theorem slotsAtRest_false (i : SlotId) (h1 : (s.slot i).state ≠ .free) (h2 : (s.slot i).state ≠ .stranded) :
    s.slotsAtRest = false := by
  rw [State.slotsAtRest, List.all_eq_false]
  exact ⟨s.slot i, by simp [State.slot], by simp [h1, h2]⟩

end
end Sys2Proof.Machine
end

/-! ## Closure and the queues of a bank -/

section
/-!
SUPPORT. What closure makes of a slot, and what a bank does with a slot or a read job that joins its queues, one
lemma for each case.
-/

namespace Sys2Proof.Machine

section
variable (s : State)

/-! ### Geometry -/

@[simp] theorem bankOfPage_setSlot (i : SlotId) (x : Slot) (page : Nat) :
    (s.setSlot i x).bankOfPage page = s.bankOfPage page := rfl

@[simp] theorem bankOfPage_setBank (b : BankId) (x : Bank) (page : Nat) :
    (s.setBank b x).bankOfPage page = s.bankOfPage page := rfl

@[simp] theorem headFence?_setSlot (i : SlotId) (x : Slot) : (s.setSlot i x).headFence? = s.headFence? := rfl

@[simp] theorem headFence?_setBank (b : BankId) (x : Bank) : (s.setBank b x).headFence? = s.headFence? := rfl

theorem bankOfPage_of_geometry (g : Geometry) (c : BankId) (page : Nat) (hg : s.geometry = some g)
    (hc : page % g.banks = c.val) : s.bankOfPage page = c := by
  apply Fin.ext
  simp [State.bankOfPage, State.bankCount, hg, hc, Fin.ofNat, Nat.mod_eq_of_lt c.isLt]

/-- The bank page index of a page's current location (R1, R22). -/
theorem targetIndex_currentTarget (g : Geometry) (page : Nat) (hg : s.geometry = some g) :
    s.targetIndex page (s.currentTarget page)
      = match mapSpare? s.remap.table page with
        | some k => g.pages - g.spares - 128 / g.banks + k
        | none => page / g.banks := by
  unfold State.currentTarget
  cases mapSpare? s.remap.table page <;> simp [State.targetIndex, State.spareIndex, State.bankCount, hg]

/-! ### Banks -/

theorem setBank_comm (b c : BankId) (x y : Bank) (h : b ≠ c) :
    (s.setBank b x).setBank c y = (s.setBank c y).setBank b x := by
  simp only [State.setBank, Vector.set_comm _ _ (fun e => h (Fin.ext e))]

/-- A bank that is not IDLE chooses nothing. -/
theorem arbitrate_of_busy (b : BankId) (h : (s.bank b).monitor ≠ .idle) : s.arbitrate b = s := by
  simp [State.arbitrate, h]

theorem metaFor?_of_none (b : BankId) (h : s.sched.pendingMeta = none) : s.metaFor? b = none := by
  simp [State.metaFor?, h]

theorem metaFor?_of_elsewhere (b : BankId) (h : ∀ p, s.sched.pendingMeta = some p → s.metaBank p.page ≠ b) :
    s.metaFor? b = none := by
  unfold State.metaFor?
  split
  · next p hp => simp [h p hp]
  · rfl

/-- A bank with nothing waiting chooses nothing. -/
theorem arbitrate_of_nothing (b : BankId) (hb : (s.bank b).batch = 0) (hm : s.metaFor? b = none)
    (hp : (s.bank b).programQueue = []) (hr : (s.bank b).readQueue = []) : s.arbitrate b = s := by
  simp [State.arbitrate, hb, hm, hp, hr]

/-- An IDLE bank with a batch issues the job at the front of its read queue. -/
theorem arbitrate_of_batch (b : BankId) (job : ReadJob) (rest : List ReadJob) (hi : (s.bank b).monitor = .idle)
    (hp : (s.bank b).presence ≠ .absent) (hb : 0 < (s.bank b).batch) (hq : (s.bank b).readQueue = job :: rest) :
    s.arbitrate b = s.readSent b job rest ((s.bank b).batch - 1) .reading := by
  simp [State.arbitrate, hi, hp, hb, State.issueRead, hq, State.sendRead, State.readSent, Bank.nextTag, State.emit]

theorem suspendDecision_of_not (b : BankId) (h : s.suspends b = false) : s.suspendDecision b = s := by
  simp [State.suspendDecision, h]

/-- A bank without a program in hand sends no SUSPEND. -/
theorem suspends_of_absent (b : BankId) (h : (s.bank b).program = .absent) : s.suspends b = false := by
  simp [State.suspends, h]

theorem suspends_of_not_programming (b : BankId) (h : (s.bank b).monitor ≠ .programming) :
    s.suspends b = false := by
  simp [State.suspends, h]

theorem suspends_of_no_read (b : BankId) (h : (s.bank b).readQueue = []) : s.suspends b = false := by
  simp [State.suspends, h]

/-- A read job that joins a bank at work elsewhere waits at the end of its read queue. -/
theorem joinRead_of_waiting (b : BankId) (job : ReadJob) (hf : (s.bank b).monitor ≠ .faulted)
    (hi : (s.bank b).monitor ≠ .idle) (hs : (s.bank b).monitor ≠ .programming ∨ (s.bank b).program = .absent) :
    s.joinRead b job = s.setBank b { s.bank b with readQueue := (s.bank b).readQueue ++ [job] } := by
  have keeps : (s.setBank b { s.bank b with readQueue := (s.bank b).readQueue ++ [job] }).suspends b = false :=
    hs.elim (fun h => suspends_of_not_programming _ b (by simpa using h))
      (fun h => suspends_of_absent _ b (by simpa using h))
  rw [State.joinRead, if_neg hf, suspendDecision_of_not _ b keeps, arbitrate_of_busy _ b (by simpa using hi)]

/-- A slot that joins a bank which is not IDLE waits at the end of its program queue. -/
theorem joinProgram_of_busy (i : SlotId) (b : BankId) (hb : s.bankOfPage (s.slot i).page = b)
    (h : (s.bank b).monitor ≠ .idle) :
    s.joinProgram i = s.setBank b { s.bank b with programQueue := (s.bank b).programQueue ++ [i] } := by
  simp only [State.joinProgram, hb]
  exact arbitrate_of_busy _ b (by simpa using h)

/-! ### The dispatch gate -/

/-- A slot of an epoch that is not the head waits in QUEUED (R37). -/
theorem enterQueued_of_waiting (i : SlotId) (h : s.headFence? ≠ some (s.slot i).epoch) :
    s.enterQueued i = s.setSlot i { s.slot i with state := .queued } := by
  simp [State.enterQueued, h]

/-- A slot of the head epoch joins its bank's program queue (R37), stated of a bank that is not IDLE. -/
theorem enterQueued_of_head (i : SlotId) (b : BankId) (h : s.headFence? = some (s.slot i).epoch)
    (hb : s.bankOfPage (s.slot i).page = b) (hm : (s.bank b).monitor ≠ .idle) :
    s.enterQueued i = (s.setSlot i { s.slot i with state := .queued }).setBank b
      { s.bank b with programQueue := (s.bank b).programQueue ++ [i] } := by
  simp only [State.enterQueued, if_pos h]
  exact joinProgram_of_busy _ i b (by simpa using hb) (by simpa using hm)

/-! ### Closure (R15, R19, R20) -/

theorem not_mem_olderSlots (i : SlotId) : i ∉ s.olderSlots i := by
  unfold State.olderSlots olderIn
  split
  · intro h
    have := List.mem_takeWhile_imp h
    simp at this
  · simp

theorem olderOnTheWay_eq_true_iff (i : SlotId) :
    s.olderOnTheWay i = true ↔ ∃ j ∈ s.olderSlots i, (s.slot j).state ≠ .stranded := by
  simp [State.olderOnTheWay]

theorem olderOnTheWay_eq_false_iff (i : SlotId) :
    s.olderOnTheWay i = false ↔ ∀ j ∈ s.olderSlots i, (s.slot j).state = .stranded := by
  simp [State.olderOnTheWay]

/-- The older slots of a slot are not the slot itself, so a change of the slot leaves them as they are. -/
theorem slot_setSlot_older (i j : SlotId) (x : Slot) (h : j ∈ s.olderSlots i) :
    (s.setSlot i x).slot j = s.slot j :=
  slot_setSlot_ne s i j x fun e => not_mem_olderSlots s i (e ▸ h)

theorem olderOnTheWay_setSlot (i : SlotId) (x : Slot) (h : x.page = (s.slot i).page) :
    (s.setSlot i x).olderOnTheWay i = s.olderOnTheWay i := by
  rw [Bool.eq_iff_iff, olderOnTheWay_eq_true_iff, olderOnTheWay_eq_true_iff, olderSlots_setSlot s i i x h]
  exact exists_congr fun j => and_congr_right fun hj => by rw [slot_setSlot_older s i j x hj]

theorem closureBytes?_setSlot (i : SlotId) (x : Slot) (h : x.page = (s.slot i).page) :
    (s.setSlot i x).closureBytes? i = s.closureBytes? i := by
  simp only [State.closureBytes?, olderSlots_setSlot s i i x h, slot_setSlot, h]
  cases hl : (s.olderSlots i).getLast? with
  | none => rfl
  | some j => simp only [slot_setSlot_older s i j x (List.mem_of_getLast? hl)]

/-- What a slot that closes becomes, in the terms of the state before (R15, R19, R20). -/
theorem closeSlot_eq (i : SlotId) : s.closeSlot i =
    if s.olderOnTheWay i then s.setSlot i { s.slot i with state := .held, closeTimer := .stopped }
    else if (s.slot i).image.full then (s.setSlot i { s.slot i with closeTimer := .stopped }).enterQueued i
    else (s.closureBytes? i).elim ((s.setSlot i { s.slot i with closeTimer := .stopped }).requestFill i)
      fun data => (s.setSlot i { s.slot i with
        closeTimer := .stopped, image := (s.slot i).image.fill data }).enterQueued i := by
  have older := olderOnTheWay_setSlot s i { s.slot i with closeTimer := .stopped } rfl
  have bytes := closureBytes?_setSlot s i { s.slot i with closeTimer := .stopped } rfl
  simp only [State.closeSlot, State.closureDecision, older, bytes, slot_setSlot, setSlot_setSlot]
  cases s.closureBytes? i <;> rfl

/-- A slot closes to HELD while an older slot of its page is not STRANDED. -/
theorem closeSlot_held (i : SlotId) (h : s.olderOnTheWay i = true) :
    s.closeSlot i = s.setSlot i { s.slot i with state := .held, closeTimer := .stopped } := by
  rw [closeSlot_eq, if_pos h]

/-- A full slot closes to QUEUED, and waits for its epoch there. -/
theorem closeSlot_waits (i : SlotId) (h : s.olderOnTheWay i = false) (hf : (s.slot i).image.full = true)
    (he : s.headFence? ≠ some (s.slot i).epoch) :
    s.closeSlot i = s.setSlot i { s.slot i with state := .queued, closeTimer := .stopped } := by
  rw [closeSlot_eq, if_neg (by simp [h]), if_pos hf, enterQueued_of_waiting _ i (by simpa using he)]
  simp

/-- A full slot of the head epoch closes to QUEUED and joins its bank's program queue, stated of a bank that is
not IDLE. -/
theorem closeSlot_joins (i : SlotId) (b : BankId) (h : s.olderOnTheWay i = false)
    (hf : (s.slot i).image.full = true) (he : s.headFence? = some (s.slot i).epoch)
    (hb : s.bankOfPage (s.slot i).page = b) (hm : (s.bank b).monitor ≠ .idle) :
    s.closeSlot i = (s.setSlot i { s.slot i with state := .queued, closeTimer := .stopped }).setBank b
      { s.bank b with programQueue := (s.bank b).programQueue ++ [i] } := by
  rw [closeSlot_eq, if_neg (by simp [h]), if_pos hf,
    enterQueued_of_head _ i b (by simpa using he) (by simpa using hb) (by simpa using hm)]
  simp

/-- A slot whose missing bytes need no array read takes them as it closes, and waits in QUEUED. -/
theorem closeSlot_supplied (i : SlotId) (data : List Byte) (h : s.olderOnTheWay i = false)
    (hf : (s.slot i).image.full = false) (hd : s.closureBytes? i = some data)
    (he : s.headFence? ≠ some (s.slot i).epoch) :
    s.closeSlot i = s.setSlot i { s.slot i with
      state := .queued, closeTimer := .stopped, image := (s.slot i).image.fill data } := by
  rw [closeSlot_eq, if_neg (by simp [h]), if_neg (by simp [hf]), hd, Option.elim_some,
    enterQueued_of_waiting _ i (by simpa using he)]
  simp

/-- The fill job of a slot joins the read queue of a bank at work. -/
theorem requestFill_of_busy (i : SlotId) (b : BankId) (n : Nat) (hb : s.bankOfPage (s.slot i).page = b)
    (hn : s.targetIndex (s.slot i).page (s.currentTarget (s.slot i).page) = n)
    (hm : (s.bank b).monitor = .reading ∨ (s.bank b).monitor = .programming ∧ (s.bank b).program = .absent) :
    s.requestFill i = (s.setSlot i { s.slot i with state := .filling }).setBank b
      { s.bank b with readQueue := (s.bank b).readQueue ++ [{
          index := n, owner := .fill i, retried := false }] } := by
  rw [State.requestFill, hb, hn]
  rcases hm with hm | ⟨hm, hp⟩
  · exact joinRead_of_waiting _ b _ (by simp [hm]) (by simp [hm]) (.inl (by simp [hm]))
  · exact joinRead_of_waiting _ b _ (by simp [hm]) (by simp [hm]) (.inr (by simp [hp]))

/-- A slot that needs an array read closes to FILLING, and its fill job joins the read queue of a reading bank. -/
theorem closeSlot_reads (i : SlotId) (b : BankId) (n : Nat) (h : s.olderOnTheWay i = false)
    (hf : (s.slot i).image.full = false) (hd : s.closureBytes? i = none)
    (hb : s.bankOfPage (s.slot i).page = b)
    (hn : s.targetIndex (s.slot i).page (s.currentTarget (s.slot i).page) = n) (hm : (s.bank b).monitor = .reading) :
    s.closeSlot i = (s.setSlot i { s.slot i with state := .filling, closeTimer := .stopped }).setBank b
      { s.bank b with readQueue := (s.bank b).readQueue ++ [{
          index := n, owner := .fill i, retried := false }] } := by
  rw [closeSlot_eq, if_neg (by simp [h]), if_neg (by simp [hf]), hd, Option.elim_none,
    requestFill_of_busy _ i b n (by simpa using hb) (by rw [slot_setSlot]; exact hn) (.inl (by simpa using hm))]
  simp only [slot_setSlot, setSlot_setSlot, bank_setSlot]

/-- The page's only slot has nothing to wait for. -/
theorem olderOnTheWay_of_only (i : SlotId) (h : s.olderSlots i = []) : s.olderOnTheWay i = false := by
  simp [State.olderOnTheWay, h]

theorem closureBytes?_of_only (i : SlotId) (h : s.olderSlots i = []) (hl : (s.slot i).page ∉ s.remap.lost) :
    s.closureBytes? i = none := by
  simp [State.closureBytes?, h, State.isLost, hl]

end
end Sys2Proof.Machine
end

/-! ## Merges and fills -/

section
/-!
SUPPORT. The byte that an image holds at an offset after a merge or a fill.
-/

namespace Sys2Proof.Machine

theorem layCells_getD (data : List Byte) (cells : List (Option Byte)) (k : Nat)
    (h : data.length ≤ cells.length) :
    (layCells data cells).getD k none = if k < data.length then data[k]? else cells.getD k none := by
  induction data generalizing cells k with
  | nil => cases cells <;> simp [layCells]
  | cons b data ih =>
    cases cells with
    | nil => simp at h
    | cons c cells =>
      cases k with
      | zero => simp [layCells]
      | succ k => simpa [layCells] using ih cells k (by simpa using h)

theorem layCellsAt_getD (offset : Nat) (data : List Byte) (cells : List (Option Byte)) (k : Nat)
    (h : offset + data.length ≤ cells.length) : (layCellsAt offset data cells).getD k none
      = if offset ≤ k ∧ k < offset + data.length then data[k - offset]? else cells.getD k none := by
  induction offset generalizing cells k with
  | zero => simpa [layCellsAt] using layCells_getD data cells k (by simpa using h)
  | succ offset ih =>
    cases cells with
    | nil => simp at h
    | cons c cells =>
      cases k with
      | zero => simp [layCellsAt]
      | succ k =>
        have rest := ih cells k (by simp at h; omega)
        simpa [layCellsAt, Nat.add_right_comm _ 1] using rest

theorem fillCells_isSome (data : List Byte) (cells : List (Option Byte)) (h : data.length = cells.length) :
    (fillCells data cells).all Option.isSome = true := by
  induction data generalizing cells with
  | nil => cases cells <;> simp_all [fillCells]
  | cons b data ih =>
    cases cells with
    | nil => simp at h
    | cons c cells => simpa [fillCells] using ih cells (by simpa using h)

theorem fillCells_getD (data : List Byte) (cells : List (Option Byte)) (k : Nat)
    (h : data.length = cells.length) (hk : k < cells.length) :
    (fillCells data cells).getD k none = some ((cells.getD k none).getD (data.getD k 0x00#8)) := by
  induction data generalizing cells k with
  | nil => simp only [List.length_nil] at h; omega
  | cons b data ih =>
    cases cells with
    | nil => simp at h
    | cons c cells =>
      cases k with
      | zero => simp [fillCells]
      | succ k => simpa [fillCells] using ih cells k (by simpa using h) (by simpa using hk)

/-- A zero write over a whole page makes the written set full, whatever it was. -/
theorem full_merge_zeroPage (image : Image) : (image.merge 0 zeroPage).full = true := by
  simp only [Image.full, Image.merge, layCellsAt]
  have size := image.size
  revert size
  generalize image.cells = cells
  suffices all : ∀ (n : Nat) (cells : List (Option Byte)), cells.length = n →
      (layCells (List.replicate n 0x00#8) cells).all Option.isSome = true from all 256 cells
  intro n
  induction n with
  | zero => intro cells h; simp [List.length_eq_zero_iff.mp h, layCells]
  | succ n ih =>
    intro cells h
    cases cells with
    | nil => simp at h
    | cons c cells => simpa [List.replicate_succ, layCells] using ih cells (by simpa using h)

end Sys2Proof.Machine

namespace Sys2Proof

open Machine

/-- Settles O20: a merge and a fill, cell by cell. -/
theorem mergesOverwriteAndFillsDoNot : Obligations.MergesOverwriteAndFillsDoNot := by
  refine ⟨fun image offset data k h => ?_, fun image page h => ⟨?_, fun k hk => ?_⟩⟩
  · exact layCellsAt_getD offset data image.cells k (by rwa [image.size])
  · exact fillCells_isSome page image.cells (by rw [h, image.size])
  · exact fillCells_getD page image.cells k (by rw [h, image.size]) (by rwa [image.size])

end Sys2Proof
end

/-! ## Close timers -/

section
/-!
SUPPORT. That a command which changes a slot at work leaves nothing due, and what the expiry of a close timer does.
-/

namespace Sys2Proof.Machine

section
variable (s : State)

/-- Whether a bank carries a data program is told by its program in hand alone. -/
theorem carriesData_congr (x y : Bank) (h : x.program = y.program) : x.carriesData = y.carriesData := by
  simp only [Bank.carriesData, h]

theorem program_setBank (c : BankId) (x : Bank) (h : x.program = (s.bank c).program) (b : BankId) :
    ((s.setBank c x).bank b).program = (s.bank b).program := by
  by_cases e : c = b
  · subst e; simpa using h
  · rw [bank_setBank_ne s c b x e]

theorem carries_setBank (c : BankId) (x : Bank) (h : (s.bank c).carriesData = true → x.carriesData = true)
    (b : BankId) : (s.bank b).carriesData = true → ((s.setBank c x).bank b).carriesData = true := by
  by_cases e : c = b
  · subst e; rwa [bank_setBank]
  · rw [bank_setBank_ne s c b x e]; exact id

/-- Nothing becomes due while one slot is at work and every bank that carries a data program still does. -/
theorem quiet_of_carrying (t : State) (i : SlotId) (x : Slot) (h : s.quiet = true) (hc : t.control = s.control)
    (hw : t.writer.state = s.writer.state) (hg : t.geometry = s.geometry)
    (hp : ∀ b, (s.bank b).carriesData = true → (t.bank b).carriesData = true)
    (hx : t.slot i = x) (h1 : x.state ≠ .free) (h2 : x.state ≠ .stranded) : t.quiet = true :=
  quiet_of_busier s t h hc hw hg
    (fun rest => absurd rest (by simp [slotsAtRest_false t i (hx ▸ h1) (hx ▸ h2)])) hp

/-- Nothing becomes due while one slot is at work and the programs in hand stay. -/
theorem quiet_of_slot (t : State) (i : SlotId) (x : Slot) (h : s.quiet = true) (hc : t.control = s.control)
    (hw : t.writer.state = s.writer.state) (hg : t.geometry = s.geometry)
    (hp : ∀ b, (t.bank b).program = (s.bank b).program)
    (hx : t.slot i = x) (h1 : x.state ≠ .free) (h2 : x.state ≠ .stranded) : t.quiet = true :=
  quiet_of_carrying s t i x h hc hw hg (fun b => by rw [carriesData_congr _ _ (hp b)]; exact id) hx h1 h2

/-- A close timer that is due brings the clock to its deadline and closes its slot. -/
theorem closeTimerExpiry_due (i : SlotId) (deadline : Nat) (hr : s.ready = true) (ho : (s.slot i).state = .opened)
    (ht : (s.slot i).closeTimer = .running deadline)
    (hq : (({ s with now := max s.now deadline } : State).closeSlot i).quiet = true) :
    exec (.closeTimerExpiry i) s
      = .next (({ s with now := max s.now deadline } : State).closeSlot i).judgeAlert := by
  have due : s.closeDue i = true := by simp [State.closeDue, ho, ht, Timer.isRunning]
  have moment : s.atExpiry (s.slot i).closeTimer = { s with now := max s.now deadline } := by
    simp [State.atExpiry, ht, expiryTime]
  rw [exec, execCloseTimerExpiry, due, moment, act_settled s _ hr hq]

end

end Sys2Proof.Machine

namespace Sys2Proof

open Machine

/-- Settles O26: one case of R19 for each clause. -/
theorem closeTimerClosesTheSlot : Obligations.CloseTimerClosesTheSlot := by
  intro s i older newer deadline hr ho ht hf hl hi
  have hq := ready_quiet s hr
  have olders : s.olderSlots i = older := olderSlots_of_list s i older newer hl hi
  have closes : ∀ (t : State) (x : Slot), ({ s with now := max s.now deadline } : State).closeSlot i = t →
      t.control = s.control → t.writer = s.writer → t.geometry = s.geometry →
      (∀ b, (t.bank b).program = (s.bank b).program) → t.slot i = x → x.state ≠ .free → x.state ≠ .stranded →
      exec (.closeTimerExpiry i) s = .next t.judgeAlert := by
    rintro t x rfl hc hw hg hp hx h1 h2
    exact closeTimerExpiry_due s i deadline hr ho ht
      (quiet_of_slot s _ i x hq hc (congrArg Writer.state hw) hg hp hx h1 h2)
  refine ⟨fun hex => ?_, fun b g hnone hlost hg hb hm => ?_, fun before j hlast hall he => ?_,
    fun hnone hlost he => ?_⟩
  · have held : s.olderOnTheWay i = true := (olderOnTheWay_eq_true_iff s i).mpr (by rwa [olders])
    exact closes _ _ (closeSlot_held { s with now := max s.now deadline } i held) rfl rfl rfl (fun _ => rfl)
      (slot_setSlot ..) (by simp) (by simp)
  · have only : s.olderSlots i = [] := by rw [olders, hnone]
    have reads := closeSlot_reads { s with now := max s.now deadline } i b _ (olderOnTheWay_of_only s i only) hf
      (closureBytes?_of_only s i only hlost) (bankOfPage_of_geometry s g b _ hg hb.symm)
      (targetIndex_currentTarget s g _ hg) hm
    exact closes _ _ reads rfl rfl rfl (program_setBank _ b _ rfl) (slot_setSlot s i _) (by simp) (by simp)
  · have stranded : s.olderOnTheWay i = false := (olderOnTheWay_eq_false_iff s i).mpr (by rwa [olders])
    have bytes : s.closureBytes? i = some (s.slot j).image.toBytes := by
      simp [State.closureBytes?, olders, hlast]
    exact closes _ _ (closeSlot_supplied { s with now := max s.now deadline } i _ stranded hf bytes he) rfl rfl rfl
      (fun _ => rfl) (slot_setSlot ..) (by simp) (by simp)
  · have only : s.olderSlots i = [] := by rw [olders, hnone]
    have bytes : s.closureBytes? i = some zeroPage := by simp [State.closureBytes?, only, State.isLost, hlost]
    exact closes _ _ (closeSlot_supplied { s with now := max s.now deadline } i _ (olderOnTheWay_of_only s i only)
      hf bytes he) rfl rfl rfl (fun _ => rfl) (slot_setSlot ..) (by simp) (by simp)

end Sys2Proof
end

/-! ## Writes -/

section
/-!
SUPPORT. What merging and opening make of a slot, what a fence does where no slot is OPEN, and what becomes of a write
that passes every check.
-/

namespace Sys2Proof.Machine

/-! ### Orders -/

theorem sortBy_eq_insertionSort {α : Type} (key : α → Nat) (xs : List α) :
    sortBy key xs = xs.insertionSort (fun x y => key x ≤ key y) := by
  have insert (x : α) (ys : List α) : insertBy key x ys = ys.orderedInsert (fun x y => key x ≤ key y) x := by
    induction ys with
    | nil => rfl
    | cons y ys ih => simp only [insertBy, List.orderedInsert, ih]
  induction xs with
  | nil => rfl
  | cons x xs ih => rw [List.insertionSort_cons, ← ih, ← insert]; rfl

theorem sortBy_perm {α : Type} (key : α → Nat) (xs : List α) : (sortBy key xs).Perm xs := by
  rw [sortBy_eq_insertionSort]; exact List.perm_insertionSort _ xs

theorem mem_sortBy {α : Type} (key : α → Nat) (xs : List α) (x : α) : x ∈ sortBy key xs ↔ x ∈ xs :=
  (sortBy_perm key xs).mem_iff

theorem sortBy_pairwise {α : Type} (key : α → Nat) (xs : List α) :
    (sortBy key xs).Pairwise (fun x y => key x ≤ key y) := by
  rw [sortBy_eq_insertionSort]
  have : Std.Total (fun x y : α => key x ≤ key y) := ⟨fun x y => Nat.le_total _ _⟩
  have : IsTrans α (fun x y => key x ≤ key y) := ⟨fun _ _ _ => Nat.le_trans⟩
  exact List.pairwise_insertionSort _ xs

/-- Two elements stand in the order of their keys. -/
theorem sortBy_pair {α : Type} (key : α → Nat) (x y : α) (xs : List α) (hp : xs.Perm [x, y])
    (h : key x < key y) : sortBy key xs = [x, y] := by
  have perm : (sortBy key xs).Perm [x, y] := (sortBy_perm key xs).trans hp
  rcases List.perm_pair.mp perm with e | e
  · exact e
  · have sorted := sortBy_pairwise key xs
    rw [e] at sorted
    simp at sorted; omega

/-- Two elements of keys in order stay as they stand. -/
theorem sortBy_of_sorted_pair {α : Type} (key : α → Nat) (x y : α) (h : key x ≤ key y) :
    sortBy key [x, y] = [x, y] := by
  simp [sortBy, insertBy, h]

section
variable (s : State)

/-! ### Merges (R8, R9, R16) -/

theorem absorbWrite_of_sole (page offset : Nat) (data : List Byte) (origin : Origin) (i : SlotId)
    (h : s.soleEligible page i = true) : s.absorbWrite page offset data origin = s.mergeInto i offset data := by
  simp only [State.absorbWrite, mergeEligible?_of_sole s page i h]

/-- The slot that a merge fills, still OPEN. -/
def State.mergedSlot (s : State) (i : SlotId) (offset : Nat) (data : List Byte) : Slot :=
  { s.slot i with image := (s.slot i).image.merge offset data, lastMerge := s.now }

theorem mergeInto_eq_closeSlot (i : SlotId) (offset : Nat) (data : List Byte) (h : (s.slot i).state = .opened)
    (hf : (s.mergedSlot i offset data).image.full = true) : s.mergeInto i offset data
      = (s.setSlot i { s.mergedSlot i offset data with closeTimer := s.freshCloseTimer }).closeSlot i :=
  mergeInto_of_full s i offset data h hf

/-- An OPEN slot that a merge makes full closes to HELD while an older slot of its page is not STRANDED. -/
theorem mergeInto_held (i : SlotId) (offset : Nat) (data : List Byte) (h : (s.slot i).state = .opened)
    (hf : (s.mergedSlot i offset data).image.full = true) (ho : s.olderOnTheWay i = true) :
    s.mergeInto i offset data
      = s.setSlot i { s.mergedSlot i offset data with state := .held, closeTimer := .stopped } := by
  rw [mergeInto_eq_closeSlot s i offset data h hf,
    closeSlot_held _ i ((olderOnTheWay_setSlot s i _ (by rfl)).trans ho)]
  simp

/-- An OPEN slot that a merge makes full, of an epoch that is not the head. -/
theorem mergeInto_waits (i : SlotId) (offset : Nat) (data : List Byte) (h : (s.slot i).state = .opened)
    (hf : (s.mergedSlot i offset data).image.full = true) (ho : s.olderOnTheWay i = false)
    (he : s.headFence? ≠ some (s.slot i).epoch) : s.mergeInto i offset data
      = s.setSlot i { s.mergedSlot i offset data with state := .queued, closeTimer := .stopped } := by
  rw [mergeInto_eq_closeSlot s i offset data h hf,
    closeSlot_waits _ i ((olderOnTheWay_setSlot s i _ (by rfl)).trans ho) (by simpa using hf)
      (by rw [slot_setSlot]; exact he)]
  simp

/-- An OPEN slot that a merge makes full, of the head epoch and at a bank that is not IDLE. -/
theorem mergeInto_joins (i : SlotId) (offset : Nat) (data : List Byte) (b : BankId)
    (h : (s.slot i).state = .opened) (hf : (s.mergedSlot i offset data).image.full = true)
    (ho : s.olderOnTheWay i = false) (he : s.headFence? = some (s.slot i).epoch)
    (hb : s.bankOfPage (s.slot i).page = b) (hm : (s.bank b).monitor ≠ .idle) : s.mergeInto i offset data
      = (s.setSlot i { s.mergedSlot i offset data with state := .queued, closeTimer := .stopped }).setBank b
          { s.bank b with programQueue := (s.bank b).programQueue ++ [i] } := by
  rw [mergeInto_eq_closeSlot s i offset data h hf,
    closeSlot_joins _ i b ((olderOnTheWay_setSlot s i _ (by rfl)).trans ho) (by simpa using hf)
      (by rw [slot_setSlot]; exact he) (by rw [slot_setSlot]; exact hb) hm]
  simp

/-! ### Opening (R11, R17) -/

/-- A slot that is opened leaves one FREE slot less. -/
theorem freeCount_setSlot (i : SlotId) (x : Slot) (h : (s.slot i).state = .free) (hx : x.state ≠ .free) :
    (s.setSlot i x).freeCount = s.freeCount - 1 := by
  have hi : i.val < s.absorb.slots.toList.length := by simp
  have was : s.absorb.slots[i.val].state = .free := h
  simp [State.freeCount, Vector.toList_set, List.countP_set hi, was, hx]

/-- While the FREE count has not fallen below LOW_WATER no slot closes for it (R17). -/
theorem lowWaterClosure_of_enough (h : s.engine.profile.lowWater ≤ s.freeCount) : s.lowWaterClosure = s := by
  simp [State.lowWaterClosure, Nat.not_lt.mpr h]

theorem full_eq_false (image : Image) (k : Nat) (hk : k < 256) (h : image.byte k = none) : image.full = false := by
  have inside : k < image.cells.length := by rw [image.size]; exact hk
  rw [Image.full, List.all_eq_false]
  exact ⟨image.cells[k], List.getElem_mem inside, by
    simpa [Image.byte, List.getD_eq_getElem?_getD, List.getElem?_eq_getElem inside] using h⟩

theorem blank_getD (k : Nat) (hk : k < 256) : Image.blank.cells.getD k none = none := by
  rw [Image.blank, List.getD_eq_getElem?_getD, List.getElem?_replicate_of_lt hk, Option.getD_some]

/-- A write of at most 64 bytes fills no page. -/
theorem full_blank_merge (offset : Nat) (data : List Byte) (hd : data.length ≤ 64)
    (ho : offset + data.length ≤ 256) : (Image.blank.merge offset data).full = false := by
  have outside : ∀ k, k < 256 → ¬ (offset ≤ k ∧ k < offset + data.length) →
      (Image.blank.merge offset data).byte k = none := fun k hk hout =>
    (layCellsAt_getD offset data Image.blank.cells k (by rwa [Image.blank.size])).trans
      (by rw [if_neg hout]; exact blank_getD k hk)
  by_cases zero : offset = 0
  · exact full_eq_false _ 255 (by omega) (outside 255 (by omega) (by omega))
  · exact full_eq_false _ 0 (by omega) (outside 0 (by omega) (by omega))

theorem openedFor_eq (i : SlotId) (w : WriteRequest) : s.openedFor i w
    = s.placeSlot i (s.openedSlot (w.address / 256) (w.address % 256) w.data .host) := rfl

/-! ### The checks of a write (R135) -/

/-- The bytes of an acceptable write lie within one page and do not fill it. -/
theorem acceptable_bounds (w : WriteRequest) (h : s.acceptable w = true) :
    w.data.length ≤ 64 ∧ w.address % 256 + w.data.length ≤ 256 := by
  simp only [State.acceptable, Bool.and_eq_true, decide_eq_true_eq] at h
  obtain ⟨⟨⟨⟨⟨⟨_, hmax⟩, hlen⟩, _⟩, haligned⟩, _⟩, _⟩ := h
  omega

theorem judgeWrite_of_acceptable (w : WriteRequest) (h : s.acceptable w = true)
    (hu : s.unprotected (w.address / 256) = true) : s.judgeWrite w = s.absorbOrWait w := by
  simp only [State.acceptable, Bool.and_eq_true, decide_eq_true_eq, beq_iff_eq] at h
  obtain ⟨⟨⟨⟨⟨⟨hmin, hmax⟩, hlen⟩, hnotify⟩, haligned⟩, hrun⟩, hrange⟩ := h
  have formed : ¬ (w.length = 0 ∨ 64 < w.length ∨ w.data.length ≠ w.length) := by omega
  have flags : ¬ (w.notify && !w.fence) = true := by revert hnotify; cases w.notify <;> cases w.fence <;> simp
  have inside : ¬ s.capacityBytes ≤ w.address := by rw [State.capacityBytes]; omega
  rw [State.judgeWrite, if_neg formed, if_neg flags, if_neg (by omega), if_neg (by simp [hrun]),
    if_neg (by simp [hrun]), if_neg inside, (coveringRegion?_eq_none_iff s _).mpr hu]

/-- A write can be absorbed unless it lacks a slot, or an entry for its fence (R14, R33). -/
theorem canAbsorb_eq_false_iff (w : WriteRequest) : s.canAbsorb w = false ↔
    (w.fence = true ∧ 8 ≤ s.tracker.epochs.length)
      ∨ (s.noneEligible (w.address / 256) = true ∧ ∀ i, (s.slot i).state ≠ .free) := by
  rw [← mergeEligible?_eq_none_iff, ← lowestFree?_eq_none_iff]
  cases hf : w.fence <;> simp [State.canAbsorb, hf, imp_iff_not_or]

theorem canAbsorb_of_sole (w : WriteRequest) (i : SlotId) (h : s.soleEligible (w.address / 256) i = true)
    (hf : w.fence = true → s.tracker.epochs.length < 8) : s.canAbsorb w = true := by
  simp only [State.canAbsorb, mergeEligible?_of_sole s _ i h]
  cases hw : w.fence <;> simp_all

/-- A write without FENCE that merges is absorbed and answered OK. -/
theorem absorbOrWait_of_sole (w : WriteRequest) (i : SlotId) (h : s.soleEligible (w.address / 256) i = true)
    (hf : w.fence = false) : s.absorbOrWait w
      = (s.mergeInto i (w.address % 256) w.data).respond w.tag (.writeDone w.tag .ok 0) := by
  rw [State.absorbOrWait, if_pos (canAbsorb_of_sole s w i h (by simp [hf])), State.absorbHost,
    absorbWrite_of_sole s _ _ _ _ i h, if_neg (by simp [hf])]

/-- A write that opens a slot while the FREE count stays at LOW_WATER or above is absorbed and answered OK. -/
theorem absorbOrWait_of_opening (w : WriteRequest) (i : SlotId) (h : s.acceptable w = true) (hf : w.fence = false)
    (hn : s.noneEligible (w.address / 256) = true) (hi : (s.slot i).state = .free)
    (hlow : ∀ j, j < i → (s.slot j).state ≠ .free) (hw : s.engine.profile.lowWater < s.freeCount) :
    s.absorbOrWait w = (s.openedFor i w).respond w.tag (.writeDone w.tag .ok 0) := by
  have free := lowestFree?_of_first s i hi hlow
  have none := (mergeEligible?_eq_none_iff s _).mpr hn
  have can : s.canAbsorb w = true := by simp [State.canAbsorb, hf, free]
  obtain ⟨hd, ho⟩ := acceptable_bounds s w h
  have left : (s.openedFor i w).freeCount = s.freeCount - 1 :=
    freeCount_setSlot s i (s.slotFor w) hi (by simp [State.slotFor])
  have enough : (s.openedFor i w).lowWaterClosure = s.openedFor i w :=
    lowWaterClosure_of_enough _ (by rw [left]; exact Nat.le_sub_one_of_lt hw)
  have opens : s.openSlot i (w.address / 256) (w.address % 256) w.data .host = s.openedFor i w := by
    rw [State.openSlot, if_neg (by rw [State.openedSlot, full_blank_merge _ _ hd ho]; simp), ← openedFor_eq, enough]
  simp only [State.absorbOrWait, can, if_true, State.absorbHost, State.absorbWrite, none, free, opens, hf,
    Bool.false_eq_true, if_false]

/-! ### Fences (R32) -/

theorem openSlots_eq_nil (h : ∀ i, (s.slot i).state ≠ .opened) : s.openSlots = [] := by
  simp [State.openSlots, h]

/-- The OPEN slots, when there are just two. -/
theorem openSlots_perm (i j : SlotId) (hne : i ≠ j) (h : ∀ k, (s.slot k).state = .opened ↔ k = i ∨ k = j) :
    s.openSlots.Perm [i, j] := by
  refine (List.perm_ext_iff_of_nodup (nodup_allSlots.filter _) (by simp [hne])).mpr fun k => ?_
  simp [mem_allSlots, h]

/-- The head stays while it counts a slot. -/
theorem judgeRemoval_of_outstanding (e : Epoch) (rest : List Epoch) (h : s.tracker.epochs = e :: rest)
    (ho : e.state = .opened ∨ e.outstanding ≠ 0) : s.judgeRemoval = s := by
  have stays : ¬ (e.state = .closed ∧ e.outstanding = 0) := by rintro ⟨hc, hz⟩; simp [hc, hz] at ho
  simp [State.judgeRemoval, h, stays]

/-- The head of the epoch list after a fence is the head before it, perhaps CLOSED by it. -/
theorem closeCurrent_head (t : EpochTracker) (notify : Bool) (e : Epoch) (rest : List Epoch)
    (h : t.epochs = e :: rest) : ∃ e' rest', (t.closeCurrent notify).epochs = e' :: rest'
      ∧ e'.outstanding = e.outstanding := by
  simp only [EpochTracker.closeCurrent, h, List.map_cons, List.cons_append]
  exact ⟨_, _, rfl, by split <;> rfl⟩

/-- A fence with no OPEN slot closes the current epoch, is answered, and has the head judged. -/
theorem takeFence_of_none_open (notify : Bool) (answer : Nat → State → State)
    (hopen : ∀ i, (s.slot i).state ≠ .opened) : s.takeFence notify answer
      = (answer s.currentEpoch { s with tracker := s.tracker.closeCurrent notify }).judgeRemoval := by
  have none : State.openSlots { s with tracker := s.tracker.closeCurrent notify } = [] := openSlots_eq_nil _ hopen
  simp only [State.takeFence, none, List.filter_nil, State.closeInAgeOrder, sortBy, List.foldr_nil, List.foldl_nil]

/-- A fence leaves a head that counts a slot in its place. -/
theorem judgeRemoval_of_closeCurrent (t : State) (notify : Bool) (e : Epoch) (rest : List Epoch)
    (h : s.tracker.epochs = e :: rest) (ho : e.outstanding ≠ 0) (ht : t.tracker = s.tracker.closeCurrent notify) :
    t.judgeRemoval = t := by
  obtain ⟨e', rest', he, hout⟩ := closeCurrent_head s.tracker notify e rest h
  exact judgeRemoval_of_outstanding t e' rest' (by rw [ht, he]) (.inr (by rwa [hout]))

/-- A fence with two OPEN slots in the current epoch closes them in ascending order of age (R18, R32). -/
theorem takeFence_of_two_open (notify : Bool) (answer : Nat → State → State) (i j : SlotId)
    (hopen : ∀ k, (s.slot k).state = .opened ↔ k = i ∨ k = j) (hage : (s.slot i).age < (s.slot j).age)
    (hepoch : ∀ k ∈ [i, j], (s.slot k).epoch = s.currentEpoch) : s.takeFence notify answer
      = (answer s.currentEpoch ((State.closeSlot { s with tracker := s.tracker.closeCurrent notify } i).closeSlot
          j)).judgeRemoval := by
  have hne : i ≠ j := by rintro rfl; exact absurd hage (Nat.lt_irrefl _)
  have all : s.openSlots.filter (fun k => (s.slot k).epoch == s.currentEpoch) = s.openSlots :=
    List.filter_eq_self.mpr fun k hk => by
      have isOpen : (s.slot k).state = .opened := by simpa using (List.mem_filter.mp hk).2
      simp [hepoch k (by simpa using (hopen k).mp isOpen)]
  have order : sortBy (fun k => (s.slot k).age)
      (s.openSlots.filter (fun k => (s.slot k).epoch == s.currentEpoch)) = [i, j] := by
    rw [all]; exact sortBy_pair _ i j _ (openSlots_perm s i j hne hopen) hage
  exact congrArg (fun slots => (answer s.currentEpoch
    (slots.foldl State.closeSlot { s with tracker := s.tracker.closeCurrent notify })).judgeRemoval) order

/-- A FENCE write that merges into a slot that is not OPEN is absorbed, and its fence is taken and answered. -/
theorem absorbOrWait_of_fence (w : WriteRequest) (i : SlotId) (e : Epoch) (rest : List Epoch)
    (h : s.soleEligible (w.address / 256) i = true) (hf : w.fence = true)
    (hopen : ∀ j, (s.slot j).state ≠ .opened) (he : s.tracker.epochs = e :: rest) (hl : rest.length < 7)
    (ho : e.outstanding ≠ 0) : s.absorbOrWait w
      = State.respond { s.setSlot i (s.mergedSlot i (w.address % 256) w.data) with
          tracker := s.tracker.closeCurrent w.notify } w.tag (.writeDone w.tag .ok s.currentEpoch) := by
  have can := canAbsorb_of_sole s w i h (fun _ => by rw [he, List.length_cons]; omega)
  have still : ∀ j, ((s.setSlot i (s.mergedSlot i (w.address % 256) w.data)).slot j).state ≠ .opened := by
    intro j
    by_cases e : i = j
    · subst e; rw [slot_setSlot]; exact hopen i
    · rw [slot_setSlot_ne _ _ _ _ e]; exact hopen j
  rw [State.absorbOrWait, if_pos can, State.absorbHost, absorbWrite_of_sole s _ _ _ _ i h, if_pos hf,
    mergeInto_of_not_opened s i _ _ (hopen i)]
  exact (takeFence_of_none_open _ _ _ still).trans (judgeRemoval_of_closeCurrent s _ w.notify e rest he ho rfl)

end

end Sys2Proof.Machine

end

/-! ## WRITE_TAKE and STALLED_WRITE_ABSORB -/

section
/-!
SUPPORT. How the two commands of a write end, and the statements about them.
-/

namespace Sys2Proof.Machine

section
variable (s : State)

/-- A command that takes an acceptable write to an unprotected page and answers it with OK. -/
theorem writeTake_answered (w : WriteRequest) (t : State) (fence : Nat) (ho : s.offersMemory (.write w) = true)
    (ha : s.acceptable w = true) (hu : s.unprotected (w.address / 256) = true)
    (h : (s.tookMemory w.tag).absorbOrWait w = (t.tookMemory w.tag).respond w.tag (.writeDone w.tag .ok fence))
    (hl : t.link = s.link) (hq : t.quiet = true) : exec .writeTake s
      = .next (State.judgeAlert { t with link := s.link.tookMemory [.writeDone w.tag .ok fence] }) := by
  have fresh : w.tag ∉ t.link.tags := by
    rw [hl]; exact (offersMemory_cases s _ ho).2.2.2.2
  have taken : (s.tookMemory w.tag).judgeWrite w = _ := judgeWrite_of_acceptable (s.tookMemory w.tag) w ha hu
  rw [exec, writeTake_offered s w ho, taken, h, respond_tookMemory t _ _ fresh, hl]
  exact congrArg _ (settle_of_quiet _ hq)

/-- STALLED_WRITE_ABSORB judges the write at the lane head again. -/
theorem stalledWriteAbsorb_due (w : WriteRequest) (t : State) (hr : s.ready = true) (hw : s.link.head = some w)
    (h : s.judgeWaiting w = t) (hq : t.quiet = true) : exec .stalledWriteAbsorb s = .next t.judgeAlert := by
  simp only [exec, execStalledWriteAbsorb, hw, h, act_settled s t hr hq]

/-- The write at the memory lane head has left it. -/
def State.emptiedHead (s : State) : State := { s with link := { s.link with head := none } }

theorem judgeWaiting_of_unprotected (w : WriteRequest) (h : s.control.state = .running)
    (hu : s.unprotected (w.address / 256) = true) : s.judgeWaiting w = s.emptiedHead.absorbOrWait w := by
  simp only [State.judgeWaiting, h, ne_eq, not_true, if_false, (coveringRegion?_eq_none_iff s _).mpr hu]
  rfl

/-- A write refused by the region check: its answer, its condition and its incident (R117, R160). -/
theorem protectWrite_eq (w : WriteRequest) (region : Nat) : s.protectWrite w region = { s with
    link := { s.link with
      tags := s.link.tags.filter (fun t => t != w.tag),
      responses := s.link.responses ++ [.writeDone w.tag .protectedPage 0] },
    engine := { s.engine with
      latched := s.engine.latched ||| (if s.engine.incidents.length < 16 then 0x1#32 else 0x81#32),
      incidents := if s.engine.incidents.length < 16 then
          s.engine.incidents ++ [{ kind := .protectedWrite, fence := s.tracker.fenceCounter,
                                   page := some (w.address / 256), region := some region,
                                   operation := some w.tag }]
        else s.engine.incidents } } := by
  have overflow (x : BitVec 32) : (x ||| Condition.protectedWrite.mask) ||| Condition.incidentOverflow.mask
      = x ||| 0x81#32 := by rw [BitVec.or_assoc]; rfl
  by_cases room : s.engine.incidents.length < 16
  · simp only [room, if_true]
    exact if_pos room
  · simp only [room, if_false, ← overflow]
    exact if_neg room

end

end Sys2Proof.Machine

namespace Sys2Proof

open Machine

/-- Settles O22: a merge into a slot that is not OPEN, into an OPEN one that stays, into one that becomes full, and
one whose fence is taken. -/
theorem writeMergesIntoItsSlot : Obligations.WriteMergesIntoItsSlot := by
  intro s w i ho ha hu hsole merged
  have hq := ready_quiet s (offersMemory_cases s _ ho).1
  obtain ⟨hfree, hstranded⟩ := busy_of_eligible s i (eligible_of_sole s _ i hsole)
  have slot : merged = s.mergedSlot i (w.address % 256) w.data := rfl
  have ends : ∀ (x : Slot), w.fence = false → (s.tookMemory w.tag).mergeInto i (w.address % 256) w.data
        = (s.setSlot i x).tookMemory w.tag → x.state ≠ .free → x.state ≠ .stranded →
      exec .writeTake s = .next (State.judgeAlert
        { s.setSlot i x with link := s.link.tookMemory [.writeDone w.tag .ok 0] }) := by
    intro x hf h h1 h2
    refine writeTake_answered s w (s.setSlot i x) 0 ho ha hu ?_ rfl
      (quiet_of_slot s _ i x hq rfl rfl rfl (fun _ => rfl) (slot_setSlot ..) h1 h2)
    rw [absorbOrWait_of_sole (s.tookMemory w.tag) w i hsole hf, h]
  refine ⟨fun hf hs => ?_, fun hf hs hfull => ?_, fun older newer hf hs hfull hp hl hi he => ?_,
    fun head rest hf hs hopen he hlen hout => ?_⟩
  · exact ends _ hf (mergeInto_of_not_opened _ i _ _ hs) hfree hstranded
  · exact ends _ hf (mergeInto_of_not_full _ i _ _ hs hfull) hfree hstranded
  · have olders : s.olderSlots i = older := olderSlots_of_list s i older newer (by rwa [hp]) hi
    split
    · next hex =>
      have held : s.olderOnTheWay i = true := (olderOnTheWay_eq_true_iff s i).mpr (by rwa [olders])
      exact ends _ hf (mergeInto_held (s.tookMemory w.tag) i _ _ hs hfull held) (by simp) (by simp)
    · next hno =>
      have stranded : s.olderOnTheWay i = false :=
        (olderOnTheWay_eq_false_iff s i).mpr (by simpa [olders] using hno)
      exact ends _ hf (mergeInto_waits (s.tookMemory w.tag) i _ _ hs hfull stranded he) (by simp) (by simp)
  · exact writeTake_answered s w { s.setSlot i merged with tracker := s.tracker.closeCurrent w.notify } _ ho ha hu
      (absorbOrWait_of_fence (s.tookMemory w.tag) w i head rest hsole hf hopen he hlen hout) rfl
      (quiet_of_slot s _ i merged hq rfl rfl rfl (fun _ => rfl) (slot_setSlot s i merged) hfree hstranded)

/-- Settles O24. -/
theorem writeWaitsAtTheLaneHead : Obligations.WriteWaitsAtTheLaneHead := by
  intro s w stuck
  have cannot : stuck → s.canAbsorb w = false := (canAbsorb_eq_false_iff s w).mpr
  have can : ¬ stuck → s.canAbsorb w = true := fun h =>
    (Bool.not_eq_false _).mp (mt (canAbsorb_eq_false_iff s w).mp h)
  refine ⟨fun ho ha hu hs => ?_, fun hr hw hc hu hs => ?_, fun i hr hw hc hu hf hsole hop => ?_,
    fun i hr hw ha hu hf hn hi hlow hlw => ?_, fun i head rest hr hw hc hu hf hsole hop he hlen hout => ?_,
    fun region hr hw hc hreg => ⟨fun hs => ?_, fun hs => ?_⟩, fun hr hw hc => ?_⟩
  · have taken : (s.tookMemory w.tag).judgeWrite w = _ := judgeWrite_of_acceptable (s.tookMemory w.tag) w ha hu
    have waits : (s.tookMemory w.tag).canAbsorb w = false := cannot hs
    rw [exec, writeTake_offered s w ho, taken, State.absorbOrWait, if_neg (by simp [waits])]
    exact congrArg _ (settle_of_quiet _ (ready_quiet s (offersMemory_cases s _ ho).1))
  · have waits : s.emptiedHead.canAbsorb w = false := cannot hs
    refine stalledWriteAbsorb_due s w s hr hw ?_ (ready_quiet s hr)
    rw [judgeWaiting_of_unprotected s w hc hu, State.absorbOrWait, if_neg (by simp [waits])]
    simp [State.emptiedHead, ← hw]
  · obtain ⟨hfree, hstranded⟩ := busy_of_eligible s i (eligible_of_sole s _ i hsole)
    have absorbed : s.judgeWaiting w = _ := (judgeWaiting_of_unprotected s w hc hu).trans
      ((absorbOrWait_of_sole s.emptiedHead w i hsole hf).trans
        (congrArg (State.respond · w.tag _) (mergeInto_of_not_opened s.emptiedHead i _ _ hop)))
    exact stalledWriteAbsorb_due s w _ hr hw absorbed (quiet_of_slot s _ i _ (ready_quiet s hr) rfl rfl rfl
      (fun _ => rfl) (slot_setSlot s i _) hfree hstranded)
  · have running : s.control.state = .running := by
      simp only [State.acceptable, Bool.and_eq_true, beq_iff_eq] at ha; exact ha.1.2
    have absorbed : s.judgeWaiting w = _ := (judgeWaiting_of_unprotected s w running hu).trans
      (absorbOrWait_of_opening s.emptiedHead w i ha hf hn hi hlow hlw)
    exact stalledWriteAbsorb_due s w _ hr hw absorbed (quiet_of_slot s _ i _ (ready_quiet s hr) rfl rfl rfl
      (fun _ => rfl) (slot_setSlot s i _) (by simp [State.slotFor]) (by simp [State.slotFor]))
  · obtain ⟨hfree, hstranded⟩ := busy_of_eligible s i (eligible_of_sole s _ i hsole)
    have absorbed : s.judgeWaiting w = _ := (judgeWaiting_of_unprotected s w hc hu).trans
      (absorbOrWait_of_fence s.emptiedHead w i head rest hsole hf hop he hlen hout)
    exact stalledWriteAbsorb_due s w _ hr hw absorbed (quiet_of_slot s _ i _ (ready_quiet s hr) rfl rfl rfl
      (fun _ => rfl) (slot_setSlot s i _) hfree hstranded)
  · refine stalledWriteAbsorb_due s w s hr hw ?_ (ready_quiet s hr)
    rw [← coveringRegion?_eq] at hreg
    simp [State.judgeWaiting, hc, hreg, cannot hs]
  · rw [← coveringRegion?_eq] at hreg
    refine stalledWriteAbsorb_due s w _ hr hw ?_ (ready_quiet s hr)
    simp only [State.judgeWaiting, hc, ne_eq, not_true, if_false, hreg, can hs, if_true]
    exact protectWrite_eq s.emptiedHead w region
  · refine stalledWriteAbsorb_due s w (s.emptiedHead.answerWrite w.tag .halted) hr hw ?_ (ready_quiet s hr)
    simp only [State.judgeWaiting, if_pos hc, State.emptiedHead]

/-- A page directory out of order: page 5 stands before page 3, whose one slot is PROGRAMMING. A write of one byte to
page 3 waits in the memory lane, every other slot is FREE, and LOW_WATER lies above their number. -/
def unsortedDirectory : State :=
  { State.reset with
    link := { State.reset.link with memLane := [.write
      { tag := 0, length := 1, fence := false, notify := false, address := 768, data := [0x00#8] }] },
    absorb := {
      slots := (Vector.replicate 32 Slot.unused).set 1 { Slot.unused with state := .programming, page := 3 },
      opened := 1,
      directory := [{ page := 5, slots := [], pins := 1 }, { page := 3, slots := [1], pins := 0 }] },
    engine := { State.reset.engine with profile := { Profile.default with lowWater := 40 } },
    control := { State.reset.control with state := .running },
    geometry := some { banks := 4, pages := 65536, spares := 32 },
    pins := { State.reset.pins with resetAsserted := false } }

/-- The state of slot 0 after a step. -/
def stateOfSlotZero : Host.Outcome State Fault Refusal → SlotState
  | .next t => (t.slot 0).state
  | .fault _ => .free
  | .refused _ => .free

/-- Refutes O23: the HELD clause does not assume the page directory in order (R6). Out of order, the slot that opens is
put into a fresh entry before the entry that holds the page's older slot, so it sees no older slot and is FILLING. -/
theorem not_writeOpensTheLowestFreeSlot : ¬ Obligations.WriteOpensTheLowestFreeSlot := by
  intro h
  have held := ((h unsortedDirectory
    { tag := 0, length := 1, fence := false, notify := false, address := 768, data := [0x00#8] } 0
    (by decide) (by decide) (by decide) rfl (by decide) (by decide) (by decide)).2 (by decide) (by decide)
    (by decide)).1 (by decide)
  have filling : stateOfSlotZero (exec .writeTake unsortedDirectory) = .filling := by decide
  exact absurd (filling.symm.trans (congrArg stateOfSlotZero held)) (by decide)

end Sys2Proof
end

/-! ## FLUSH and PROFILE -/

section
/-!
SUPPORT. Orders, the removal of a drained head, two OPEN slots that close one after the other, and what FLUSH and
PROFILE make of the state.
-/

namespace Sys2Proof.Machine

section
variable (s : State)

/-! ### Two slots that close (R18, R19) -/

/-- The only slot of a page that is not lost, its written set not full, at a bank: it closes by an array read. -/
structure State.ClosesByRead (s : State) (g : Geometry) (c : BankId) (k : SlotId) : Prop where
  notFull : (s.slot k).image.full = false
  only : s.slotList (s.slot k).page = [k]
  kept : (s.slot k).page ∉ s.remap.lost
  there : (s.slot k).page % g.banks = c.val

theorem State.ClosesByRead.olderSlots {s : State} {g : Geometry} {c : BankId} {k : SlotId}
    (h : s.ClosesByRead g c k) : s.olderSlots k = [] :=
  olderSlots_of_list s k [] [] h.only (by simp)

theorem State.ClosesByRead.closeSlot {s : State} {g : Geometry} {c : BankId} {k : SlotId}
    (h : s.ClosesByRead g c k) (hg : s.geometry = some g) (hm : (s.bank c).monitor = .reading) :
    s.closeSlot k = (s.setSlot k { s.slot k with state := .filling, closeTimer := .stopped }).setBank c
      { s.bank c with readQueue := (s.bank c).readQueue ++ [{
          index := (match mapSpare? s.remap.table (s.slot k).page with
            | some spare => g.pages - g.spares - 128 / g.banks + spare
            | none => (s.slot k).page / g.banks),
          owner := .fill k, retried := false }] } :=
  closeSlot_reads s k c _ (olderOnTheWay_of_only s k h.olderSlots) h.notFull
    (closureBytes?_of_only s k h.olderSlots h.kept) (bankOfPage_of_geometry s g c _ hg h.there)
    (targetIndex_currentTarget s g _ hg) hm

/-- Two such slots of one bank close one after the other: their fill jobs join its read queue in that order. -/
theorem closeSlot_closeSlot (g : Geometry) (c : BankId) (i j : SlotId) (hne : i ≠ j) (hi : s.ClosesByRead g c i)
    (hj : s.ClosesByRead g c j) (hg : s.geometry = some g) (hm : (s.bank c).monitor = .reading) :
    let closed := fun k => { s.slot k with state := .filling, closeTimer := .stopped }
    let job := fun (k : SlotId) =>
      { index := (match mapSpare? s.remap.table (s.slot k).page with
          | some spare => g.pages - g.spares - 128 / g.banks + spare
          | none => (s.slot k).page / g.banks),
        owner := .fill k, retried := false }
    (s.closeSlot i).closeSlot j = ((s.setSlot i (closed i)).setSlot j (closed j)).setBank c
      { s.bank c with readQueue := (s.bank c).readQueue ++ [job i, job j] } := by
  intro closed job
  have first : s.closeSlot i = (s.setSlot i (closed i)).setBank c
      { s.bank c with readQueue := (s.bank c).readQueue ++ [job i] } := hi.closeSlot hg hm
  have slot : (s.closeSlot i).slot j = s.slot j := by
    rw [first, slot_setBank, slot_setSlot_ne _ _ _ _ hne]
  have bank : (s.closeSlot i).bank c = { s.bank c with readQueue := (s.bank c).readQueue ++ [job i] } := by
    rw [first, bank_setBank]
  have second : (s.closeSlot i).ClosesByRead g c j := by
    refine ⟨?_, ?_, ?_, ?_⟩ <;> rw [slot]
    exacts [hj.notFull, by rw [first]; exact hj.only, by rw [first]; exact hj.kept, hj.there]
  rw [second.closeSlot (by rw [first]; exact hg) (by rw [bank]; exact hm), slot, bank, first]
  simp only [List.append_assoc, List.cons_append, List.nil_append]
  exact setBank_setBank ((s.setSlot i (closed i)).setSlot j (closed j)) c _ _

/-! ### The removal of the head (R38, R39) -/

theorem queuedOf_eq_nil (fence : Nat) (h : ∀ i, (s.slot i).state = .queued → (s.slot i).epoch ≠ fence) :
    s.queuedOf fence = [] := by
  have none : allSlots.filter (fun i => (s.slot i).state == .queued && (s.slot i).epoch == fence) = [] :=
    List.filter_eq_nil_iff.mpr fun i _ => by simpa using h i
  simp [State.queuedOf, none, sortBy]

theorem admitHead_of_none (e : Epoch) (rest : List Epoch) (h : s.tracker.epochs = e :: rest)
    (hq : ∀ i, (s.slot i).state = .queued → (s.slot i).epoch ≠ e.fence) : s.admitHead = s := by
  simp [State.admitHead, State.headFence?, h, queuedOf_eq_nil s e.fence hq]

/-- A drained head is removed, and the slots of the next entry are admitted, where that entry stays. -/
theorem judgeRemoval_of_drained (e n : Epoch) (rest : List Epoch) (h : s.tracker.epochs = e :: n :: rest)
    (hc : e.state = .closed) (ho : e.outstanding = 0) (hn : n.state = .opened ∨ n.outstanding ≠ 0) :
    s.judgeRemoval = (s.removeHead e (n :: rest)).admitHead := by
  have stays : ¬ (n.state = .closed ∧ n.outstanding = 0) := by rintro ⟨hc, hz⟩; simp [hc, hz] at hn
  simp [State.judgeRemoval, h, hc, ho, removeDrained, stays]

/-- The removal of an entry: the last persisted fence, its notice if its notify flag is set, and its loss if it is
lossy, stated where the incident queue has room for that (R39, R41, R42). -/
theorem removeHead_eq (e : Epoch) (rest : List Epoch)
    (h : e.lossy = true → s.engine.incidents.length < 16) : s.removeHead e rest =
    { s with
      tracker := { s.tracker with epochs := rest, lastPersisted := e.fence },
      link := { s.link with
        responses := s.link.responses ++ (if e.notify then [.persisted e.fence e.lossy] else []) },
      engine := if e.lossy then { s.engine with
          latched := s.engine.latched ||| 0x40#32,
          incidents := s.engine.incidents ++ [{ kind := .lossyEpoch, fence := s.tracker.fenceCounter,
                                                operation := some e.fence }] }
        else s.engine } := by
  have noted : (State.notePersisted { s with tracker := { s.tracker with epochs := rest, lastPersisted := e.fence } }
      e) = { s with
        tracker := { s.tracker with epochs := rest, lastPersisted := e.fence },
        link := { s.link with
          responses := s.link.responses ++ (if e.notify then [.persisted e.fence e.lossy] else []) } } := by
    cases hn : e.notify <;> simp [State.notePersisted, hn, State.push]
  rw [State.removeHead, noted, State.noteLossy]
  cases hl : e.lossy with
  | false => rfl
  | true =>
    simp only [if_true, State.raise, h hl]
    rfl

theorem removeHead_of_clean (e : Epoch) (rest : List Epoch) (h : e.lossy = false) : s.removeHead e rest =
    { s with
      tracker := { s.tracker with epochs := rest, lastPersisted := e.fence },
      link := { s.link with
        responses := s.link.responses ++ (if e.notify then [.persisted e.fence e.lossy] else []) } } := by
  rw [removeHead_eq s e rest (by simp [h])]
  simp [h]

/-! ### Directives that are admitted -/

theorem judgeDirective_of_admitted (which : Directive) (d : DirRequest) (body : DirRequest → State → State)
    (hs : s.region.staging = .empty) (ha : s.admits which = true) (hl : d.lengthOk which = true) :
    s.judgeDirective which d body = body d s := by
  simp [State.judgeDirective, State.discardStaging, hs, ha, hl]

/-- A directive that is admitted is carried out, and the command ends with nothing due. -/
theorem directive_ends (which : Directive) (body : DirRequest → State → State) (d : DirRequest) (t : State)
    (h : s.offersDirective d = true) (hc : directiveOf? d.code = some which)
    (hs : s.region.staging = .empty) (ha : s.admits which = true) (hl : d.lengthOk which = true)
    (hb : body d (s.tookDirective d.tag) = t) (hq : t.quiet = true) :
    execDirective which body s = .next t.judgeAlert := by
  have judged : (s.tookDirective d.tag).judgeDirective which d body = _ :=
    judgeDirective_of_admitted (s.tookDirective d.tag) which d body hs ha hl
  rw [directive_offered s which body d h hc, judged, hb, settle_of_quiet t hq]

/-- The same for a directive whose answer comes last, its other effects being those that lead to `t`. -/
theorem directive_answered (which : Directive) (body : DirRequest → State → State) (d : DirRequest) (t : State)
    (r : Result) (x : List Byte) (h : s.offersDirective d = true) (hc : directiveOf? d.code = some which)
    (hs : s.region.staging = .empty) (ha : s.admits which = true) (hl : d.lengthOk which = true)
    (hb : body d (s.tookDirective d.tag) = (t.tookDirective d.tag).answerDirective d.tag r x)
    (hlink : t.link = s.link) (he : t.engine.current = s.engine.current) (hq : t.quiet = true) :
    execDirective which body s
      = .next (State.judgeAlert { t with link := s.link.tookDirective [.directiveDone d.tag r x] }) := by
  obtain ⟨_, hcur, _, _, htag⟩ := offersDirective_cases s d h
  refine directive_ends s which body d _ h hc hs ha hl (hb.trans ?_) hq
  rw [answer_tookDirective t d.tag r x (by rwa [hlink]) (he.trans hcur), hlink]

end

end Sys2Proof.Machine

namespace Sys2Proof

open Machine

/-- Settles O25. -/
theorem flushTakesAFence : Obligations.FlushTakesAFence := by
  intro s d ho hcode hlen hpay hstate hstaging assigned fresh
  have hq := ready_quiet s (offersDirective_cases s d ho).1
  have admitted : s.admits .flush = true := by rcases hstate with h | h <;> rw [State.admits, h] <;> rfl
  have length : d.lengthOk .flush = true := by rw [DirRequest.lengthOk, hlen, hpay]; rfl
  have code : directiveOf? d.code = some .flush := by rw [hcode]; rfl
  have answered (t : State) (r : Result) (x : List Byte) :=
    directive_answered s .flush flushBody d t r x ho code hstaging admitted length
  have takes (h : s.tracker.epochs.length < 8) : flushBody d (s.tookDirective d.tag) = _ := if_pos h
  refine ⟨fun hfull => ?_, fun head rest he hl hout hopen => ?_, fun head he hop hout hloss hopen hqueued => ?_,
    fun i j c g head rest he hl hout hopen hage hslots hg hm => ?_⟩
  · exact answered s .busy [] (if_neg (Nat.not_lt.mpr hfull)) rfl rfl hq
  · have room : s.tracker.epochs.length < 8 := by rw [he, List.length_cons]; omega
    refine answered { s with tracker := s.tracker.closeCurrent true } _ _ ((takes room).trans ?_) rfl rfl hq
    rw [takeFence_of_none_open (s.tookDirective d.tag) _ _ hopen]
    exact judgeRemoval_of_closeCurrent s _ true head rest he hout rfl
  · have room : s.tracker.epochs.length < 8 := by rw [he]; simp
    let closed : Epoch := { head with state := .closed, notify := true }
    let u : State := { s with
      tracker := s.tracker.closeCurrent true,
      link := s.link.tookDirective [.directiveDone d.tag .done (leBytes 2 assigned)] }
    have epochs : u.tracker.epochs = [closed, fresh] := by
      simp only [u, EpochTracker.closeCurrent, he, List.map_cons, hop, if_true]; rfl
    obtain ⟨_, hcur, _, _, htag⟩ := offersDirective_cases s d ho
    have responded : _ = u := answer_tookDirective { s with tracker := s.tracker.closeCurrent true } d.tag .done
      (leBytes 2 assigned) htag hcur
    let v : State := { s with
      link := s.link.tookDirective [.directiveDone d.tag .done (leBytes 2 assigned), .persisted head.fence false],
      tracker := { epochs := [fresh], fenceCounter := assigned, lastPersisted := head.fence } }
    have head : u.removeHead closed [fresh] = v := by
      rw [removeHead_of_clean u closed _ hloss]
      simp [u, v, closed, hloss, HostLink.tookDirective]
      rfl
    have removed : u.judgeRemoval = v := by
      rw [judgeRemoval_of_drained u closed fresh [] epochs rfl hout (.inl rfl), head]
      exact admitHead_of_none v fresh [] rfl hqueued
    have body : flushBody d (s.tookDirective d.tag) = _ := (takes room).trans
      ((takeFence_of_none_open (s.tookDirective d.tag) _ _ hopen).trans
        ((congrArg State.judgeRemoval responded).trans removed))
    exact directive_ends s .flush flushBody d _ ho code hstaging admitted length body hq
  · have room : s.tracker.epochs.length < 8 := by rw [he, List.length_cons]; omega
    have hne : i ≠ j := by rintro rfl; exact absurd hage (Nat.lt_irrefl _)
    intro closed job
    let u : State := { s.tookDirective d.tag with tracker := s.tracker.closeCurrent true }
    have reads (k : SlotId) (hk : k ∈ [i, j]) : u.ClosesByRead g c k := by
      obtain ⟨_, full, only, kept, there⟩ := hslots k hk
      exact ⟨full, only, kept, there⟩
    have closes := closeSlot_closeSlot u g c i j hne (reads i (by simp)) (reads j (by simp)) hg hm
    have fence : (s.tookDirective d.tag).takeFence true _
        = (State.answerDirective ((u.closeSlot i).closeSlot j) d.tag .done (leBytes 2 assigned)).judgeRemoval :=
      takeFence_of_two_open _ true (fun fence t => t.answerDirective d.tag .done (leBytes 2 fence)) i j hopen hage
        (fun k hk => (hslots k hk).1)
    rw [closes] at fence
    refine answered { ((s.setSlot i (closed i)).setSlot j (closed j)).setBank c
        { s.bank c with readQueue := (s.bank c).readQueue ++ [job i, job j] } with
        tracker := s.tracker.closeCurrent true } _ _
      ((takes room).trans (fence.trans ?_)) rfl rfl
      (quiet_of_slot s _ j (closed j) hq rfl rfl rfl (program_setBank _ c _ rfl) (slot_setSlot _ j _) (by simp [closed])
        (by simp [closed]))
    exact judgeRemoval_of_closeCurrent s _ true head rest he hout rfl

end Sys2Proof
end

/-! ## PROFILE -/

section
/-!
SUPPORT. The fields of a PROFILE request, its invalid set and its reply, and the statement about it.
-/

namespace Sys2Proof.Machine

/-- A one-byte field of a payload is the byte at its offset. -/
theorem field_byte (d : DirRequest) (k : Nat) (v : Byte) (h : d.payload[k]? = some v) :
    d.field k 1 = v.toNat := by
  simp [DirRequest.field, List.take_one, List.head?_drop, h, leNat]

/-- Four bytes as a 32-bit word. -/
theorem ofNat_leNat_word (m₀ m₁ m₂ m₃ : Byte) :
    BitVec.ofNat 32 (leNat [m₀, m₁, m₂, m₃]) = m₃ ++ m₂ ++ m₁ ++ m₀ := by
  have join (a : Nat) (b : Byte) : a <<< 8 ||| b.toNat = a * 256 + b.toNat := by
    rw [← Nat.shiftLeft_add_eq_or_of_lt b.isLt, Nat.shiftLeft_eq]
  apply BitVec.eq_of_toNat_eq
  simp only [leNat, BitVec.toNat_ofNat, BitVec.toNat_append, join]
  have := m₀.isLt
  have := m₁.isLt
  have := m₂.isLt
  have := m₃.isLt
  omega

/-- The invalid set as a byte: bits 1 to 4 for groups 2 to 5 (R145). -/
def invalidByte (b₂ b₃ b₄ b₅ : Bool) : Byte :=
  0#3 ++ BitVec.ofBool b₅ ++ BitVec.ofBool b₄ ++ BitVec.ofBool b₃ ++ BitVec.ofBool b₂ ++ 0#1

/-- Whether a group of a PROFILE request is invalid: it is not marked KEEP and its value is none it may take. -/
def groupInvalid (d : DirRequest) (group : Nat) : Bool := !(keeps d group || groupValid group (groupValue d group))

theorem invalidSet_eq (d : DirRequest) : invalidSet d
    = (invalidByte (groupInvalid d 2) (groupInvalid d 3) (groupInvalid d 4) (groupInvalid d 5)).toNat := by
  have sum : ∀ b₂ b₃ b₄ b₅ : Bool, ([(2, !b₂), (3, !b₃), (4, !b₄), (5, !b₅)].map
      (fun x => if x.2 then 0 else 2 ^ (x.1 - 1))).sum = (invalidByte b₂ b₃ b₄ b₅).toNat := by decide
  rw [← sum]
  simp [invalidSet, groupInvalid]

theorem invalidSet_eq_zero_iff (d : DirRequest) : invalidSet d = 0
    ↔ (groupInvalid d 2 || groupInvalid d 3 || groupInvalid d 4 || groupInvalid d 5) = false := by
  rw [invalidSet_eq]
  generalize groupInvalid d 2 = b₂, groupInvalid d 3 = b₃, groupInvalid d 4 = b₄, groupInvalid d 5 = b₅
  revert b₂ b₃ b₄ b₅
  decide

/-- The profile reply, byte for byte (R145). -/
theorem profileReply_eq (mode : Byte) (b₂ b₃ b₄ b₅ : Bool) (p : Profile) :
    profileReply mode.toNat (invalidByte b₂ b₃ b₄ b₅).toNat p
      = [mode, invalidByte b₂ b₃ b₄ b₅, BitVec.ofNat 8 p.closeAge, if b₂ then 0#8 else BitVec.ofNat 8 p.lowWater,
          if b₃ then 0#8 else BitVec.ofNat 8 p.suspendBudget, if b₄ then 0#8 else BitVec.ofNat 8 p.retryLimit,
          if b₅ then 0#8 else BitVec.ofNat 8 p.drainBudget, 0#8] ++ leBytes 4 p.alertMask.toNat := by
  have bits : ∀ b₂ b₃ b₄ b₅ : Bool,
      [0, 1, 2, 3, 4].map (invalidByte b₂ b₃ b₄ b₅).getLsbD = [false, b₂, b₃, b₄, b₅] := by decide
  have bit := bits b₂ b₃ b₄ b₅
  simp only [List.map_cons, List.map_nil, List.cons.injEq, and_true] at bit
  obtain ⟨h0, h1, h2, h3, h4⟩ := bit
  simp only [profileReply, replyByte, BitVec.ofNat_toNat, BitVec.setWidth_eq, h0, h1, h2, h3, h4, leBytes]
  cases b₂ <;> cases b₃ <;> cases b₄ <;> cases b₅ <;> rfl

section
variable (s : State)

/-- The order in which closure under LOW_WATER takes two OPEN slots (R17). -/
theorem closingOrder_of_two (i j : SlotId) (hopen : ∀ k, (s.slot k).state = .opened ↔ k = i ∨ k = j)
    (hord : (s.slot i).lastMerge < (s.slot j).lastMerge
      ∨ (s.slot i).lastMerge = (s.slot j).lastMerge ∧ (s.slot i).age < (s.slot j).age) :
    sortBy (fun k => (s.slot k).lastMerge) (sortBy (fun k => (s.slot k).age) s.openSlots) = [i, j] := by
  have hne : i ≠ j := by rintro rfl; simp at hord
  have perm := openSlots_perm s i j hne hopen
  rcases hord with earlier | ⟨alike, older⟩
  · exact sortBy_pair _ i j _ ((sortBy_perm _ _).trans perm) earlier
  · rw [sortBy_pair (fun k => (s.slot k).age) i j _ perm older]
    exact sortBy_of_sorted_pair _ i j (Nat.le_of_eq alike)

/-- Closure under LOW_WATER with two OPEN slots. -/
theorem lowWaterClosure_of_two (i j : SlotId) (hopen : ∀ k, (s.slot k).state = .opened ↔ k = i ∨ k = j)
    (hord : (s.slot i).lastMerge < (s.slot j).lastMerge
      ∨ (s.slot i).lastMerge = (s.slot j).lastMerge ∧ (s.slot i).age < (s.slot j).age)
    (h : s.freeCount < s.engine.profile.lowWater) : s.lowWaterClosure = (s.closeSlot i).closeSlot j := by
  rw [State.lowWaterClosure, if_pos h, closingOrder_of_two s i j hopen hord]
  rfl

end

end Sys2Proof.Machine

namespace Sys2Proof

open Machine

/-- Settles O55. -/
theorem profileProbesAndApplies : Obligations.ProfileProbesAndApplies := by
  intro s d mode v₁ v₂ v₃ v₄ v₅ z m₀ m₁ m₂ m₃ keep ho hstate hstaging hcode hlen hpay
    bad₂ bad₃ bad₄ bad₅ bad invalid now asked reply result
  have hq := ready_quiet s (offersDirective_cases s d ho).1
  have admitted : s.admits .profile = true := by rcases hstate with h | h <;> rw [State.admits, h] <;> rfl
  have length : d.lengthOk .profile = true := by rw [DirRequest.lengthOk, hlen, hpay]; rfl
  have code : directiveOf? d.code = some .profile := by rw [hcode]; rfl
  have answered (t : State) (r : Result) (x : List Byte) :=
    directive_answered s .profile profileBody d t r x ho code hstaging admitted length
  have byte (k : Nat) (v : Byte) (h : [mode, keep, v₁, v₂, v₃, v₄, v₅, z, m₀, m₁, m₂, m₃][k]? = some v) :
      d.field k 1 = v.toNat := field_byte d k v (by rw [hpay, h])
  have hmode : d.field 0 1 = mode.toNat := byte 0 mode rfl
  have hkeep (g : Nat) : keeps d g = keep.getLsbD (g - 1) := by
    rw [keeps, byte 1 keep rfl, BitVec.ofNat_toNat, BitVec.setWidth_eq]
  have value₁ : groupValue d 1 = v₁.toNat := byte 2 v₁ rfl
  have value₂ : groupValue d 2 = v₂.toNat := byte 3 v₂ rfl
  have value₃ : groupValue d 3 = v₃.toNat := byte 4 v₃ rfl
  have value₄ : groupValue d 4 = v₄.toNat := byte 5 v₄ rfl
  have value₅ : groupValue d 5 = v₅.toNat := byte 6 v₅ rfl
  have mask : BitVec.ofNat 32 (d.field 8 4) = m₃ ++ m₂ ++ m₁ ++ m₀ := by
    rw [← ofNat_leNat_word, DirRequest.field, hpay]; rfl
  have invalid₂ : groupInvalid d 2 = bad₂ := by simp [groupInvalid, groupValid, hkeep, value₂, bad₂, ← decide_not]
  have invalid₃ : groupInvalid d 3 = bad₃ := by simp [groupInvalid, groupValid, hkeep, value₃, bad₃, ← decide_not]
  have invalid₄ : groupInvalid d 4 = bad₄ := by simp [groupInvalid, groupValid, hkeep, value₄, bad₄, ← decide_not]
  have invalid₅ : groupInvalid d 5 = bad₅ := by simp [groupInvalid, groupValid, hkeep, value₅, bad₅, ← decide_not]
  have set : invalidSet d = (invalidByte bad₂ bad₃ bad₄ bad₅).toNat := by
    rw [invalidSet_eq, invalid₂, invalid₃, invalid₄, invalid₅]
  have set_zero : invalidSet d = 0 ↔ bad = false := by
    rw [invalidSet_eq_zero_iff, invalid₂, invalid₃, invalid₄, invalid₅]
  have requested : now.requested d = asked := by
    simp only [Profile.requested, hkeep, value₁, value₂, value₃, value₄, value₅, mask, asked, conditionBits]
  have replies (p : Profile) : profileReply mode.toNat (invalidSet d) p = reply p := by
    rw [set]; exact profileReply_eq mode bad₂ bad₃ bad₄ bad₅ p
  let u : State := { s.tookDirective d.tag with engine := { s.engine with profile := asked } }
  have applied (hm : mode = 1#8) (hgood : bad = false) : profileBody d (s.tookDirective d.tag)
      = u.lowWaterClosure.answerDirective d.tag result (reply asked) := by
    have body : profileBody d (s.tookDirective d.tag) = (s.tookDirective d.tag).applyProfile d := by
      rw [profileBody, hmode, hm]; rfl
    have outcome : Result.done = result := by simp [result, hgood]
    have payload : profileReply 1 0 (now.requested d) = reply asked := by
      rw [← replies, set_zero.mpr hgood, hm, requested]; rfl
    rw [body, ← outcome, ← payload]
    refine (if_pos (set_zero.mpr hgood)).trans ?_
    simp only [u, ← requested]
    rfl
  refine ⟨fun hm => ?_, fun hm hbad => ?_, fun hm hgood hwater => ?_,
    fun i j c g hm hgood hwater hopen hord hslots hg hb => ?_, fun h0 h1 => ?_⟩
  · have body : profileBody d (s.tookDirective d.tag) = (s.tookDirective d.tag).probeProfile d := by
      rw [profileBody, hmode, hm]; rfl
    have outcome : (if invalidSet d = 0 then Result.done else .badArgument) = result := by
      simp only [set_zero, result]; cases bad <;> rfl
    have payload : profileReply 0 (invalidSet d) (now.requested d) = reply asked := by
      rw [← replies, hm, requested]; rfl
    refine answered s result (reply asked) (body.trans ?_) rfl rfl hq
    rw [← outcome, ← payload]
    rfl
  · have body : profileBody d (s.tookDirective d.tag) = (s.tookDirective d.tag).applyProfile d := by
      rw [profileBody, hmode, hm]; rfl
    have invalid : invalidSet d ≠ 0 := by rw [ne_eq, set_zero, hbad]; simp
    have outcome : Result.badArgument = result := by simp [result, hbad]
    have payload : profileReply 1 (invalidSet d) now = reply now := by rw [← replies, hm]; rfl
    refine answered s result (reply now) (body.trans ((if_neg invalid).trans ?_)) rfl rfl hq
    rw [← outcome, ← payload]
    rfl
  · exact answered { s with engine := { s.engine with profile := asked } } result (reply asked)
      ((applied hm hgood).trans (congrArg (State.answerDirective · d.tag result (reply asked))
        (lowWaterClosure_of_enough u hwater))) rfl rfl hq
  · intro closed job
    have hne : i ≠ j := by rintro rfl; simp at hord
    have reads (k : SlotId) (hk : k ∈ [i, j]) : u.ClosesByRead g c k := by
      obtain ⟨full, only, kept, there⟩ := hslots k hk
      exact ⟨full, only, kept, there⟩
    have closes := (lowWaterClosure_of_two u i j hopen hord hwater).trans
      (closeSlot_closeSlot u g c i j hne (reads i (by simp)) (reads j (by simp)) hg hb)
    exact answered { ((s.setSlot i (closed i)).setSlot j (closed j)).setBank c
        { s.bank c with readQueue := (s.bank c).readQueue ++ [job i, job j] } with
        engine := { s.engine with profile := asked } } result (reply asked)
      ((applied hm hgood).trans (congrArg (State.answerDirective · d.tag result (reply asked)) closes)) rfl rfl
      (quiet_of_slot s _ j (closed j) hq rfl rfl rfl (program_setBank _ c _ rfl) (slot_setSlot _ j _)
        (by simp [closed]) (by simp [closed]))
  · have not0 : ¬ d.field 0 1 = 0 := fun e => h0 (BitVec.eq_of_toNat_eq (hmode.symm.trans e))
    have not1 : ¬ d.field 0 1 = 1 := fun e => h1 (BitVec.eq_of_toNat_eq (hmode.symm.trans e))
    exact answered s .badArgument [] ((if_neg not0).trans (if_neg not1)) rfl rfl hq

end Sys2Proof
end

/-! ## The page directory -/

section
/-!
SUPPORT. What the page directory holds of a page after an entry has changed, and that it stays in order.
-/

namespace Sys2Proof.Machine

/-- A page's directory entry; one that does not exist is empty (R6). -/
def entryOf (page : Nat) (ds : List DirEntry) : DirEntry :=
  (ds.find? (fun e => e.page == page)).getD { page := page, slots := [], pins := 0 }

theorem slotList_eq (s : State) (page : Nat) : s.slotList page = (entryOf page s.absorb.directory).slots := by
  unfold State.slotList State.dirEntry? entryOf
  cases s.absorb.directory.find? (fun e => e.page == page) <;> rfl

theorem pinCount_eq (s : State) (page : Nat) : s.pinCount page = (entryOf page s.absorb.directory).pins := by
  unfold State.pinCount State.dirEntry? entryOf
  cases s.absorb.directory.find? (fun e => e.page == page) <;> rfl

theorem entryOf_cons_self (e : DirEntry) (ds : List DirEntry) : entryOf e.page (e :: ds) = e := by
  simp [entryOf]

theorem entryOf_cons_ne (page : Nat) (e : DirEntry) (ds : List DirEntry) (h : e.page ≠ page) :
    entryOf page (e :: ds) = entryOf page ds := by
  simp [entryOf, h]

/-- A page below every entry has none. -/
theorem entryOf_eq_empty (page : Nat) (ds : List DirEntry) (h : ∀ e ∈ ds, page < e.page) :
    entryOf page ds = { page := page, slots := [], pins := 0 } := by
  have none : ds.find? (fun e => e.page == page) = none :=
    List.find?_eq_none.mpr fun e he => by simpa using Nat.ne_of_gt (h e he)
  rw [entryOf, none, Option.getD_none]

/-- Entries in ascending order of page. -/
def sortedByPage (ds : List DirEntry) : Prop := ds.Pairwise (fun a b => a.page < b.page)

/-- A lawful directory is in ascending order of page without an empty entry. -/
theorem directoryLawful_iff (ds : List DirEntry) : directoryLawful ds = true
    ↔ sortedByPage ds ∧ ∀ e ∈ ds, (!e.slots.isEmpty || decide (0 < e.pins)) = true := by
  induction ds with
  | nil => simp [directoryLawful, sortedByPage]
  | cons a ds ih =>
    cases ds with
    | nil => simp [directoryLawful, sortedByPage]
    | cons b rest =>
      rw [directoryLawful, Bool.and_eq_true, Bool.and_eq_true, ih, decide_eq_true_eq, sortedByPage, sortedByPage,
        List.pairwise_cons (a := a) (l := b :: rest), List.forall_mem_cons (a := a)]
      constructor
      · rintro ⟨⟨ha, hab⟩, hsorted, hall⟩
        refine ⟨⟨fun e he => ?_, hsorted⟩, ha, hall⟩
        rcases List.mem_cons.mp he with rfl | he
        · exact hab
        · exact Nat.lt_trans hab ((List.pairwise_cons.mp hsorted).1 e he)
      · rintro ⟨⟨hlt, hsorted⟩, ha, hall⟩
        exact ⟨⟨ha, hlt b List.mem_cons_self⟩, hsorted, hall⟩

/-- A changed entry is put before those above it, or dropped when it is empty. -/
theorem entryOf_keepEntry (e : DirEntry) (ds : List DirEntry) (h : ∀ x ∈ ds, e.page < x.page) :
    entryOf e.page (keepEntry e ds) = e := by
  unfold keepEntry
  split
  · next hempty =>
    simp only [Bool.and_eq_true, List.isEmpty_iff, beq_iff_eq] at hempty
    rw [entryOf_eq_empty _ _ h, ← hempty.1, ← hempty.2]
  · exact entryOf_cons_self e ds

theorem entryOf_keepEntry_ne (page : Nat) (e : DirEntry) (ds : List DirEntry) (h : e.page ≠ page) :
    entryOf page (keepEntry e ds) = entryOf page ds := by
  unfold keepEntry
  split
  · rfl
  · exact entryOf_cons_ne page e ds h

/-- The entry of a page after it has changed, in a directory in order. -/
theorem entryOf_changeEntry (page : Nat) (f : DirEntry → DirEntry) (ds : List DirEntry) (h : sortedByPage ds)
    (hf : ∀ e, (f e).page = e.page) : entryOf page (changeEntry page f ds) = f (entryOf page ds) := by
  have kept (e : DirEntry) (he : e.page = page) (rest : List DirEntry) (hr : ∀ x ∈ rest, page < x.page) :
      entryOf page (keepEntry (f e) rest) = f e := by
    have at_page : (f e).page = page := (hf e).trans he
    rw [← at_page] at hr ⊢
    exact entryOf_keepEntry (f e) rest hr
  induction ds with
  | nil => exact kept { page := page, slots := [], pins := 0 } rfl [] (by simp)
  | cons e rest ih =>
    obtain ⟨hlt, hsorted⟩ := List.pairwise_cons.mp h
    rw [changeEntry]
    split
    · next below =>
      have above : ∀ x ∈ e :: rest, page < x.page := by
        intro x hx
        rcases List.mem_cons.mp hx with rfl | hx
        · exact below
        · exact Nat.lt_trans below (hlt x hx)
      rw [kept _ rfl _ above, entryOf_eq_empty page _ above]
    · split
      · next here => rw [kept e here.symm rest (by rw [here]; exact hlt), here, entryOf_cons_self]
      · next elsewhere =>
        rw [entryOf_cons_ne page _ _ (Ne.symm elsewhere), entryOf_cons_ne page _ _ (Ne.symm elsewhere), ih hsorted]

/-- The entry of another page. -/
theorem entryOf_changeEntry_ne (page other : Nat) (f : DirEntry → DirEntry) (ds : List DirEntry)
    (hf : ∀ e, (f e).page = e.page) (h : other ≠ page) :
    entryOf other (changeEntry page f ds) = entryOf other ds := by
  have fresh (rest : List DirEntry) :
      entryOf other (keepEntry (f { page := page, slots := [], pins := 0 }) rest) = entryOf other rest :=
    entryOf_keepEntry_ne other _ rest (by rw [hf]; exact h.symm)
  induction ds with
  | nil => exact fresh []
  | cons e rest ih =>
    rw [changeEntry]
    split
    · exact fresh (e :: rest)
    · split
      · next here =>
        rw [entryOf_keepEntry_ne other _ _ (by rw [hf, ← here]; exact h.symm),
          entryOf_cons_ne other _ _ (by rw [← here]; exact h.symm)]
      · by_cases he : e.page = other
        · rw [← he, entryOf_cons_self, entryOf_cons_self]
        · rw [entryOf_cons_ne other _ _ he, entryOf_cons_ne other _ _ he, ih]

theorem mem_keepEntry (e x : DirEntry) (ds : List DirEntry) (h : x ∈ keepEntry e ds) : x = e ∨ x ∈ ds := by
  unfold keepEntry at h
  split at h
  · exact .inr h
  · exact List.mem_cons.mp h

theorem mem_changeEntry (page : Nat) (f : DirEntry → DirEntry) (ds : List DirEntry)
    (hf : ∀ e, (f e).page = e.page) (x : DirEntry) (h : x ∈ changeEntry page f ds) : x.page = page ∨ x ∈ ds := by
  induction ds with
  | nil =>
    rcases mem_keepEntry _ _ _ h with rfl | hx
    · exact .inl (hf _)
    · exact absurd hx (by simp)
  | cons e rest ih =>
    rw [changeEntry] at h
    split at h
    · rcases mem_keepEntry _ _ _ h with rfl | hx
      · exact .inl (hf _)
      · exact .inr hx
    · split at h
      · next here =>
        rcases mem_keepEntry _ _ _ h with rfl | hx
        · exact .inl ((hf e).trans here.symm)
        · exact .inr (List.mem_cons_of_mem _ hx)
      · rcases List.mem_cons.mp h with rfl | hx
        · exact .inr List.mem_cons_self
        · exact (ih hx).imp_right (List.mem_cons_of_mem _)

theorem directoryLawful_keepEntry (e : DirEntry) (ds : List DirEntry) (h : directoryLawful ds = true)
    (hlt : ∀ x ∈ ds, e.page < x.page) : directoryLawful (keepEntry e ds) = true := by
  unfold keepEntry
  split
  · exact h
  · next hkeep =>
    rw [directoryLawful_iff] at h ⊢
    refine ⟨List.pairwise_cons.mpr ⟨hlt, h.1⟩, List.forall_mem_cons.mpr ⟨?_, h.2⟩⟩
    cases hs : e.slots.isEmpty <;> simp_all [Nat.pos_iff_ne_zero]

/-- A change of one entry keeps the directory lawful. -/
theorem directoryLawful_changeEntry (page : Nat) (f : DirEntry → DirEntry) (ds : List DirEntry)
    (h : directoryLawful ds = true) (hf : ∀ e, (f e).page = e.page) :
    directoryLawful (changeEntry page f ds) = true := by
  induction ds with
  | nil => exact directoryLawful_keepEntry _ [] rfl (by simp)
  | cons e rest ih =>
    obtain ⟨hsorted, hall⟩ := (directoryLawful_iff _).mp h
    obtain ⟨hlt, hrest⟩ := List.pairwise_cons.mp hsorted
    have restLawful : directoryLawful rest = true :=
      (directoryLawful_iff _).mpr ⟨hrest, fun x hx => hall x (List.mem_cons_of_mem _ hx)⟩
    rw [changeEntry]
    split
    · next below =>
      refine directoryLawful_keepEntry _ _ h fun x hx => ?_
      rw [hf]
      rcases List.mem_cons.mp hx with rfl | hx
      · exact below
      · exact Nat.lt_trans below (hlt x hx)
    · split
      · exact directoryLawful_keepEntry _ _ restLawful fun x hx => by rw [hf]; exact hlt x hx
      · next below elsewhere =>
        obtain ⟨hsorted', hall'⟩ := (directoryLawful_iff _).mp (ih restLawful)
        refine (directoryLawful_iff _).mpr ⟨List.pairwise_cons.mpr ⟨fun x hx => ?_, hsorted'⟩,
          List.forall_mem_cons.mpr ⟨hall e List.mem_cons_self, hall'⟩⟩
        rcases mem_changeEntry page f rest hf x hx with rfl | hx
        · omega
        · exact hlt x hx

section
variable (s : State)

theorem slotList_changeDir (page : Nat) (f : DirEntry → DirEntry) (h : directoryLawful s.absorb.directory = true)
    (hf : ∀ e, (f e).page = e.page) :
    (s.changeDir page f).slotList page = (f (entryOf page s.absorb.directory)).slots := by
  rw [slotList_eq, State.changeDir_absorb, entryOf_changeEntry page f _ ((directoryLawful_iff _).mp h).1 hf]

theorem pinCount_changeDir (page : Nat) (f : DirEntry → DirEntry) (h : directoryLawful s.absorb.directory = true)
    (hf : ∀ e, (f e).page = e.page) :
    (s.changeDir page f).pinCount page = (f (entryOf page s.absorb.directory)).pins := by
  rw [pinCount_eq, State.changeDir_absorb, entryOf_changeEntry page f _ ((directoryLawful_iff _).mp h).1 hf]

theorem pinCount_changeDir_ne (page other : Nat) (f : DirEntry → DirEntry) (hf : ∀ e, (f e).page = e.page)
    (h : other ≠ page) : (s.changeDir page f).pinCount other = s.pinCount other := by
  rw [pinCount_eq, pinCount_eq, State.changeDir_absorb, entryOf_changeEntry_ne page other f _ hf h]

end

end Sys2Proof.Machine
end

/-! ## SCRUB_VISIT -/

section
/-!
SUPPORT. What becomes of a slot that a zero write opens full, how a visit of the walker ends, and the statement about
it.
-/

namespace Sys2Proof.Machine

section
variable (s : State)

theorem headFence?_epochUp (n : Nat) : (s.epochUp n).headFence? = s.headFence? := by
  simp only [State.headFence?, State.epochUp_tracker, changeEpoch, List.head?_map]
  cases s.tracker.epochs.head? with
  | none => rfl
  | some e =>
    simp only [Option.map_some, Option.some.injEq]
    split <;> rfl

theorem headFence?_placeSlot (i : SlotId) (x : Slot) : (s.placeSlot i x).headFence? = s.headFence? :=
  headFence?_epochUp _ x.epoch

theorem slot_placeSlot (i : SlotId) (x : Slot) : (s.placeSlot i x).slot i = x := slot_setSlot s i x

theorem slot_placeSlot_ne (i j : SlotId) (x : Slot) (h : i ≠ j) : (s.placeSlot i x).slot j = s.slot j :=
  slot_setSlot_ne s i j x h

/-- The older slots of a slot just opened are all those the page had (R5). -/
theorem olderSlots_placeSlot (i : SlotId) (x : Slot) (h : directoryLawful s.absorb.directory = true)
    (hi : i ∉ s.slotList x.page) : (s.placeSlot i x).olderSlots i = s.slotList x.page := by
  refine olderSlots_of_list _ i _ [] ?_ hi
  rw [slot_placeSlot, slotList_eq s]
  exact slotList_changeDir (State.setSlot { s with absorb := { s.absorb with opened := s.absorb.opened + 1 } } i x)
    x.page (fun e => { e with slots := e.slots ++ [i] }) h (fun _ => rfl)

theorem olderOnTheWay_placeSlot (i : SlotId) (x : Slot) (h : directoryLawful s.absorb.directory = true)
    (hi : i ∉ s.slotList x.page) :
    (s.placeSlot i x).olderOnTheWay i = true ↔ ∃ j ∈ s.slotList x.page, (s.slot j).state ≠ .stranded := by
  rw [olderOnTheWay_eq_true_iff, olderSlots_placeSlot s i x h hi]
  exact exists_congr fun j => and_congr_right fun hj => by
    rw [slot_placeSlot_ne s i j x (fun e => hi (e ▸ hj))]

/-- A slot that opens with a full written set, in the state that closure gives it (R12). -/
def State.openedFull (s : State) (i : SlotId) (page : Nat) (state : SlotState) : State :=
  s.placeSlot i { s.openedSlot page 0 zeroPage .scrub with state := state, closeTimer := .stopped }

theorem placeSlot_setSlot (i : SlotId) (page : Nat) (state : SlotState) :
    (s.placeSlot i (s.openedSlot page 0 zeroPage .scrub)).setSlot i
        { s.openedSlot page 0 zeroPage .scrub with state := state, closeTimer := .stopped }
      = s.openedFull i page state :=
  congrArg (fun t : State => (t.changeDir page (fun e => { e with slots := e.slots ++ [i] })).epochUp s.currentEpoch)
    (setSlot_setSlot { s with absorb := { s.absorb with opened := s.absorb.opened + 1 } } i _ _)

/-- A zero write that opens a slot, where the FREE count stays at LOW_WATER or above. -/
theorem openSlot_zeros (i : SlotId) (page : Nat) (t : State)
    (h : (s.placeSlot i (s.openedSlot page 0 zeroPage .scrub)).closeSlot i = t)
    (ht : t.engine.profile.lowWater ≤ t.freeCount) : s.openSlot i page 0 zeroPage .scrub = t := by
  have full : (s.openedSlot page 0 zeroPage .scrub).image.full = true := full_merge_zeroPage _
  rw [State.openSlot, if_pos full, h, lowWaterClosure_of_enough t ht]

theorem freeCount_openedFull (i : SlotId) (page : Nat) (state : SlotState) (h : (s.slot i).state = .free)
    (hs : state ≠ .free) : (s.openedFull i page state).freeCount = s.freeCount - 1 :=
  freeCount_setSlot s i _ h hs

/-! ### The visits (R125 to R128) -/

/-- A visit whose effect on the page leads to `t` ends with the walker's counts as given. -/
theorem scrubVisit_ends (w w' : Walker) (t : State) (hr : s.ready = true) (hc : s.control.state = .running)
    (hw : s.region.walker = some w) (h : s.visit w = t.endVisit w') (hq : t.quiet = true) :
    exec .scrubVisit s = .next (t.endVisit w').judgeAlert := by
  have quiet : (t.endVisit w').quiet = true := by
    unfold State.endVisit
    split <;> exact hq
  simp only [exec, execScrubVisit, hw, hc, beq_self_eq_true, h, act_settled s _ hr quiet]

/-- A visit that absorbs a zero write. -/
theorem visit_absorbs (w : Walker) (hu : s.unprotected w.next = true)
    (h : (s.mergeEligible? w.next).isSome = true ∨ s.walkerGranted = true) :
    s.visit w = (s.absorbWrite w.next 0 zeroPage .scrub).endVisit { w with zeroed := w.zeroed + 1 } := by
  rw [State.visit, (coveringRegion?_eq_none_iff s _).mpr hu, if_neg (by simp), if_pos (by simpa using h)]

end

end Sys2Proof.Machine

namespace Sys2Proof

open Machine

/-- Settles O56. -/
theorem scrubVisitsOnePage : Obligations.ScrubVisitsOnePage := by
  intro s w hr hc hw visited ends
  have hq := ready_quiet s hr
  have ended (t : State) (z k : Nat) : (t.endVisit { w with zeroed := z, skipped := k }).judgeAlert = visited t z k := by
    simp only [State.endVisit, visited]
    split <;> rfl
  have visits (t : State) (z k : Nat) (h : s.visit w = t.endVisit { w with zeroed := z, skipped := k })
      (ht : t.quiet = true) : exec .scrubVisit s = .next (visited t z k) := by
    rw [← ended]; exact scrubVisit_ends s w _ t hr hc hw h ht
  have closes (i : SlotId) (older : List SlotId) (as : SlotState → State)
      (held : (∃ j ∈ older, (s.slot j).state ≠ .stranded) →
        s.visit w = (as .held).endVisit { w with zeroed := w.zeroed + 1 })
      (waits : (∀ j ∈ older, (s.slot j).state = .stranded) →
        s.headFence? ≠ some (nextFence s.tracker.fenceCounter) →
        s.visit w = (as .queued).endVisit { w with zeroed := w.zeroed + 1 })
      (joins : ∀ (b : BankId), (∀ j ∈ older, (s.slot j).state = .stranded) →
        s.headFence? = some (nextFence s.tracker.fenceCounter) → s.bankOfPage w.next = b →
        (s.bank b).monitor ≠ .idle →
        s.visit w = ((as .queued).setBank b { s.bank b with
          programQueue := (s.bank b).programQueue ++ [i] }).endVisit { w with zeroed := w.zeroed + 1 })
      (frame : ∀ st, (as st).control = s.control ∧ (as st).writer = s.writer ∧ (as st).geometry = s.geometry
        ∧ (as st).sched = s.sched ∧ ((as st).slot i).state = st) : ends i older as := by
    refine ⟨fun hex => visits _ _ _ (held hex) ?_, fun hall he => visits _ _ _ (waits hall he) ?_,
      fun b g hall he hg hb hm => visits _ _ _ (joins b hall he (bankOfPage_of_geometry s g b _ hg hb.symm) hm) ?_⟩
    · obtain ⟨hc', hw', hg', hs', hst⟩ := frame .held
      exact quiet_of_slot s _ i _ hq hc' (congrArg Writer.state hw') hg' (fun b => by simp only [State.bank, hs'])
        rfl (by simp [hst]) (by simp [hst])
    · obtain ⟨hc', hw', hg', hs', hst⟩ := frame .queued
      exact quiet_of_slot s _ i _ hq hc' (congrArg Writer.state hw') hg' (fun b => by simp only [State.bank, hs'])
        rfl (by simp [hst]) (by simp [hst])
    · obtain ⟨hc', hw', hg', hs', hst⟩ := frame .queued
      have same : ∀ b, (as .queued).bank b = s.bank b := fun b => by simp only [State.bank, hs']
      exact quiet_of_slot s _ i _ hq hc' (congrArg Writer.state hw') hg'
        (fun k => (program_setBank _ b _ (by rw [same]) k).trans (by rw [same])) rfl (by simp [hst]) (by simp [hst])
  refine ⟨fun hu => ?_, fun i hu hsole hs => ?_, fun i older newer hu hsole hs hp hl hi => ?_,
    fun i hu hnone hwater hhead hfree hlow hdir hmem => ?_, fun hu hnone hwater => ?_⟩
  · have covered : (s.coveringRegion? w.next).isSome = true := by
      rw [Option.isSome_iff_ne_none, ne_eq, coveringRegion?_eq_none_iff, hu]; simp
    exact visits s w.zeroed (w.skipped + 1) (if_pos covered) hq
  · obtain ⟨hfree, hstranded⟩ := busy_of_eligible s i (eligible_of_sole s _ i hsole)
    refine visits _ (w.zeroed + 1) w.skipped ?_
      (quiet_of_slot s _ i _ hq rfl rfl rfl (fun _ => rfl) (slot_setSlot s i _) hfree hstranded)
    rw [visit_absorbs s w hu (.inl (by rw [mergeEligible?_of_sole s _ i hsole]; rfl)),
      absorbWrite_of_sole s _ _ _ _ i hsole, mergeInto_of_not_opened s i _ _ hs]
    rfl
  · intro zeroed
    have absorbs := visit_absorbs s w hu (.inl (by rw [mergeEligible?_of_sole s _ i hsole]; rfl))
    rw [absorbWrite_of_sole s _ _ _ _ i hsole] at absorbs
    have full : (s.mergedSlot i 0 zeroPage).image.full = true := full_merge_zeroPage _
    have olders : s.olderSlots i = older := olderSlots_of_list s i older newer (by rwa [hp]) hi
    have epoch := epoch_of_eligible s i (eligible_of_sole s _ i hsole)
    refine closes i older zeroed (fun hex => ?_) (fun hall he => ?_) (fun b hall he hb hm => ?_)
      (fun st => ⟨rfl, rfl, rfl, rfl, congrArg Slot.state (slot_setSlot s i _)⟩)
    · rw [absorbs, mergeInto_held s i 0 zeroPage hs full ((olderOnTheWay_eq_true_iff s i).mpr (by rwa [olders]))]
      rfl
    · rw [absorbs, mergeInto_waits s i 0 zeroPage hs full ((olderOnTheWay_eq_false_iff s i).mpr (by rwa [olders]))
        (by rwa [epoch])]
      rfl
    · rw [absorbs, mergeInto_joins s i 0 zeroPage b hs full
        ((olderOnTheWay_eq_false_iff s i).mpr (by rwa [olders])) (by rwa [epoch]) (by rwa [hp]) hm]
      rfl
  · intro granted
    have none := (mergeEligible?_eq_none_iff s _).mpr hnone
    have free := lowestFree?_of_first s i hfree hlow
    have grants : s.walkerGranted = true := by simp [State.walkerGranted, State.headClaimsSlot, hwater, hhead]
    have absorbs := visit_absorbs s w hu (.inr grants)
    simp only [State.absorbWrite, none, free] at absorbs
    let placed := s.placeSlot i (s.openedSlot w.next 0 zeroPage .scrub)
    have slot : placed.slot i = s.openedSlot w.next 0 zeroPage .scrub := slot_placeSlot s i _
    have full : (placed.slot i).image.full = true := by rw [slot]; exact full_merge_zeroPage _
    have fence : placed.headFence? = s.headFence? := headFence?_placeSlot s i _
    have epoch : (placed.slot i).epoch = s.currentEpoch := by rw [slot]; rfl
    have way := olderOnTheWay_placeSlot s i (s.openedSlot w.next 0 zeroPage .scrub) hdir hmem
    have clear (hall : ∀ j ∈ s.slotList w.next, (s.slot j).state = .stranded) : placed.olderOnTheWay i = false :=
      Bool.eq_false_iff.mpr fun h => (way.mp h).elim fun j hj => hj.2 (hall j hj.1)
    have room (st : SlotState) (h : st ≠ .free) :
        s.engine.profile.lowWater ≤ (s.openedFull i w.next st).freeCount := by
      rw [freeCount_openedFull s i _ st hfree h]; exact Nat.le_sub_one_of_lt hwater
    refine closes i (s.slotList w.next) granted (fun hex => ?_) (fun hall he => ?_) (fun b hall he hb hm => ?_)
      (fun st => ⟨rfl, rfl, rfl, rfl, congrArg Slot.state (slot_setSlot s i _)⟩)
    · have closed := closeSlot_held placed i (way.mpr hex)
      rw [slot, placeSlot_setSlot] at closed
      rw [absorbs, openSlot_zeros s i w.next _ closed (room .held (by simp))]
      rfl
    · have closed := closeSlot_waits placed i (clear hall) full (by rw [fence, epoch]; exact he)
      rw [slot, placeSlot_setSlot] at closed
      rw [absorbs, openSlot_zeros s i w.next _ closed (room .queued (by simp))]
      rfl
    · have closed := closeSlot_joins placed i b (clear hall) full (by rw [fence, epoch]; exact he)
        (by rw [slot]; exact hb) hm
      rw [slot, placeSlot_setSlot] at closed
      rw [absorbs, openSlot_zeros s i w.next _ closed (room .queued (by simp))]
      rfl
  · have none := (mergeEligible?_eq_none_iff s _).mpr hnone
    have waits : s.visit w = s := by
      simp [State.visit, (coveringRegion?_eq_none_iff s _).mpr hu, none, State.walkerGranted, Nat.not_lt.mpr hwater]
    simp only [exec, execScrubVisit, hw, hc, beq_self_eq_true, waits, act_settled s s hr hq]

end Sys2Proof
end

/-! ## Completions that are taken, and the dispatch of a data program -/

section
/-!
SUPPORT. When a completion is taken, what the end of a read leads to, and what the dispatch of a slot sends.
-/

namespace Sys2Proof.Machine

section
variable (s : State)

/-- A slot and a bank record are replaced in either order. -/
theorem setSlot_setBank (b : BankId) (x : Bank) (i : SlotId) (y : Slot) :
    (s.setBank b x).setSlot i y = (s.setSlot i y).setBank b x := rfl

/-! ### Taking (R175, R176) -/

theorem bankId?_val (b : BankId) : bankId? b.val = some b := by simp [bankId?]

theorem namesBank_of_known (b : BankId) (h : s.geometry = none ∨ b.val < s.bankCount) :
    s.namesBank b.val = true := by
  rcases h with h | h <;> simp [State.namesBank, h]

theorem takingBank?_of_awaited (b : BankId) (a : Awaited) (hn : s.namesBank b.val = true)
    (h : a ∈ (s.bank b).awaited) : s.takingBank? b.val a = some b := by
  simp [State.takingBank?, bankId?_val, hn, h]

/-- The completion that a bank alone awaits is taken: nothing is awaited any more. -/
theorem untilTaken_of_alone (b : BankId) (a : Awaited) (h : (s.bank b).awaited = [a]) :
    s.untilTaken b a = s.setBank b { s.bank b with awaited := [] } := by
  simp [State.untilTaken, h]

/-- A READ_DONE that is taken. -/
theorem readDone_taken (b : BankId) (q : Nat) (outcome : ReadOutcome) (t : State) (hr : s.ready = true)
    (hn : s.namesBank b.val = true) (ha : (s.bank b).awaited = [.readDone q])
    (h : (s.setBank b { s.bank b with awaited := [] }).takeRead? b outcome = t) (hq : t.quiet = true) :
    exec (.readDone b.val q outcome) s = .next t.judgeAlert := by
  have taken := takingBank?_of_awaited s b (.readDone q) hn (by simp [ha])
  have takes : s.taking b.val (.readDone q) = true := by rw [State.taking, taken]; rfl
  rw [exec, execReadDone, takes, State.takeReadDone, taken]
  simp only [untilTaken_of_alone s b _ ha, h, act_settled s t hr hq]

/-- A PROGRAM_DONE that is taken. -/
theorem programDone_taken (b : BankId) (q : Nat) (outcome : ProgramOutcome) (hr : s.ready = true)
    (hn : s.namesBank b.val = true) (ha : .programDone q ∈ (s.bank b).awaited) :
    exec (.programDone b.val q outcome) s = .next (s.takeProgramDone b.val q outcome).settle := by
  have takes : s.taking b.val (.programDone q) = true := by
    rw [State.taking, takingBank?_of_awaited s b _ hn ha]; rfl
  rw [exec, execProgramDone, takes, act_true s _ (ready_released s hr)]

/-- A RESET_DONE that is taken. -/
theorem resetDone_taken (b : BankId) (hr : s.ready = true)
    (hn : s.namesBank b.val = true) (ha : (s.bank b).awaited = [.resetDone]) :
    exec (.resetDone b.val) s = .next (if s.awaitsMark b then (s.markBank b .present).bankMarked
      else (s.setBank b { s.bank b with resetTimer := .stopped, awaited := [] }).leaveReset b).settle := by
  have taken := takingBank?_of_awaited s b .resetDone hn (by simp [ha])
  have takes : s.taking b.val .resetDone = true := by rw [State.taking, taken]; rfl
  rw [exec, execResetDone, takes, act_true s _ (ready_released s hr)]
  simp only [State.takeResetDone, taken]

/-! ### The end of a read (R23, R24, R62) -/

theorem afterRead_of_reading (b : BankId) (h : (s.bank b).monitor = .reading) :
    s.afterRead b = (s.setBank b { s.bank b with monitor := .idle }).arbitrate b := by
  rw [State.afterRead, if_pos h]

theorem fillComplete_of_filling (i : SlotId) (page : List Byte) (h : (s.slot i).state = .filling) :
    s.fillComplete i page
      = (s.setSlot i { s.slot i with image := (s.slot i).image.fill page }).enterQueued i := if_pos h

/-- A fill whose slot waits for its epoch (R23, R37). -/
theorem fillComplete_waits (i : SlotId) (page : List Byte) (h : (s.slot i).state = .filling)
    (he : s.headFence? ≠ some (s.slot i).epoch) : s.fillComplete i page
      = s.setSlot i { s.slot i with state := .queued, image := (s.slot i).image.fill page } := by
  rw [fillComplete_of_filling s i page h, enterQueued_of_waiting _ i (by rw [slot_setSlot]; exact he)]
  simp

/-- The raising of an incident while its queue has room (R160). -/
theorem raise_of_room (x : Incident) (h : s.engine.incidents.length < 16) : s.raise x = { s with
    engine := { s.engine with
      incidents := s.engine.incidents ++ [{ x with fence := s.tracker.fenceCounter }] } } := if_pos h

/-- A fill that failed: zeros, MEDIA_ERROR and FILL_UNREADABLE (R24), of a slot that waits for its epoch. -/
theorem fillFailed_waits (i : SlotId) (h : (s.slot i).state = .filling)
    (he : s.headFence? ≠ some (s.slot i).epoch) (hi : s.engine.incidents.length < 16) : s.fillFailed i
      = { s.setSlot i { s.slot i with state := .queued, image := (s.slot i).image.fill zeroPage } with
          engine := { s.engine with
            latched := s.engine.latched ||| 0x8#32,
            incidents := s.engine.incidents ++ [{ kind := .fillUnreadable, fence := s.tracker.fenceCounter,
                                                  page := some (s.slot i).page,
                                                  bank := some (s.bankOfPage (s.slot i).page).val,
                                                  slot := some i.val,
                                                  operation := some (s.slot i).origin.code }] } } := by
  rw [State.fillFailed, if_pos h, fillComplete_waits s i zeroPage h he]
  exact congrArg (State.latch · .mediaError) (raise_of_room (s.setSlot i _) _ hi)

/-! ### The dispatch of a data program (R52, R53) -/

theorem countProgram_of_none (h : s.control.drain = none) : s.countProgram = s := by
  have same : ({ s.control with drain := none } : BridgeControl) = s.control := by rw [← h]
  simp only [State.countProgram, h, Option.map_none, same]

/-- The state once a bank has sent PROGRAM_PAGE for a slot's image at a target (R53, R176, R177). -/
def State.programSent (s : State) (b : BankId) (i : SlotId) (target : Target) (index : Nat) : State :=
  { (s.setSlot i { s.slot i with state := .programming, target := some target }).setBank b { s.bank b with
      monitor := .programming, programQueue := (s.bank b).programQueue.filter (fun j => j != i),
      program := .data i .inFlight, programTimer := .running (s.now + 5000), sequence := (s.bank b).nextTag,
      programTag := (s.bank b).nextTag, awaited := [.programDone (s.bank b).nextTag] } with
    arrayOut := s.arrayOut ++ [.programPage b index (s.bank b).nextTag
      (.bytes (s.slot i).image.toBytes)] }

theorem dispatchSlot_eq (b : BankId) (i : SlotId) (target : Target) (index : Nat) (h : s.control.drain = none)
    (ht : (s.slot i).target.getD (s.currentTarget (s.slot i).page) = target)
    (hn : s.targetIndex (s.slot i).page target = index) :
    s.dispatchSlot b i = (s.programSent b i target index).suspendDecision b := by
  have counted := countProgram_of_none (s.programSent b i target index) h
  simp only [State.dispatchSlot, State.startProgram, State.sendProgram, slot_setBank, slot_setSlot,
    Option.getD_some, bank_setSlot, bank_setBank]
  rw [← counted, ← hn, ← ht]
  simp only [State.programSent, State.setSlot, State.setBank, Vector.set_set]
  rfl

/-- A slot may be dispatched in RUNNING and DEGRADED when it is its page's only one and the page is not pinned. -/
theorem dispatchable_of_only (i : SlotId) (hc : s.control.state = .running ∨ s.control.state = .degraded)
    (hl : s.slotList (s.slot i).page = [i]) (hp : s.pinCount (s.slot i).page = 0) : s.dispatchable i = true := by
  have none : s.olderSlots i = [] := olderSlots_of_list s i [] [] hl (by simp)
  rcases hc with hc | hc <;> simp [State.dispatchable, none, hp, State.programsAllowed, hc]

/-- An IDLE bank with one slot in its program queue and nothing before it dispatches the slot. -/
theorem arbitrate_of_slot (b : BankId) (i : SlotId) (hi : (s.bank b).monitor = .idle)
    (hp : (s.bank b).presence ≠ .absent) (hb : (s.bank b).batch = 0) (hm : s.metaFor? b = none)
    (hq : (s.bank b).programQueue = [i]) (hd : s.dispatchable i = true) : s.arbitrate b = s.dispatchSlot b i := by
  simp [State.arbitrate, hi, hp, hb, hm, hq, hd]

end

end Sys2Proof.Machine

namespace Sys2Proof

open Machine

/-- Settles O19. -/
theorem fillCompletesTheImage : Obligations.FillCompletesTheImage := by
  refine ⟨rfl, fun s b q index retried page i hr hgeo hmon hawait hread hfill hlen hwaits hmeta => ?_⟩
  intro tag
  have hq := ready_quiet s hr
  have named := namesBank_of_known s b hgeo
  simp only [Bank.noneWaits, Bool.and_eq_true, List.isEmpty_iff, beq_iff_eq] at hwaits
  obtain ⟨⟨hprog, hreads⟩, hbatch⟩ := hwaits
  let vb : Bank := { s.bank b with awaited := [], read := none, readTimer := .stopped }
  let v := s.setBank b vb
  have rests (t : State) (hm : t.sched.pendingMeta = none) : (t.setBank b vb).afterRead b
      = t.setBank b { s.bank b with monitor := .idle, read := none, readTimer := .stopped, awaited := [] } := by
    rw [afterRead_of_reading _ b (by rw [bank_setBank]; exact hmon), bank_setBank, setBank_setBank]
    exact arbitrate_of_nothing _ b (by simpa using hbatch) (metaFor?_of_none _ _ hm) (by simpa using hprog)
      (by simpa using hreads)
  have cleared : (s.setBank b { s.bank b with awaited := [] }).clearRead b = v := by
    simp [State.clearRead, v, vb]
  have bankRead : ((s.setBank b { s.bank b with awaited := [] }).bank b).read
      = some { index := index, owner := .fill i, retried := retried } := by rw [bank_setBank]; exact hread
  have completes : (s.setBank b { s.bank b with awaited := [] }).takeRead? b (.ok (.bytes page))
      = (v.fillComplete i page).afterRead b := by
    have whole : pageOf? (.ok (.bytes page)) = some (.bytes page) := by simp [pageOf?, PageData.whole, hlen]
    simp only [State.takeRead?, bankRead, whole, cleared]
    rfl
  have fails (hret : retried = true) : (s.setBank b { s.bank b with awaited := [] }).takeRead? b .readFail
      = (v.fillFailed i).afterRead b := by
    simp only [State.takeRead?, bankRead, pageOf?, hret, if_true, cleared]
    rfl
  refine ⟨fun he => ?_, fun g he hg hbank hc hdrain hpres hlist hpin htarget => ?_, fun hret he hinc => ?_⟩
  · have ends := completes.trans ((congrArg (State.afterRead · b) (fillComplete_waits v i page hfill he)).trans
      (rests (s.setSlot i _) hmeta))
    exact readDone_taken s b q _ _ hr named hawait ends (quiet_of_slot s _ i _ hq rfl rfl rfl
      (program_setBank _ b _ rfl) (slot_setSlot s i _) (by simp) (by simp))
  · have there : s.bankOfPage (s.slot i).page = b := bankOfPage_of_geometry s g b _ hg hbank.symm
    have queues : v.fillComplete i page = (s.setSlot i { s.slot i with
        state := .queued, image := (s.slot i).image.fill page }).setBank b { vb with programQueue := [i] } := by
      rw [fillComplete_of_filling v i page hfill, enterQueued_of_head _ i b (by rw [slot_setSlot]; exact he)
        (by rw [slot_setSlot]; exact there) (by rw [bank_setSlot, bank_setBank, hmon]; simp)]
      simp only [v, slot_setSlot, setSlot_setSlot, setSlot_setBank, slot_setBank, bank_setBank,
        setBank_setBank, vb, hprog, List.nil_append]
    let w := (s.setSlot i { s.slot i with state := .queued, image := (s.slot i).image.fill page }).setBank b
      { vb with monitor := .idle, programQueue := [i] }
    have slot : w.slot i = { s.slot i with state := .queued, image := (s.slot i).image.fill page } := slot_setSlot s i _
    have bank : w.bank b = { vb with monitor := .idle, programQueue := [i] } := bank_setBank ..
    have ready : w.dispatchable i = true := dispatchable_of_only w i hc (by rw [slot]; exact hlist)
      (by rw [slot]; exact hpin)
    let index := match mapSpare? s.remap.table (s.slot i).page with
      | some k => g.pages - g.spares - 128 / g.banks + k
      | none => (s.slot i).page / g.banks
    have dispatches : (v.fillComplete i page).afterRead b = w.programSent b i (s.currentTarget (s.slot i).page) index := by
      rw [queues, afterRead_of_reading _ b (by rw [bank_setBank]; exact hmon), bank_setBank, setBank_setBank,
        arbitrate_of_slot w b i (by rw [bank]) (by rw [bank]; exact hpres) (by rw [bank]; exact hbatch)
          (metaFor?_of_none _ _ hmeta) (by rw [bank]) ready,
        dispatchSlot_eq w b i (s.currentTarget (s.slot i).page) index hdrain (by rw [slot, htarget]; rfl)
          (by rw [slot]; exact targetIndex_currentTarget w g (s.slot i).page hg)]
      exact suspendDecision_of_not _ b (suspends_of_no_read _ b (by
        rw [State.programSent]; exact (congrArg Bank.readQueue (bank_setBank ..)).trans (by rw [bank]; exact hreads)))
    have alone : [i].filter (fun j => j != i) = (s.bank b).programQueue := by simp [hprog]
    refine readDone_taken s b q _ _ hr named hawait (completes.trans (dispatches.trans ?_)) ?_
    · simp only [State.programSent, slot, bank, alone, w, setSlot_setBank, setSlot_setSlot, setBank_setBank]
      rfl
    · exact quiet_of_carrying s _ i _ hq rfl rfl rfl (carries_setBank _ b _ fun _ => rfl) (slot_setSlot s i _)
        (by simp) (by simp)
  · have ends := (fails hret).trans ((congrArg (State.afterRead · b) (fillFailed_waits v i hfill he hinc)).trans
      (rests { s.setSlot i _ with engine := _ } hmeta))
    exact readDone_taken s b q _ _ hr named hawait ends (quiet_of_slot s _ i _ hq rfl rfl rfl
      (program_setBank _ b _ rfl) (slot_setSlot s i _) (by simp) (by simp))

end Sys2Proof
end

/-! ## PROGRAM_DONE with OK -/

section
/-!
SUPPORT. What becomes of the slots, the epoch and the bank when a data program has succeeded, and the statement about
it.
-/

namespace Sys2Proof.Machine

section
variable (s : State)

/-! ### Slots that become FREE (R26, R93) -/

theorem foldl_setSlot (x : Slot) (js : List SlotId) : js.foldl (fun t j => t.setSlot j x) s
    = { s with absorb := { s.absorb with
        slots := js.foldl (fun v j => v.set j.val x) s.absorb.slots } } := by
  induction js generalizing s with
  | nil => rfl
  | cons j js ih => rw [List.foldl_cons, ih]; rfl

theorem getElem_foldl_set (x : Slot) (js : List SlotId) (v : Vector Slot 32) (k : SlotId) :
    (js.foldl (fun v j => v.set j.val x) v)[k.val] = if k ∈ js then x else v[k.val] := by
  induction js generalizing v with
  | nil => simp
  | cons j js ih =>
    rw [List.foldl_cons, ih]
    by_cases hk : k ∈ js
    · simp [hk]
    · by_cases e : j = k
      · subst e; simp
      · have ne : j.val ≠ k.val := fun h => e (Fin.ext h)
        simp [hk, Ne.symm e, Vector.getElem_set_ne _ _ ne]

/-- The state once slots of a page have become FREE and have left its slot list. -/
def State.freedState (s : State) (page : Nat) (js : List SlotId) : State :=
  { s with absorb := s.absorb.freed page js }

theorem slot_freedState (page : Nat) (js : List SlotId) (k : SlotId) :
    (s.freedState page js).slot k = if k ∈ js then Slot.unused else s.slot k :=
  getElem_foldl_set Slot.unused js s.absorb.slots k

theorem slot_freedState_ne (page : Nat) (js : List SlotId) (k : SlotId) (h : k ∉ js) :
    (s.freedState page js).slot k = s.slot k := by
  rw [slot_freedState, if_neg h]

theorem slotList_freedState (page : Nat) (js : List SlotId) (h : directoryLawful s.absorb.directory = true) :
    (s.freedState page js).slotList page = (s.slotList page).filter (fun k => !js.contains k) := by
  rw [slotList_eq s]
  exact slotList_changeDir s page (fun e => { e with slots := e.slots.filter (fun k => !js.contains k) }) h
    (fun _ => rfl)

/-- A slot becomes FREE with its older slots; then the HELD slots of the page are judged again. Its bank, which is not
IDLE, chooses nothing. -/
theorem freeSlot_eq (i : SlotId) (older newer : List SlotId) (t : State)
    (hl : s.slotList (s.slot i).page = older ++ i :: newer) (hi : i ∉ older)
    (ht : (s.freedState (s.slot i).page (older ++ [i])).reexamine (s.slot i).page = t)
    (hb : (t.bank (s.bankOfPage (s.slot i).page)).monitor ≠ .idle) : s.freeSlot i = t := by
  have freed : s.freedWith i = older ++ [i] := by rw [State.freedWith, olderSlots_of_list s i older newer hl hi]
  simp only [State.freeSlot, freed, foldl_setSlot]
  rw [← arbitrate_of_busy t _ hb, ← ht]
  rfl

/-- The page's only slot, judged again with a full written set, of an epoch that is not the head. -/
theorem reexamineSlot_waits (h : SlotId) (hs : (s.slot h).state = .held) (ho : s.olderSlots h = [])
    (hf : (s.slot h).image.full = true) (he : s.headFence? ≠ some (s.slot h).epoch) :
    s.reexamineSlot h = s.setSlot h { s.slot h with state := .queued } := by
  rw [State.reexamineSlot, if_pos hs, State.closureDecision, if_neg (by simp [olderOnTheWay_of_only s h ho]),
    if_pos hf, enterQueued_of_waiting s h he]

/-- The page's only slot, judged again with bytes missing, at a bank whose program has just ended. -/
theorem reexamineSlot_reads (h : SlotId) (b : BankId) (n : Nat) (hs : (s.slot h).state = .held)
    (ho : s.olderSlots h = []) (hf : (s.slot h).image.full = false) (hl : (s.slot h).page ∉ s.remap.lost)
    (hb : s.bankOfPage (s.slot h).page = b)
    (hn : s.targetIndex (s.slot h).page (s.currentTarget (s.slot h).page) = n)
    (hm : (s.bank b).monitor = .programming) (hp : (s.bank b).program = .absent) : s.reexamineSlot h
      = (s.setSlot h { s.slot h with state := .filling }).setBank b { s.bank b with
          readQueue := (s.bank b).readQueue ++ [{ index := n, owner := .fill h, retried := false }] } := by
  rw [State.reexamineSlot, if_pos hs, State.closureDecision, if_neg (by simp [olderOnTheWay_of_only s h ho]),
    if_neg (by simp [hf]), closureBytes?_of_only s h ho hl]
  exact requestFill_of_busy s h b n hb hn (.inr ⟨hm, hp⟩)

/-! ### The epoch (R35, R39) -/

theorem epochDown_free (fence : Nat) : s.epochDown fence false
    = State.judgeRemoval { s with tracker := s.tracker.lessOne fence } := by
  simp only [State.epochDown, changeEpoch, EpochTracker.lessOne, Bool.or_false]

/-- The head stays if it is OPEN or counts a slot beside the one that is FREE. -/
theorem epochDown_stays (fence : Nat) (e : Epoch) (rest : List Epoch) (h : s.tracker.epochs = e :: rest)
    (ho : e.state = .opened ∨ (if fence = e.fence then 1 else 0) < e.outstanding) :
    s.epochDown fence false = { s with tracker := s.tracker.lessOne fence } := by
  rw [epochDown_free]
  refine judgeRemoval_of_outstanding _ _ _ (by simp only [EpochTracker.lessOne, h, List.map_cons]; rfl) ?_
  by_cases same : e.fence = fence
  · simp only [same, if_true] at ho ⊢
    exact ho.imp_right (by omega)
  · simp only [same, Ne.symm same, if_false] at ho ⊢
    exact ho.imp_right (by omega)

/-- The last slot of a CLOSED head: the head is removed and the next entry's slots are admitted. -/
theorem epochDown_removes (e n : Epoch) (rest : List Epoch) (h : s.tracker.epochs = e :: n :: rest)
    (hc : e.state = .closed) (ho : e.outstanding = 1) (hx : ∀ x ∈ n :: rest, x.fence ≠ e.fence)
    (hn : n.state = .opened ∨ n.outstanding ≠ 0) (hi : e.lossy = true → s.engine.incidents.length < 16) :
    s.epochDown e.fence false = State.admitHead { s with
      tracker := { s.tracker with epochs := n :: rest, lastPersisted := e.fence },
      link := { s.link with
        responses := s.link.responses ++ (if e.notify then [.persisted e.fence e.lossy] else []) },
      engine := if e.lossy then { s.engine with
          latched := s.engine.latched ||| 0x40#32,
          incidents := s.engine.incidents ++ [{ kind := .lossyEpoch, fence := s.tracker.fenceCounter,
                                                operation := some e.fence }] }
        else s.engine } := by
  have others : (n :: rest).map (fun x => if x.fence = e.fence then { x with outstanding := x.outstanding - 1 } else x)
      = n :: rest :=
    (List.map_congr_left fun x hmem => if_neg (hx x hmem)).trans (List.map_id _)
  have epochs : (s.tracker.lessOne e.fence).epochs = { e with outstanding := 0 } :: n :: rest := by
    rw [EpochTracker.lessOne, h, List.map_cons, others, if_pos rfl, ho]
  rw [epochDown_free, judgeRemoval_of_drained _ { e with outstanding := 0 } n rest epochs hc rfl hn]
  exact congrArg State.admitHead (removeHead_eq _ { e with outstanding := 0 } _ hi)

/-- The one QUEUED slot of the head joins its bank's program queue, stated of a bank that is not IDLE (R38). -/
theorem admitHead_of_one (e : Epoch) (rest : List Epoch) (j : SlotId) (c : BankId)
    (h : s.tracker.epochs = e :: rest)
    (hj : ∀ k, (s.slot k).state = .queued ∧ (s.slot k).epoch = e.fence ↔ k = j)
    (hb : s.bankOfPage (s.slot j).page = c) (hm : (s.bank c).monitor ≠ .idle) : s.admitHead
      = s.setBank c { s.bank c with programQueue := (s.bank c).programQueue ++ [j] } := by
  have one : allSlots.filter (fun i => (s.slot i).state == .queued && (s.slot i).epoch == e.fence) = [j] := by
    refine List.perm_singleton.mp ((List.perm_ext_iff_of_nodup (nodup_allSlots.filter _) (by simp)).mpr fun k => ?_)
    simp [mem_allSlots, hj]
  have queued : s.queuedOf e.fence = [j] := by
    unfold State.queuedOf
    rw [one]
    rfl
  simp only [State.admitHead, State.headFence?, h, List.head?_cons, Option.map_some, queued, List.foldl_cons,
    List.foldl_nil]
  exact joinProgram_of_busy s j c hb hm

/-! ### The bank after its program (R54) -/

/-- Outside a drain, with a writer that begins no append, a bank that awaits nothing more enters IDLE. -/
theorem endProgram_idle (b : BankId) (hd : s.control.drain = none)
    (hw : s.writer.list = [] ∨ s.writer.state ≠ .idle) (ha : (s.bank b).awaited = [])
    (hp : (s.bank b).program = .absent) : (s.judgeEnd.kick).endProgram b = s.enterIdle b := by
  have judged : s.judgeEnd = s := judgeEnd_of_none s (endingDrain?_of_none s hd)
  have kicked : s.kick = s := hw.elim (kick_of_empty s) fun h => by simp [State.kick, h]
  rw [judged, kicked, State.endProgram, if_pos (by simp [ha]), State.leaveProgram, hp]

/-- A bank with nothing waiting enters IDLE, with an empty batch, and stays there. -/
theorem enterIdle_of_empty (b : BankId) (x : Bank) (hx : s.bank b = x) (hq : x.programQueue = [])
    (hr : x.readQueue = []) (hm : ∀ p, s.sched.pendingMeta = some p → s.metaBank p.page ≠ b) : s.enterIdle b
      = s.setBank b { x with
          monitor := .idle, program := .absent, programTimer := .stopped, awaited := [], batch := 0 } := by
  let y : Bank := { x with
    monitor := .idle, program := .absent, programTimer := .stopped, awaited := [], batch := 0 }
  have bank : (s.setBank b y).bank b = y := bank_setBank ..
  have enters : s.enterIdle b = (s.setBank b y).arbitrate b := by rw [State.enterIdle, hx, hr]; rfl
  rw [enters]
  exact arbitrate_of_nothing (s.setBank b y) b (congrArg Bank.batch bank)
    (metaFor?_of_elsewhere (s.setBank b y) b hm) ((congrArg Bank.programQueue bank).trans hq)
    ((congrArg Bank.readQueue bank).trans hr)

theorem enterIdle_of_nothing (b : BankId) (x : Bank) (hx : s.bank b = x) (hq : x.programQueue = [])
    (hr : x.readQueue = []) (hb : x.batch = 0)
    (hm : ∀ p, s.sched.pendingMeta = some p → s.metaBank p.page ≠ b) : s.enterIdle b
      = s.setBank b { x with monitor := .idle, program := .absent, programTimer := .stopped, awaited := [] } := by
  rw [enterIdle_of_empty s b x hx hq hr hm, ← hb]

/-- READ_PAGE sent by a bank just replaced. -/
theorem readSent_setBank (b : BankId) (x : Bank) (job : ReadJob) (queue : List ReadJob) (batch : Nat)
    (monitor : Monitor) : (s.setBank b x).readSent b job queue batch monitor
      = { s.setBank b { x with
            monitor := monitor, read := some job, readQueue := queue, batch := batch,
            readTimer := .running (s.now + 100), sequence := (x.sequence + 1) % 16,
            readTag := (x.sequence + 1) % 16, awaited := [.readDone ((x.sequence + 1) % 16)] } with
          arrayOut := s.arrayOut ++ [.readPage b job.index ((x.sequence + 1) % 16)] } := by
  simp only [State.readSent, bank_setBank, setBank_setBank]
  rfl

/-- A bank with one read job waiting enters IDLE, fixes a batch of it and issues it (R50, R51). -/
theorem enterIdle_of_reads (b : BankId) (x : Bank) (job : ReadJob) (jobs : List ReadJob) (hx : s.bank b = x)
    (hr : x.readQueue = job :: jobs) (hp : x.presence ≠ .absent) : s.enterIdle b
      = (s.setBank b { x with program := .absent, programTimer := .stopped }).readSent b job jobs jobs.length
          .reading := by
  rw [State.enterIdle, hx, arbitrate_of_batch _ b job jobs (by simp) (by simpa using hp) (by simp [hr])
    (by simpa using hr)]
  simp [State.readSent, hr]

/-! ### Requests of a programmed slot (R88) -/

theorem recordOne_of_room (i : SlotId) (kind : RequestKind) (hs : (s.slot i).state = .recording)
    (hc : s.control.state ≠ .degraded) (hw : s.writer.state ≠ .stopped) (hh : s.remap.held = [])
    (hu : s.remap.unrecorded = []) (hl : s.writer.list.length < 8) : State.recordOne i s kind
      = { s with writer := { s.writer with list := s.writer.list ++ [Request.of kind] } } := by
  rw [State.recordOne, if_neg (by simp [hs]), if_neg hc, handOwn_of_room s kind hh hu hl,
    joinRequest_of_working s _ hw]

/-- The requests of a slot in RECORDING join the list in their order, where it has room for them. -/
theorem foldl_recordOne (i : SlotId) (kinds : List RequestKind) (hs : (s.slot i).state = .recording)
    (hc : s.control.state ≠ .degraded) (hw : s.writer.state ≠ .stopped) (hh : s.remap.held = [])
    (hu : s.remap.unrecorded = []) (hl : s.writer.list.length + kinds.length ≤ 8) :
    kinds.foldl (State.recordOne i) s
      = { s with writer := { s.writer with list := s.writer.list ++ kinds.map Request.of } } := by
  induction kinds generalizing s with
  | nil => simp
  | cons kind kinds ih =>
    rw [List.length_cons] at hl
    rw [List.foldl_cons, recordOne_of_room s i kind hs hc hw hh hu (by omega),
      ih { s with writer := { s.writer with list := s.writer.list ++ [Request.of kind] } } hs hc hw hh hu
        (by simp only [List.length_append, List.length_singleton]; omega)]
    simp

/-- A slot that makes requests goes to RECORDING. -/
theorem programmedOk_records (i : SlotId) (kinds : List RequestKind) (h : s.recordingRequests i = kinds)
    (hk : kinds ≠ []) : s.programmedOk i
      = kinds.foldl (State.recordOne i) (s.setSlot i { s.slot i with state := .recording }) := by
  rw [State.programmedOk, h]
  cases kinds with
  | nil => exact absurd rfl hk
  | cons kind kinds => rfl

theorem programmedOk_frees (i : SlotId) (h : s.recordingRequests i = []) : s.programmedOk i = s.freeReported i := by
  rw [State.programmedOk, h]

/-- A slot programmed at the page's own location, or at the spare of its MAP entry, asks for no MAP (R88). -/
theorem recordingRequests_of_standing (i : SlotId) (h : (s.slot i).target = some .own
      ∨ ∃ k, (s.slot i).target = some (.spare k) ∧ mapSpare? s.remap.table (s.slot i).page = some k) :
    s.recordingRequests i
      = if (s.slot i).page ∈ s.remap.lost then [RequestKind.unlost (some i) (s.slot i).page] else [] := by
  rcases h with h | ⟨k, h, hm⟩
  · simp [State.recordingRequests, h, Target.spare?, State.isLost]
  · simp [State.recordingRequests, h, Target.spare?, hm, State.isLost]

theorem recordingRequests_of_claimed (i : SlotId) (k : Nat) (h : (s.slot i).target = some (.spare k))
    (hm : mapSpare? s.remap.table (s.slot i).page ≠ some k) : s.recordingRequests i
      = .map i (s.slot i).page (s.bankOfPage (s.slot i).page).val k (mapSpare? s.remap.table (s.slot i).page)
        :: if (s.slot i).page ∈ s.remap.lost then [RequestKind.unlost (some i) (s.slot i).page] else [] := by
  simp [State.recordingRequests, h, Target.spare?, hm, State.isLost]

end

end Sys2Proof.Machine

namespace Sys2Proof

open Machine

/-- Settles O27. -/
theorem programmedSlotBecomesFree : Obligations.ProgrammedSlotBecomesFree := by
  intro s b q i hr hdrain hup hgeo hmon hprogram hawait hwaits hmeta hbank page left stands
  simp only [Bank.noneWaits, Bool.and_eq_true, List.isEmpty_iff, beq_iff_eq] at hwaits
  obtain ⟨⟨hprog, hreads⟩, hbatch⟩ := hwaits
  let pb : Bank := { s.bank b with awaited := [], programTimer := .stopped, program := .absent }
  let u := s.setBank b pb
  have ubank : u.bank b = pb := bank_setBank ..
  have takes : s.takeProgramDone b.val q .ok = ((u.programmedOk i).judgeEnd.kick).endProgram b := by
    have taken := takingBank?_of_awaited s b (.programDone q) (namesBank_of_known s b hgeo) (by simp [hawait])
    have stopped : ((s.untilTaken b (.programDone q)).stopProgramTimer b).setProgram b .absent = u := by
      rw [untilTaken_of_alone s b _ hawait, State.stopProgramTimer, if_pos (by simpa using hmon)]
      simp [State.setProgram, u, pb]
    simp only [State.takeProgramDone, taken, hprogram, State.dataOutcome, stopped]
  have done (P t : State) (hP : u.programmedOk i = P) (h : P.enterIdle b = t) (hd : P.control = s.control)
      (hw : P.writer.list = [] ∨ P.writer.state ≠ .idle) (ha : (P.bank b).awaited = [])
      (hp : (P.bank b).program = .absent) (ht : t.control = s.control) :
      exec (.programDone b.val q .ok) s = .next t.judgeAlert := by
    rw [programDone_taken s b q .ok hr (namesBank_of_known s b hgeo) (by simp [hawait]), takes, hP,
      endProgram_idle P b (by rw [hd, hdrain]) hw ha hp, h,
      settle_of_quiet t (quiet_of_calm t (by rw [ht, hdrain]) (by rw [ht, hup]))]
  have idles (F : State → State) (hP : u.programmedOk i = F u) (hF : ∀ t x, (F t).setBank b x = F (t.setBank b x))
      (hb : (F u).bank b = pb) (hm : ∀ p, (F u).sched.pendingMeta = some p → (F u).metaBank p.page ≠ b)
      (hw : (F u).writer.list = [] ∨ (F u).writer.state ≠ .idle) (hc : ∀ t, (F t).control = t.control) :
      exec (.programDone b.val q .ok) s = .next (F left).judgeAlert := by
    refine done (F u) (F left) hP ?_ (hc u) hw (by rw [hb]) (by rw [hb]) (hc left)
    rw [enterIdle_of_nothing (F u) b pb hb hprog hreads hbatch hm, hF, setBank_setBank]
  refine ⟨fun older newer e rest hlist hstands hlost hslots hi hall hdir he ho => ?_,
    fun e n rest hlist hstands hlost hslots hdir he hclosed hout hepoch hx hn hinc => ?_,
    fun hdeg hwriter hheld hunrec hlen => ?_⟩
  · intro freed counted
    have requests : u.recordingRequests i = [] := (recordingRequests_of_standing u i hstands).trans (if_neg hlost)
    let gone := u.freedState page (older ++ [i])
    have frees (t : State) (ht : gone.reexamine page = t) (hm : (t.bank b).monitor = .programming)
        (htr : t.tracker = s.tracker) : u.programmedOk i = { t with tracker := counted } := by
      have freed : u.freeSlot i = t := freeSlot_eq u i older newer t hslots hi ht
        (by rw [show u.bankOfPage (u.slot i).page = b from hbank, hm]; simp)
      rw [programmedOk_frees u i requests, State.freeReported, freed,
        show (u.slot i).epoch = (s.slot i).epoch from rfl, epochDown_stays t _ e rest (by rw [htr, he]) ho, htr]
    have list (js : List SlotId) (hn : newer = js) (hj : ∀ k ∈ js, k ∉ older ++ [i]) : gone.slotList page = js := by
      have none : (older ++ [i]).filter (fun k => !(older ++ [i]).contains k) = [] :=
        List.filter_eq_nil_iff.mpr fun k hk => by rw [List.contains_iff_mem.mpr hk]; simp
      have all : js.filter (fun k => !(older ++ [i]).contains k) = js :=
        List.filter_eq_self.mpr fun k hk => by simpa using hj k hk
      have split : u.slotList page = (older ++ [i]) ++ js := hslots.trans (by simp [hn])
      rw [slotList_freedState u _ _ hdir, split, List.filter_append, none, all, List.nil_append]
    have apart (h : SlotId) (hne : h ≠ i) (hs : (s.slot h).state = .held) : h ∉ older ++ [i] := by
      intro hmem
      rcases List.mem_append.mp hmem with hmem | hmem
      · rw [hall h hmem] at hs; exact absurd hs (by simp)
      · exact hne (by simpa using hmem)
    refine ⟨fun hn => ?_, fun h hn hne hs hp hf hfence => ?_, fun h g hn hne hs hp hf hg hpres => ?_⟩
    · have judged : gone.reexamine page = gone := by rw [State.reexamine, list [] hn (by simp)]; rfl
      exact idles (fun t => { t with absorb := freed, tracker := counted })
        (frees gone judged ((congrArg Bank.monitor ubank).trans hmon) rfl) (fun _ _ => rfl) ubank hmeta
        (.inl hlist) (fun _ => rfl)
    · have slot : gone.slot h = s.slot h := slot_freedState_ne u page _ h (apart h hne hs)
      have only : gone.olderSlots h = [] :=
        olderSlots_of_list gone h [] [] (by rw [slot, hp, list [h] hn (by simpa using apart h hne hs)]; rfl) (by simp)
      have judged : gone.reexamine page = gone.setSlot h { s.slot h with state := .queued } := by
        rw [State.reexamine, list [h] hn (by simpa using apart h hne hs), ← slot]
        exact reexamineSlot_waits gone h (by rw [slot]; exact hs) only (by rw [slot]; exact hf) (by
          rw [slot, State.headFence?, show gone.tracker.epochs = e :: rest from he]; simpa using hfence)
      exact idles (fun t => { t with
          absorb := { freed with slots := freed.slots.set h.val { s.slot h with state := .queued } },
          tracker := counted })
        (frees _ judged ((congrArg Bank.monitor ubank).trans hmon) rfl) (fun _ _ => rfl) ubank hmeta
        (.inl hlist) (fun _ => rfl)
    · have slot : gone.slot h = s.slot h := slot_freedState_ne u page _ h (apart h hne hs)
      have only : gone.olderSlots h = [] :=
        olderSlots_of_list gone h [] [] (by rw [slot, hp, list [h] hn (by simpa using apart h hne hs)]; rfl) (by simp)
      let job : ReadJob := { index := (match mapSpare? s.remap.table page with
          | some k => g.pages - g.spares - 128 / g.banks + k
          | none => page / g.banks), owner := .fill h, retried := false }
      let x : Bank := { pb with readQueue := [job] }
      have judged : gone.reexamine page = (gone.setSlot h { s.slot h with state := .filling }).setBank b x := by
        rw [State.reexamine, list [h] hn (by simpa using apart h hne hs), ← slot]
        refine (reexamineSlot_reads gone h b job.index (by rw [slot]; exact hs) only (by rw [slot]; exact hf)
          (by rw [slot, hp]; exact hlost) (by rw [slot, hp]; exact hbank)
          (by rw [slot, hp]; exact targetIndex_currentTarget gone g page hg) ((congrArg Bank.monitor ubank).trans hmon)
          (congrArg Bank.program ubank)).trans ?_
        rw [show gone.bank b = pb from ubank, show pb.readQueue = [] from hreads]
        rfl
      let F (t : State) : State := { t with
        absorb := { freed with slots := freed.slots.set h.val { s.slot h with state := .filling } },
        tracker := counted }
      have bank : ((F u).setBank b x).bank b = x := bank_setBank ..
      have ok : u.programmedOk i = (F u).setBank b x :=
        frees ((gone.setSlot h { s.slot h with state := .filling }).setBank b x) judged
          ((congrArg Bank.monitor bank).trans hmon) rfl
      have idle : ((F u).setBank b x).enterIdle b = (F left).readSent b job [] 0 .reading := by
        rw [enterIdle_of_reads _ b x job [] bank rfl hpres, readSent_setBank,
          show F left = (F s).setBank b _ from rfl, readSent_setBank]
        rw [setBank_setBank, show F u = (F s).setBank b pb from rfl, setBank_setBank]
        rfl
      exact done _ _ ok idle rfl (.inl hlist) (congrArg Bank.awaited bank) (congrArg Bank.program bank) rfl
  · intro removed
    have requests : u.recordingRequests i = [] := (recordingRequests_of_standing u i hstands).trans (if_neg hlost)
    let gone := u.freedState page [i]
    have none : gone.slotList page = [] := by
      rw [slotList_freedState u _ _ hdir, show u.slotList page = [i] from hslots]; simp
    have freed : u.freeSlot i = gone := freeSlot_eq u i [] [] gone hslots (by simp)
      (by rw [List.nil_append]; exact (congrArg (List.foldl State.reexamineSlot gone) none))
      (by rw [show gone.bank (u.bankOfPage (u.slot i).page) = pb from (congrArg u.bank hbank).trans ubank]
          simp [pb, hmon])
    let R (t : State) : State := { t with
      absorb := s.absorb.freed page [i],
      tracker := { s.tracker with epochs := n :: rest, lastPersisted := e.fence },
      link := { s.link with
        responses := s.link.responses ++ (if e.notify then [.persisted e.fence e.lossy] else []) },
      engine := if e.lossy then { s.engine with
          latched := s.engine.latched ||| 0x40#32,
          incidents := s.engine.incidents ++ [{ kind := .lossyEpoch, fence := s.tracker.fenceCounter,
                                                operation := some e.fence }] }
        else s.engine }
    have ok : u.programmedOk i = (R u).admitHead := by
      rw [programmedOk_frees u i requests, State.freeReported, freed, show (u.slot i).epoch = e.fence from hepoch]
      exact epochDown_removes gone e n rest he hclosed hout hx hn hinc
    have slots (k : SlotId) : (R u).slot k = if k = i then Slot.unused else s.slot k := by
      rw [show (R u).slot k = gone.slot k from rfl, slot_freedState]; simp; rfl
    refine ⟨fun hnone => ?_, fun j c hj hje hji hall hc hcb hcm => ?_⟩
    · have admits : (R u).admitHead = R u := admitHead_of_none (R u) n rest rfl fun k hk => by
        by_cases hki : k = i
        · rw [slots, if_pos hki] at hk; exact absurd hk (by simp [Slot.unused])
        · rw [slots, if_neg hki] at hk ⊢; exact hnone k hki hk
      exact idles R (ok.trans admits) (fun _ _ => rfl) ubank hmeta (.inl hlist) (fun _ => rfl)
    · have slot : (R u).slot j = s.slot j := by rw [slots, if_neg hji]
      have bank : (R u).bank c = s.bank c := bank_setBank_ne s b c pb (Ne.symm hcb)
      have one (k : SlotId) : ((R u).slot k).state = .queued ∧ ((R u).slot k).epoch = n.fence ↔ k = j := by
        constructor
        · rintro ⟨hk, hke⟩
          by_cases hki : k = i
          · rw [slots, if_pos hki] at hk; exact absurd hk (by simp [Slot.unused])
          · rw [slots, if_neg hki] at hk hke; exact (hall k hk hke).resolve_left hki
        · rintro rfl; rw [slot]; exact ⟨hj, hje⟩
      have admits : (R u).admitHead
          = (R u).setBank c { s.bank c with programQueue := (s.bank c).programQueue ++ [j] } := by
        rw [← bank]
        exact admitHead_of_one (R u) n rest j c rfl one (by rw [slot]; exact hc) (by rw [bank]; exact hcm)
      exact idles (fun t => (R t).setBank c { s.bank c with programQueue := (s.bank c).programQueue ++ [j] })
        (ok.trans admits) (fun t x => setBank_comm (R t) c b _ x hcb)
        ((bank_setBank_ne (R u) c b _ hcb).trans ubank) hmeta (.inl hlist) (fun _ => rfl)
  · intro recording unlost
    have working : s.writer.state ≠ .stopped := by rw [hwriter]; simp
    have records (kinds : List RequestKind) (h : u.recordingRequests i = kinds) (hk : kinds ≠ [])
        (hl : kinds.length ≤ 2) : exec (.programDone b.val q .ok) s = .next (recording kinds) := by
      have ok := (programmedOk_records u i kinds h hk).trans
        (foldl_recordOne (u.setSlot i { u.slot i with state := .recording }) i kinds (by rw [slot_setSlot]) hdeg
          working hheld hunrec
          (by have : s.writer.list.length + kinds.length ≤ 8 := by omega
              exact this))
      exact idles (fun t => { t.setSlot i { s.slot i with state := .recording } with
        writer := { s.writer with list := s.writer.list ++ kinds.map Request.of } }) ok (fun _ _ => rfl) ubank hmeta
        (.inr (by rw [hwriter]; simp)) (fun _ => rfl)
    refine ⟨fun hstands hlost => ?_, fun k htarget hmap => ?_⟩
    · exact records unlost (recordingRequests_of_standing u i hstands) (by simp [unlost, hlost])
        (by simp only [unlost]; split <;> simp)
    · refine records _ ?_ (by simp) (by simp only [unlost]; split <;> simp)
      rw [recordingRequests_of_claimed u i k htarget hmap, show u.bankOfPage (u.slot i).page = b from hbank]
      rfl

end Sys2Proof
end

/-! ## The end of a bank reset -/

section
/-!
SUPPORT. What the marks of stage 1 lead to, and what a bank does as it leaves RESETTING with a program or a failed read
in hand.
-/

namespace Sys2Proof.Machine

section
variable (s : State)

/-! ### Marks (R165) -/

theorem awaitsMark_of_stage (up : Startup) (b : BankId) (h : s.control.startup = some up)
    (hs : up.stage = .resetBanks) : s.awaitsMark b = ((s.bank b).presence == .unmarked) := by
  simp [State.awaitsMark, State.stage?, h, hs]

theorem awaitsMark_of_none (b : BankId) (h : s.control.startup = none) : s.awaitsMark b = false := by
  simp [State.awaitsMark, State.stage?, h]

/-- Stage 1 goes on while a bank is not marked. -/
theorem bankMarked_of_unmarked (up : Startup) (c : BankId) (h : s.control.startup = some up)
    (hs : up.stage = .resetBanks) (hc : (s.bank c).presence = .unmarked) : s.bankMarked = s := by
  have waits : allBanks.all (fun b => (s.bank b).presence != .unmarked) = false :=
    List.all_eq_false.mpr ⟨c, mem_allBanks c, by simp [hc]⟩
  simp [State.bankMarked, State.stage?, h, hs, waits]

/-- The last mark ends stage 1: IDENTIFY is sent. -/
theorem bankMarked_of_last (h : s.control.startup = some { stage := .resetBanks, stopAsked := false })
    (hc : ∀ c, (s.bank c).presence ≠ .unmarked) : s.bankMarked = { s with
      control := { s.control with
        startup := some { stage := .identify, stopAsked := false },
        identifyTimer := .running (s.now + 1000) },
      arrayOut := s.arrayOut ++ [.identify] } := by
  have all : allBanks.all (fun b => (s.bank b).presence != .unmarked) = true :=
    List.all_eq_true.mpr fun c _ => by simpa using hc c
  simp [State.bankMarked, State.stage?, h, all, State.endStage, State.beginIdentify, State.setStage, State.emit]

/-- The record of a bank once it is marked. -/
def Bank.marked (bank : Bank) (presence : Presence) : Bank :=
  { bank with monitor := .idle, resetTimer := .stopped, awaited := [], presence := presence }

/-- A mark that leaves another bank unmarked leaves nothing due. -/
theorem quiet_marked (b : BankId) (presence : Presence) (h : s.quiet = true) :
    (s.setBank b ((s.bank b).marked presence)).quiet = true :=
  quiet_of_busier s _ h rfl rfl rfl id (carries_setBank s b _ id)

/-- Nothing is due while IDENTIFY is awaited outside a drain. -/
theorem quiet_of_identify (stopAsked : Bool) (hd : s.control.drain = none)
    (hs : s.control.startup = some { stage := .identify, stopAsked := stopAsked }) : s.quiet = true := by
  simp [State.quiet, State.stage?, hd, hs]

/-! ### Leaving RESETTING (R64) -/

/-- The record of a bank as RESET_DONE is taken. -/
def Bank.released (bank : Bank) : Bank := { bank with resetTimer := .stopped, awaited := [] }

/-- Outside a drain and a start-up a RESET_DONE ends the bank's reset. -/
theorem resetDone_leaves (b : BankId) (t : State) (hr : s.ready = true) (hs : s.control.startup = none)
    (hd : s.control.drain = none) (hb : b.val < s.bankCount) (ha : (s.bank b).awaited = [.resetDone])
    (h : (s.setBank b (s.bank b).released).leaveReset b = t) (ht : t.control = s.control) :
    exec (.resetDone b.val) s = .next t.judgeAlert := by
  have taken := resetDone_taken s b hr (namesBank_of_known s b (.inr hb)) ha
  rw [if_neg (by simp [awaitsMark_of_none s b hs])] at taken
  rw [taken]
  refine congrArg Host.Outcome.next ?_
  rw [← settle_of_quiet t (quiet_of_calm t (by rw [ht]; exact hd) (by rw [ht]; exact hs)), ← h]
  rfl

/-- Outside a drain a bank leaves RESETTING by the outcome of its program, that of its read, and its next choice. -/
theorem leaveReset_eq (b : BankId) (t u : State) (ht : s.interruptedProgram b = t) (hd : t.control.drain = none)
    (hu : t.interruptedRead b = u) (hm : (u.bank b).monitor = .resetting) : s.leaveReset b = u.leaveProgram b := by
  have judged : t.judgeEnd = t := judgeEnd_of_none t (endingDrain?_of_none t hd)
  simp only [State.leaveReset, ht, judged, hu, hm, if_true]

theorem interruptedProgram_of_absent (b : BankId) (h : (s.bank b).program = .absent) :
    s.interruptedProgram b = s := by
  simp [State.interruptedProgram, h]

theorem interruptedRead_of_none (b : BankId) (h : (s.bank b).read = none) : s.interruptedRead b = s := by
  simp [State.interruptedRead, h]

theorem leaveProgram_of_absent (b : BankId) (h : (s.bank b).program = .absent) :
    s.leaveProgram b = s.enterIdle b := by
  simp [State.leaveProgram, h]

/-- A failed attempt is judged against RETRY_LIMIT (R55 to R57, R61). -/
theorem interruptedProgram_of_data (b : BankId) (i : SlotId) (phase : ProgramPhase)
    (hp : phase = .failed ∨ phase = .interrupted) (h : (s.bank b).program = .data i phase) :
    s.interruptedProgram b = s.judgeAttempt b i := by
  rcases hp with rfl | rfl <;> simp [State.interruptedProgram, h]

/-- Within RETRY_LIMIT a retry is due, and the slot stands at the front of the program queue. -/
theorem judgeAttempt_retries (b : BankId) (i : SlotId)
    (h : (s.slot i).attempts ≤ s.engine.profile.retryLimit) : s.judgeAttempt b i
      = s.setBank b { s.bank b with
          program := .data i .retryDue, programQueue := i :: (s.bank b).programQueue } := by
  simp [State.judgeAttempt, h, State.setProgram, State.pushFront]

/-- The first entry without a claim among a bank's free spares, behind claimed ones (R85). -/
theorem unclaimedSpare?_of_first (b : BankId) (k : Nat) (claimed rest : List FreeSpare)
    (hc : ∀ x ∈ claimed, x.claim.isSome = true)
    (hf : s.remap.free[b.val] = claimed ++ { index := k, claim := none } :: rest) :
    s.unclaimedSpare? b = some k := by
  have skips : claimed.find? (fun e => e.claim.isNone) = none :=
    List.find?_eq_none.mpr fun x hx => by simp [Option.isSome_iff_ne_none.mp (hc x hx)]
  simp [State.unclaimedSpare?, hf, List.find?_append, skips]

/-- A claim is set on the one entry of its index. -/
theorem setClaim_of_sole (b : BankId) (k : Nat) (c claim : Option SlotId) (claimed rest : List FreeSpare)
    (hk : ∀ x ∈ claimed ++ rest, x.index ≠ k)
    (hf : s.remap.free[b.val] = claimed ++ { index := k, claim := c } :: rest) :
    s.setClaim b k claim
      = s.setFreeSpares b (claimed ++ { index := k, claim := claim } :: rest) := by
  have others (l : List FreeSpare) (h : ∀ x ∈ l, x.index ≠ k) :
      l.map (fun e => if e.index = k then { e with claim := claim } else e) = l :=
    (List.map_congr_left fun x hx => if_neg (h x hx)).trans (List.map_id _)
  rw [State.setClaim, hf, List.map_append, List.map_cons,
    others claimed fun x hx => hk x (List.mem_append_left _ hx),
    others rest fun x hx => hk x (List.mem_append_right _ hx), if_pos rfl]

/-- Beyond RETRY_LIMIT a slot at its page's own location is handed to the lowest unclaimed spare, and stands at the
front of the program queue (R57, R85). -/
theorem judgeAttempt_hands (b : BankId) (i : SlotId) (k : Nat) (claimed rest : List FreeSpare)
    (h : s.engine.profile.retryLimit < (s.slot i).attempts) (hs : s.control.state ≠ .degraded)
    (ht : (s.slot i).target = some .own) (hc : ∀ x ∈ claimed, x.claim.isSome = true)
    (hk : ∀ x ∈ claimed ++ rest, x.index ≠ k)
    (hf : s.remap.free[b.val] = claimed ++ { index := k, claim := none } :: rest) : s.judgeAttempt b i
      = ((s.setFreeSpares b (claimed ++ { index := k, claim := some i } :: rest)).setSlot i
          { s.slot i with target := some (.spare k), attempts := 0 }).setBank b { s.bank b with
            program := .absent, programQueue := i :: (s.bank b).programQueue } := by
  let u := s.setProgram b .absent
  have stands : u.retireFailed b i = u := by
    simp [State.retireFailed, u, State.setProgram, slot_setBank, ht, Target.spare?]
  have spare : u.unclaimedSpare? b = some k := unclaimedSpare?_of_first u b k claimed rest hc hf
  have claims := setClaim_of_sole u b k none (some i) claimed rest hk hf
  have state : u.control.state ≠ .degraded := hs
  rw [State.judgeAttempt, if_neg (by omega)]
  show u.handoff b i = _
  simp only [State.handoff, stands, if_neg state, spare, claims]
  have bank : u.bank b = { s.bank b with program := .absent } := bank_setBank ..
  show State.setBank _ b { u.bank b with programQueue := i :: (u.bank b).programQueue } = _
  rw [bank]
  simp only [u, State.setProgram, State.setFreeSpares, State.setSlot, State.setBank, Vector.set_set]
  rfl

/-- A due retry that may be dispatched is issued at once (R55). -/
theorem leaveProgram_retries (b : BankId) (i : SlotId) (h : (s.bank b).program = .data i .retryDue)
    (hd : s.dispatchable i = true) :
    s.leaveProgram b = (s.setBank b { s.bank b with programTimer := .stopped }).dispatchSlot b i := by
  simp [State.leaveProgram, h, hd]

/-- No SUSPEND is sent for a slot whose suspend count has reached the budget. -/
theorem suspends_of_spent (b : BankId) (i : SlotId) (h : (s.bank b).program = .data i .inFlight)
    (hs : s.engine.profile.suspendBudget ≤ (s.slot i).suspends) : s.suspends b = false := by
  simp [State.suspends, h, hs]

/-- SUSPEND is sent while the budget allows it (R58). -/
theorem suspendDecision_sends (b : BankId) (i : SlotId) (x : Bank) (hx : s.bank b = x)
    (hm : x.monitor = .programming) (hr : x.readQueue ≠ [])
    (hc : s.control.state = .running ∨ s.control.state = .degraded) (hp : x.program = .data i .inFlight)
    (hs : (s.slot i).suspends < s.engine.profile.suspendBudget) : s.suspendDecision b
      = { s.setBank b { x with
            monitor := .suspendPending, awaited := x.awaited ++ [.suspendAck x.programTag] } with
          arrayOut := s.arrayOut ++ [.suspend b x.programTag] } := by
  have allowed : (s.control.state == .running || s.control.state == .degraded) = true := by
    rcases hc with hc | hc <;> simp [hc]
  have sends : s.suspends b = true := by
    simp [State.suspends, hx, hm, hr, allowed, hp, hs]
  rw [State.suspendDecision, if_pos sends, hx]
  rfl

/-! ### Metadata programs (R65, R105) -/

/-- Within RETRY_LIMIT, with no drain in progress, the writer hands the same page again; its bank, which is not IDLE
yet, dispatches it later. -/
theorem metadataOutcome_retries (p : WriterProgram) (hp : s.writer.program = some p)
    (hs : s.control.state = .running) (hd : s.control.drain = none) (hw : s.writer.state ≠ .stopped)
    (hl : p.attempts + 1 ≤ s.engine.profile.retryLimit)
    (ha : (s.bank (s.metaBank p.page)).presence ≠ .absent) (hi : (s.bank (s.metaBank p.page)).monitor ≠ .idle) :
    s.metadataOutcome false = { s with
      writer := { s.writer with program := some { p with attempts := p.attempts + 1 } },
      sched := { s.sched with pendingMeta := some { page := p.page, image := p.image } } } := by
  have unlisted : (s.setPendingMeta none).shutdownListed = false :=
    shutdownListed_of_not_draining _ (by show s.control.state ≠ _; rw [hs]; simp)
  have unspent : (s.setPendingMeta none).budgetSpent = false := by simp [State.budgetSpent, State.setPendingMeta, hd]
  let handed : State := { s.setPendingMeta none with
    writer := { s.writer with program := some { p with attempts := p.attempts + 1 } } }
  let pending := handed.setPendingMeta (some { page := p.page, image := p.image })
  have hands : handed.handProgram = pending := by
    have given : handed.writer.program = some { p with attempts := p.attempts + 1 } := rfl
    have there : (handed.bank (handed.metaBank p.page)).presence ≠ .absent := ha
    rw [State.handProgram, given]
    simp only [if_neg there]
    exact arbitrate_of_busy pending _ hi
  have fails : (s.setPendingMeta none).metaFailed p = pending := by
    have within : ¬ (s.setPendingMeta none).engine.profile.retryLimit < p.attempts + 1 := by
      show ¬ s.engine.profile.retryLimit < _; omega
    simp only [State.metaFailed, unlisted, unspent, if_neg within, Bool.and_false, Bool.false_eq_true, if_false]
    exact hands
  have outcome : s.writerOutcome false = pending := by
    simp only [State.writerOutcome, hp, Bool.false_eq_true, if_false, fails]
  have working : ¬ (pending.control.state = .running ∧ pending.writer.state = .stopped) := fun h => hw h.2
  rw [State.metadataOutcome, outcome, State.degradeIfStopped, if_neg working]
  rfl

/-- A bank with no read waiting that enters IDLE dispatches the pending metadata program, if it is for it (R50, R65). -/
theorem enterIdle_of_meta (b : BankId) (x : Bank) (p : PendingMeta) (hx : s.bank b = x)
    (hr : x.readQueue = []) (hp : x.presence ≠ .absent) (hm : s.sched.pendingMeta = some p)
    (hb : s.metaBank p.page = b) (ha : s.metaAllowed = true) (hd : s.control.drain = none) : s.enterIdle b
      = { s.setBank b { x with
            monitor := .programming, program := .metadata, programTimer := .running (s.now + 5000),
            sequence := (x.sequence + 1) % 16, programTag := (x.sequence + 1) % 16, batch := 0,
            awaited := [.programDone ((x.sequence + 1) % 16)] } with
          arrayOut := s.arrayOut ++ [.programPage b (s.metaIndex p.page) ((x.sequence + 1) % 16) (.log p.image)] } := by
  let idle : Bank := { x with
    monitor := .idle, program := .absent, programTimer := .stopped, awaited := [], batch := 0 }
  have forIt : (s.setBank b idle).metaFor? b = some p := by
    have place : (s.setBank b idle).metaBank p.page = b := hb
    have allowed : (s.setBank b idle).metaAllowed = true := ha
    have pending : (s.setBank b idle).sched.pendingMeta = some p := hm
    rw [State.metaFor?, pending]
    simp [place, allowed]
  have bank : (s.setBank b idle).bank b = idle := bank_setBank ..
  have chooses : (s.setBank b idle).arbitrate b = (s.setBank b idle).dispatchMeta b p := by
    rw [State.arbitrate, bank, forIt]
    simp [idle, hp]
  have enters : s.enterIdle b = (s.setBank b idle).arbitrate b := by rw [State.enterIdle, hx, hr]; rfl
  rw [enters, chooses, State.dispatchMeta, State.sendProgram, bank]
  refine (countProgram_of_none _ ?_).trans ?_
  · exact hd
  · rw [setBank_setBank]; rfl

end

end Sys2Proof.Machine
end

/-! ## What the operations of the blocks leave, empty and only add to -/

section
/-!
SUPPORT. Two relations between a state and a later one, for the operations that the blocks run while the writer stops,
while the bridge leaves RUNNING and as it enters FAULTED. `Follows` says what stays, what stays empty, what only grows and
what only shrinks; `Keeps` adds what a bank in FAULTED, the reads and a held directive are left as. Each operation is
proved once to be in the relation.
-/

namespace Sys2Proof.Machine

/-! ### The relations -/

/-- The writer has nothing in its list, in hand or under compaction. -/
def Writer.bare (w : Writer) : Prop := w.list = [] ∧ w.program = none ∧ w.compaction = none

def State.allFaulted (s : State) : Prop := ∀ b, (s.bank b).monitor = .faulted

/-- The directive that holds the engine has been answered FAILED. -/
def State.holderFailed (s : State) (tag : Nat) : Prop :=
  s.engine.current = .absent ∧ .directiveDone tag .failed [] ∈ s.link.responses ∧ tag ∉ s.link.tags

/-- A write at the memory lane head has been answered HALTED. -/
def State.headHalted (s : State) (w : WriteRequest) : Prop :=
  .writeDone w.tag .halted 0 ∈ s.link.responses ∧ w.tag ∉ s.link.tags

/-- What stays, what stays empty, and what only grows or only shrinks. -/
structure State.Follows (s t : State) : Prop where
  bounded : s.bounded = true → t.bounded = true
  profile : t.engine.profile = s.engine.profile
  remapTable : t.remap.table = s.remap.table
  regionTable : t.region.table = s.region.table
  stopped : s.writer.state = .stopped → t.writer.state = .stopped
  bare : s.writer.bare → t.writer.bare
  staging : t.region.staging = s.region.staging
    ∨ t.region.staging = .empty ∧ t.engine.latched.getLsbD 8 = true
  walker : t.region.walker = s.region.walker
    ∨ t.region.walker = none ∧ ∀ w, s.region.walker = some w → .rangeDone true w.zeroed w.skipped ∈ t.link.responses
  head : t.link.head = s.link.head
    ∨ t.link.head = none ∧ ∀ w, s.link.head = some w → t.headHalted w
  latched : ∀ k, s.engine.latched.getLsbD k = true → t.engine.latched.getLsbD k = true
  incidents : s.engine.incidents <+: t.engine.incidents
  responses : s.link.responses <+: t.link.responses
  tags : ∀ x, x ∈ t.link.tags → x ∈ s.link.tags
  opened : ∀ i, (t.slot i).state = .opened → (s.slot i).state = .opened

/-- The same, with the banks once they are all FAULTED, the reads, and a directive that holds the engine. -/
structure State.Keeps (s t : State) : Prop extends State.Follows s t where
  faulted : s.allFaulted → t.allFaulted ∧ t.arrayOut = s.arrayOut
  pendingMeta : t.sched.pendingMeta = s.sched.pendingMeta
  reads : t.reads = s.reads
  pins : directoryLawful s.absorb.directory = true →
    directoryLawful t.absorb.directory = true ∧ ∀ page, t.pinCount page = s.pinCount page
  held : t.region.held = s.region.held
  free : s.engine.current = .absent → t.engine.current = .absent
  holder : ∀ tag, s.engine.current = .rangeApply tag →
    t.engine.current = .rangeApply tag ∨ t.holderFailed tag

theorem State.bounded_iff (s : State) : s.bounded = true ↔ directoryLawful s.absorb.directory = true
    ∧ s.link.memLane.length ≤ 16 ∧ s.link.dirLane.length ≤ 4 ∧ s.engine.incidents.length ≤ 16
    ∧ s.engine.latched &&& ~~~0x7FF#32 = 0#32 := by
  simp [State.bounded, and_assoc]

/-- The bounds are told by five parts of the state. -/
theorem State.bounded_of_same (s t : State) (h : s.bounded = true)
    (hd : t.absorb.directory = s.absorb.directory) (hm : t.link.memLane = s.link.memLane)
    (hn : t.link.dirLane = s.link.dirLane) (hi : t.engine.incidents = s.engine.incidents)
    (hl : t.engine.latched = s.engine.latched) : t.bounded = true := by
  rw [State.bounded, hd, hm, hn, hi, hl]; exact h

namespace State.Follows

theorem refl (s : State) : s.Follows s :=
  { bounded := id, profile := rfl, remapTable := rfl, regionTable := rfl, stopped := id, bare := id,
    staging := .inl rfl, walker := .inl rfl, head := .inl rfl, latched := fun _ => id, incidents := List.prefix_rfl, responses := List.prefix_rfl,
    tags := fun _ => id, opened := fun _ => id }

theorem trans {s t u : State} (h : s.Follows t) (k : t.Follows u) : s.Follows u :=
  { bounded := k.bounded ∘ h.bounded
    profile := k.profile.trans h.profile
    remapTable := k.remapTable.trans h.remapTable
    regionTable := k.regionTable.trans h.regionTable
    stopped := k.stopped ∘ h.stopped
    bare := k.bare ∘ h.bare
    staging := k.staging.elim
      (fun same => h.staging.imp same.trans fun ⟨empty, latched⟩ => ⟨same.trans empty, k.latched 8 latched⟩) .inr
    walker := h.walker.elim
      (fun same => by rw [← same]; exact k.walker)
      (fun ⟨gone, noticed⟩ => .inr ⟨k.walker.elim (fun same => same.trans gone) And.left,
        fun w hw => k.responses.subset (noticed w hw)⟩)
    head := h.head.elim
      (fun same => by rw [← same]; exact k.head)
      (fun ⟨gone, halted⟩ => .inr ⟨k.head.elim (fun same => same.trans gone) And.left,
        fun w hw => ⟨k.responses.subset (halted w hw).1, fun left => (halted w hw).2 (k.tags _ left)⟩⟩)
    latched := fun n => k.latched n ∘ h.latched n
    incidents := h.incidents.trans k.incidents
    responses := h.responses.trans k.responses
    tags := fun x => h.tags x ∘ k.tags x
    opened := fun i => h.opened i ∘ k.opened i }

end State.Follows

namespace State.Keeps

theorem refl (s : State) : s.Keeps s :=
  { State.Follows.refl s with
    faulted := fun h => ⟨h, rfl⟩, pendingMeta := rfl, reads := rfl, pins := fun h => ⟨h, fun _ => rfl⟩, held := rfl,
    free := id, holder := fun _ => .inl }

theorem trans {s t u : State} (h : s.Keeps t) (k : t.Keeps u) : s.Keeps u where
  toFollows := h.toFollows.trans k.toFollows
  faulted := fun all =>
    have ⟨faulted, sent⟩ := h.faulted all
    have ⟨faulted', sent'⟩ := k.faulted faulted
    ⟨faulted', sent'.trans sent⟩
  pendingMeta := k.pendingMeta.trans h.pendingMeta
  reads := k.reads.trans h.reads
  pins := fun lawful =>
    have ⟨lawful', same⟩ := h.pins lawful
    have ⟨lawful'', same'⟩ := k.pins lawful'
    ⟨lawful'', fun page => (same' page).trans (same page)⟩
  held := k.held.trans h.held
  free := k.free ∘ h.free
  holder := fun tag holds => (h.holder tag holds).elim (k.holder tag) fun ⟨gone, answered, left⟩ =>
    .inr ⟨k.free gone, k.responses.subset answered, fun h => left (k.tags _ h)⟩


theorem foldl {α : Type} (f : State → α → State) (h : ∀ (t : State) (a : α), t.Keeps (f t a)) (l : List α) (s : State) :
    s.Keeps (l.foldl f s) := by
  induction l generalizing s with
  | nil => exact refl s
  | cons a l ih => exact (h s a).trans (ih (f s a))

/-- A change of what neither relation speaks of. -/
theorem of_same {s : State} (t : State) (hd : t.absorb = s.absorb) (hs : t.sched = s.sched) (hr : t.reads = s.reads)
    (hm : t.remap.table = s.remap.table) (hg : t.region = s.region) (hw : t.writer = s.writer)
    (hl : t.link = s.link) (he : t.engine = s.engine) (ha : t.arrayOut = s.arrayOut) : s.Keeps t where
  bounded := fun h => State.bounded_of_same s t h (by rw [hd]) (by rw [hl]) (by rw [hl]) (by rw [he]) (by rw [he])
  profile := by rw [he]
  remapTable := hm
  regionTable := by rw [hg]
  stopped := by rw [hw]; exact id
  bare := by rw [hw]; exact id
  staging := .inl (by rw [hg])
  walker := .inl (by rw [hg])
  head := .inl (by rw [hl])
  latched := by rw [he]; exact fun _ => id
  incidents := by rw [he]
  responses := by rw [hl]
  tags := by rw [hl]; exact fun _ => id
  opened := by simp only [State.slot, hd]; exact fun _ => id
  faulted := by simp only [State.allFaulted, State.bank, hs]; exact fun h => ⟨h, ha⟩
  pendingMeta := by rw [hs]
  reads := hr
  pins := by simp only [State.pinCount, State.dirEntry?, hd]; exact fun h => ⟨h, fun _ => trivial⟩
  held := by rw [hg]
  free := by rw [he]; exact id
  holder := by rw [he]; exact fun _ => .inl

end State.Keeps

/-! ### One rule for each state operation -/

section
variable (s : State)

theorem keeps_setSlot (i : SlotId) (x : Slot) (h : x.state = .opened → (s.slot i).state = .opened) :
    s.Keeps (s.setSlot i x) :=
  { State.Keeps.refl s with
    opened := fun j hj => by
      by_cases e : i = j
      · subst e; rw [slot_setSlot] at hj; exact h hj
      · rwa [slot_setSlot_ne s i j x e] at hj }

theorem follows_setBank (b : BankId) (x : Bank) : s.Follows (s.setBank b x) := { State.Follows.refl s with }

/-- While every bank is FAULTED, a bank record that stays FAULTED leaves them so. -/
theorem keeps_setBank (b : BankId) (x : Bank) (h : (s.bank b).monitor = .faulted → x.monitor = .faulted) :
    s.Keeps (s.setBank b x) :=
  { State.Keeps.refl s with
    faulted := fun all => ⟨fun c => by
      by_cases e : b = c
      · subst e; rw [bank_setBank]; exact h (all b)
      · rw [bank_setBank_ne s b c x e]; exact all c, rfl⟩ }

theorem follows_emit (c : ArrayCommand) : s.Follows (s.emit c) := { State.Follows.refl s with }

theorem keeps_control (c : BridgeControl) : s.Keeps { s with control := c } :=
  State.Keeps.of_same _ rfl rfl rfl rfl rfl rfl rfl rfl rfl

theorem keeps_tracker (x : EpochTracker) : s.Keeps { s with tracker := x } :=
  State.Keeps.of_same _ rfl rfl rfl rfl rfl rfl rfl rfl rfl

theorem keeps_remap (x : RemapUnit) (h : x.table = s.remap.table) : s.Keeps { s with remap := x } :=
  State.Keeps.of_same _ rfl rfl rfl h rfl rfl rfl rfl rfl

/-- A bank that is not FAULTED sends a command. -/
theorem keeps_of_sent (t : State) (b : BankId) (h : s.Follows t) (hb : (s.bank b).monitor ≠ .faulted)
    (hm : t.sched.pendingMeta = s.sched.pendingMeta) (hr : t.reads = s.reads)
    (hd : t.absorb.directory = s.absorb.directory) (hg : t.region.held = s.region.held) (he : t.engine = s.engine) :
    s.Keeps t where
  toFollows := h
  faulted := fun all => absurd (all b) hb
  pendingMeta := hm
  reads := hr
  pins := by simp only [State.pinCount, State.dirEntry?, hd]; exact fun h => ⟨h, fun _ => trivial⟩
  held := hg
  free := by rw [he]; exact id
  holder := by rw [he]; exact fun _ => .inl

/-- A packet that joins the response queue. -/
theorem keeps_push (p : Packet) : s.Keeps (s.push p) :=
  { State.Keeps.refl s with
    responses := List.prefix_append .., walker := .inl rfl, head := .inl rfl, holder := fun _ => .inl }

/-- A response, with its tag no longer outstanding. -/
theorem keeps_respond (tag : Nat) (p : Packet) : s.Keeps (s.respond tag p) :=
  { State.Keeps.refl s with
    responses := List.prefix_append ..
    tags := fun _ h => List.mem_of_mem_filter h
    walker := .inl rfl
    head := .inl rfl
    holder := fun _ => .inl }

theorem getLsbD_or_left (x y : BitVec 32) (k : Nat) (h : x.getLsbD k = true) : (x ||| y).getLsbD k = true := by
  simp [h]

/-- The mask of a condition that can be latched (R144). -/
theorem mask_le (c : Condition) (h : c.bit ≤ 10) : c.mask &&& ~~~0x7FF#32 = 0#32 := by
  revert h; cases c <;> decide

theorem keeps_latch (c : Condition) (h : c.bit ≤ 10) : s.Keeps (s.latch c) :=
  { State.Keeps.refl s with
    latched := fun k hk => getLsbD_or_left _ _ k hk
    staging := .inl rfl
    bounded := fun hb => by
      obtain ⟨hdir, hmem, hlane, hinc, hlat⟩ := (State.bounded_iff s).mp hb
      refine (State.bounded_iff _).mpr ⟨hdir, hmem, hlane, hinc, ?_⟩
      show (s.engine.latched ||| c.mask) &&& ~~~0x7FF#32 = 0#32
      rw [BitVec.and_comm, BitVec.and_or_distrib_left, BitVec.and_comm _ s.engine.latched,
        BitVec.and_comm _ c.mask, hlat, mask_le c h]
      rfl }

theorem keeps_raise (x : Incident) : s.Keeps (s.raise x) := by
  rw [State.raise]
  split
  · next room =>
    exact { State.Keeps.refl s with
      incidents := List.prefix_append ..
      bounded := fun hb => by
        obtain ⟨hdir, hmem, hlane, hinc, hlat⟩ := (State.bounded_iff s).mp hb
        exact (State.bounded_iff _).mpr ⟨hdir, hmem, hlane, by simp; omega, hlat⟩ }
  · exact keeps_latch s .incidentOverflow (by decide)

/-- A directory entry that changes keeps the bounds. -/
theorem follows_changeDir (page : Nat) (f : DirEntry → DirEntry) (hf : ∀ e, (f e).page = e.page) :
    s.Follows (s.changeDir page f) :=
  { State.Follows.refl s with
    bounded := fun hb => by
      obtain ⟨hdir, hmem, hlane, hinc, hlat⟩ := (State.bounded_iff s).mp hb
      exact (State.bounded_iff _).mpr ⟨directoryLawful_changeEntry page f _ hdir hf, hmem, hlane, hinc, hlat⟩ }

/-- A directory entry whose slot list alone changes. -/
theorem keeps_changeDir (page : Nat) (f : DirEntry → DirEntry) (hf : ∀ e, (f e).page = e.page)
    (hp : ∀ e, (f e).pins = e.pins) : s.Keeps (s.changeDir page f) :=
  { State.Keeps.refl s with
    bounded := (follows_changeDir s page f hf).bounded
    pins := fun lawful => ⟨directoryLawful_changeEntry page f _ lawful hf, fun other => by
      by_cases e : other = page
      · rw [e, pinCount_changeDir s page f lawful hf, hp, pinCount_eq]
      · exact pinCount_changeDir_ne s page other f hf e⟩ }

/-! ### The Bank Scheduler -/

theorem follows_sendProgram (b : BankId) (program : ProgramInHand) (index : Nat) (data : PageData) :
    s.Follows (s.sendProgram b program index data) :=
  ((follows_setBank s b _).trans (follows_emit _ _)).trans (keeps_control _ _).toFollows

theorem keeps_sendProgram (b : BankId) (program : ProgramInHand) (index : Nat) (data : PageData)
    (h : (s.bank b).monitor ≠ .faulted) : s.Keeps (s.sendProgram b program index data) :=
  keeps_of_sent s _ b (follows_sendProgram s b program index data) h rfl rfl rfl rfl rfl

theorem keeps_sendRead (b : BankId) (job : ReadJob) (h : (s.bank b).monitor ≠ .faulted) :
    s.Keeps (s.sendRead b job) :=
  keeps_of_sent s _ b ((follows_setBank s b _).trans (follows_emit _ _)) h rfl rfl rfl rfl rfl

theorem keeps_suspendDecision (b : BankId) : s.Keeps (s.suspendDecision b) := by
  rw [State.suspendDecision]
  split
  · next suspends =>
    have programming : (s.bank b).monitor = .programming := by
      simp only [State.suspends, Bool.and_eq_true, beq_iff_eq] at suspends
      exact suspends.1.1.1
    exact keeps_of_sent s _ b ((follows_setBank s b _).trans (follows_emit _ _)) (by rw [programming]; simp)
      rfl rfl rfl rfl rfl
  · exact State.Keeps.refl s

theorem keeps_startProgram (i : SlotId) : s.Keeps (s.startProgram i) := keeps_setSlot s i _ (by simp)

theorem follows_dispatchSlot (b : BankId) (i : SlotId) : s.Follows (s.dispatchSlot b i) :=
  (((follows_setBank s b _).trans (keeps_startProgram _ i).toFollows).trans
    (follows_sendProgram _ b _ _ _)).trans (keeps_suspendDecision _ b).toFollows

theorem keeps_dispatchSlot (b : BankId) (i : SlotId) (h : (s.bank b).monitor ≠ .faulted) :
    s.Keeps (s.dispatchSlot b i) := by
  let dequeued := s.setBank b { s.bank b with
    programQueue := (s.bank b).programQueue.filter (fun j => j != i) }
  have started : s.Keeps (dequeued.startProgram i) :=
    (keeps_setBank s b _ (by exact id)).trans (keeps_startProgram dequeued i)
  have working : ((dequeued.startProgram i).bank b).monitor ≠ .faulted := by
    simpa [State.startProgram, dequeued] using h
  exact (started.trans (keeps_sendProgram _ b _ _ _ working)).trans (keeps_suspendDecision _ b)

theorem keeps_issueRead (b : BankId) (h : (s.bank b).monitor ≠ .faulted) : s.Keeps (s.issueRead b) := by
  rw [State.issueRead]
  split
  · exact State.Keeps.refl s
  · exact (keeps_setBank s b _ (by exact id)).trans (keeps_sendRead _ b _ (by simpa using h))

theorem keeps_arbitrate (b : BankId) : s.Keeps (s.arbitrate b) := by
  rw [State.arbitrate]
  split
  · exact State.Keeps.refl s
  · next idle =>
    have working : (s.bank b).monitor ≠ .faulted := fun h => idle (.inl (by simp [h]))
    split
    · exact keeps_issueRead s b working
    · split
      · exact keeps_sendProgram s b _ _ _ working
      · split
        · exact keeps_dispatchSlot s b _ working
        · split
          · exact State.Keeps.refl s
          · exact (keeps_setBank s b _ (by exact id)).trans (keeps_issueRead _ b (by simpa using working))

theorem keeps_arbitrateAll : s.Keeps s.arbitrateAll := State.Keeps.foldl State.arbitrate keeps_arbitrate allBanks s

theorem keeps_joinRead (b : BankId) (job : ReadJob) : s.Keeps (s.joinRead b job) := by
  rw [State.joinRead]
  split
  · exact State.Keeps.refl s
  · exact ((keeps_setBank s b _ (by exact id)).trans (keeps_suspendDecision _ b)).trans (keeps_arbitrate _ b)

theorem keeps_joinProgram (i : SlotId) : s.Keeps (s.joinProgram i) :=
  (keeps_setBank s _ _ (by exact id)).trans (keeps_arbitrate _ _)

theorem follows_enterIdle (b : BankId) : s.Follows (s.enterIdle b) :=
  (follows_setBank s b _).trans (keeps_arbitrate _ b).toFollows

theorem follows_leaveProgram (b : BankId) : s.Follows (s.leaveProgram b) := by
  rw [State.leaveProgram]
  split
  · split
    · exact (follows_setBank s b _).trans (follows_dispatchSlot _ b _)
    · exact follows_enterIdle s b
  · exact follows_enterIdle s b

/-! ### The Absorb Buffer -/

theorem keeps_enterQueued (i : SlotId) : s.Keeps (s.enterQueued i) := by
  have queued := keeps_setSlot s i { s.slot i with state := .queued } (by simp)
  rw [State.enterQueued]
  split
  · exact queued.trans (keeps_joinProgram _ i)
  · exact queued

theorem keeps_requestFill (i : SlotId) : s.Keeps (s.requestFill i) :=
  (keeps_setSlot s i _ (by simp)).trans (keeps_joinRead _ _ _)

theorem keeps_closureDecision (i : SlotId) : s.Keeps (s.closureDecision i) := by
  rw [State.closureDecision]
  split
  · exact keeps_setSlot s i _ (by simp)
  · split
    · exact keeps_enterQueued s i
    · split
      · exact (keeps_setSlot s i _ (by exact id)).trans (keeps_enterQueued _ i)
      · exact keeps_requestFill s i

theorem keeps_closeSlot (i : SlotId) : s.Keeps (s.closeSlot i) :=
  (keeps_setSlot s i _ (by exact id)).trans (keeps_closureDecision _ i)

theorem keeps_closeInAgeOrder (slots : List SlotId) : s.Keeps (s.closeInAgeOrder slots) :=
  State.Keeps.foldl State.closeSlot keeps_closeSlot _ s

theorem keeps_reexamineSlot (i : SlotId) : s.Keeps (s.reexamineSlot i) := by
  rw [State.reexamineSlot]
  split
  · exact keeps_closureDecision s i
  · exact State.Keeps.refl s

theorem keeps_reexamine (page : Nat) : s.Keeps (s.reexamine page) :=
  State.Keeps.foldl State.reexamineSlot keeps_reexamineSlot _ s

theorem keeps_freeSlot (i : SlotId) : s.Keeps (s.freeSlot i) := by
  let emptied := (s.freedWith i).foldl (fun t j => t.setSlot j Slot.unused) s
  have frees : s.Keeps emptied := State.Keeps.foldl (fun t j => t.setSlot j Slot.unused)
    (fun t j => keeps_setSlot t j Slot.unused (by simp [Slot.unused])) (s.freedWith i) s
  have leaves := keeps_changeDir emptied (s.slot i).page
    (fun e => { e with slots := e.slots.filter (fun j => !(s.freedWith i).contains j) }) (fun _ => rfl) (fun _ => rfl)
  exact ((frees.trans leaves).trans (keeps_reexamine _ _)).trans (keeps_arbitrate _ _)

/-! ### The Epoch Tracker -/

theorem keeps_admitHead : s.Keeps s.admitHead := by
  rw [State.admitHead]
  split
  · exact State.Keeps.foldl State.joinProgram keeps_joinProgram _ s
  · exact State.Keeps.refl s

theorem keeps_notePersisted (e : Epoch) : s.Keeps (s.notePersisted e) := by
  rw [State.notePersisted]
  split
  · exact keeps_push s _
  · exact State.Keeps.refl s

theorem keeps_noteLossy (e : Epoch) : s.Keeps (s.noteLossy e) := by
  rw [State.noteLossy]
  split
  · exact (keeps_raise s _).trans (keeps_latch _ .lossyEpoch (by decide))
  · exact State.Keeps.refl s

theorem keeps_removeHead (e : Epoch) (rest : List Epoch) : s.Keeps (s.removeHead e rest) :=
  ((keeps_tracker s _).trans (keeps_notePersisted _ e)).trans (keeps_noteLossy _ e)

theorem keeps_removeDrained (epochs : List Epoch) : s.Keeps (removeDrained epochs s) := by
  induction epochs generalizing s with
  | nil => exact State.Keeps.refl s
  | cons e rest ih =>
    rw [removeDrained]
    split
    · exact (keeps_removeHead s e rest).trans (ih _)
    · exact State.Keeps.refl s

theorem keeps_judgeRemoval : s.Keeps s.judgeRemoval := by
  rw [State.judgeRemoval]
  split
  · exact State.Keeps.refl s
  · split
    · exact (keeps_removeDrained s _).trans (keeps_admitHead _)
    · exact State.Keeps.refl s

theorem keeps_epochDown (fence : Nat) (stranded : Bool) : s.Keeps (s.epochDown fence stranded) :=
  (keeps_tracker s _).trans (keeps_judgeRemoval _)

theorem keeps_freeReported (i : SlotId) : s.Keeps (s.freeReported i) :=
  (keeps_freeSlot s i).trans (keeps_epochDown _ _ _)

/-! ### The Read Path -/

theorem follows_unpin (page : Nat) : s.Follows (s.unpin page) :=
  (follows_changeDir s page _ (by exact fun _ => rfl)).trans (keeps_arbitrate _ _).toFollows

theorem follows_dropRecord (r : ReadRecord) : s.Follows (s.dropRecord r) :=
  ({ State.Follows.refl s with } : s.Follows { s with reads := s.reads.filter (fun x => x.tag != r.tag) }).trans
    (follows_unpin _ r.page)

theorem follows_readFailed (tag : Nat) (timeout : Bool) : s.Follows (s.readFailed tag timeout) := by
  have answered := (keeps_respond s tag (.readData tag .mediaError [])).trans (keeps_latch _ .mediaError (by decide))
  rw [State.readFailed]
  split
  · cases timeout
    · exact (answered.trans (keeps_raise _ _)).toFollows.trans (follows_dropRecord _ _)
    · exact answered.toFollows.trans (follows_dropRecord _ _)
  · exact State.Follows.refl s

theorem keeps_fillComplete (i : SlotId) (page : List Byte) : s.Keeps (s.fillComplete i page) := by
  rw [State.fillComplete]
  split
  · exact (keeps_setSlot s i _ (by exact id)).trans (keeps_enterQueued _ i)
  · exact State.Keeps.refl s

theorem keeps_fillFailed (i : SlotId) : s.Keeps (s.fillFailed i) := by
  rw [State.fillFailed]
  split
  · exact ((keeps_fillComplete s i _).trans (keeps_raise _ _)).trans (keeps_latch _ .mediaError (by decide))
  · exact State.Keeps.refl s

/-! ### The Remap Unit -/

theorem keeps_strandSlot (i : SlotId) (spareOld : Option Nat) : s.Keeps (s.strandSlot i spareOld) :=
  (((((keeps_setSlot s i _ (by simp)).trans (keeps_epochDown _ _ _)).trans (keeps_raise _ _)).trans
    (keeps_latch _ .strandedNew (by decide))).trans (keeps_reexamine _ _)).trans (keeps_arbitrate _ _)

theorem keeps_withdrawUnlost (i : SlotId) : s.Keeps (s.withdrawUnlost i) :=
  { State.Keeps.refl s with
    bare := fun ⟨list, program, compaction⟩ =>
      ⟨by simp [State.withdrawUnlost, list], by simp [State.withdrawUnlost, program], compaction⟩ }

theorem keeps_leaveLost (page : Nat) : s.Keeps (s.leaveLost page) := keeps_remap s _ rfl

theorem keeps_freeRecorded (i : SlotId) (page : Nat) : s.Keeps (s.freeRecorded i page) := by
  rw [State.freeRecorded]
  split
  · exact keeps_freeReported s i
  · exact State.Keeps.refl s

theorem keeps_mapNotPersisted (refused : Bool) (i : SlotId) (bank spare : Nat) :
    s.Keeps (s.mapNotPersisted refused i bank spare) := by
  have unclaimed : s.Keeps (if refused then s.setClaim (Fin.ofNat 8 bank) spare none
      else (s.dropFreeSpare (Fin.ofNat 8 bank) spare).addRetired (Fin.ofNat 8 bank) spare) := by
    split <;> exact keeps_remap s _ rfl
  exact (unclaimed.trans (keeps_withdrawUnlost _ i)).trans (keeps_strandSlot _ i _)

/-- A directive that is answered leaves the engine free. -/
theorem keeps_directiveFailed : s.Keeps s.directiveFailed := by
  have answers (tag : Nat) (h : ∀ t, s.engine.current = .rangeApply t → t = tag) :
      s.Keeps (s.answerDirective tag .failed []) :=
    { State.Keeps.refl s with
      responses := List.prefix_append ..
      tags := fun _ h => List.mem_of_mem_filter h
      walker := .inl rfl
      head := .inl rfl
      free := fun _ => rfl
      holder := fun t holds => .inr ⟨rfl, by simp [State.answerDirective, State.respond, State.push, h t holds],
        by simp [State.answerDirective, State.respond, h t holds]⟩ }
  rw [State.directiveFailed]
  split
  · next release => exact answers _ fun t holds => by rw [holds] at release; cases release
  · next apply => exact answers _ fun t holds => by rw [holds] at apply; cases apply; rfl
  · exact State.Keeps.refl s

theorem keeps_noteOpenSession (persisted : Bool) : s.Keeps (s.noteOpenSession persisted) := by
  rw [State.noteOpenSession]
  split
  · split
    · exact keeps_control s _
    · exact State.Keeps.refl s
  · exact State.Keeps.refl s

theorem keeps_requestNotPersisted (refused : Bool) (r : Request) : s.Keeps (s.requestNotPersisted refused r) := by
  rw [State.requestNotPersisted]
  split
  · exact State.Keeps.refl s
  · split
    · exact keeps_mapNotPersisted s _ _ _ _
    · exact State.Keeps.refl s
    · exact (keeps_leaveLost s _).trans (keeps_freeRecorded _ _ _)
    · exact keeps_leaveLost s _
    · exact keeps_directiveFailed s
    · exact keeps_directiveFailed s
    · exact keeps_noteOpenSession s _
    · exact keeps_control s _

theorem keeps_answerRequests (refused : Bool) (voided : List SlotId) (requests : List Request) :
    s.Keeps (answerRequests refused voided requests s) := by
  induction requests generalizing voided s with
  | nil => exact State.Keeps.refl s
  | cons r rest ih => exact (keeps_requestNotPersisted s refused _).trans (ih _ _)

/-! ### The Metadata Writer -/

theorem keeps_stopWriter : s.Keeps s.stopWriter := by
  have emptied : s.Keeps { s with writer := s.writer.emptied } :=
    { State.Keeps.refl s with bare := fun _ => ⟨rfl, rfl, rfl⟩ }
  have stops (t : State) : t.Keeps { t with writer := { t.writer with state := .stopped } } :=
    { State.Keeps.refl t with stopped := fun _ => rfl, bare := id }
  exact ((emptied.trans (keeps_answerRequests _ _ _ _)).trans (stops _)).trans (keeps_control _ _)

/-- A writer that stops has nothing left (R105). -/
theorem stopWriter_writer : s.stopWriter.writer.state = .stopped ∧ s.stopWriter.writer.bare :=
  ⟨rfl, (keeps_answerRequests { s with writer := s.writer.emptied } false [] s.writer.unanswered).bare
    ⟨rfl, rfl, rfl⟩⟩

theorem keeps_giveUp (page : Nat) : s.Keeps (s.giveUp page) :=
  ((keeps_latch s .metadataFault (by decide)).trans (keeps_raise _ _)).trans (keeps_stopWriter _)

/-! ### Leaving RUNNING -/

theorem keeps_discardStaging : s.Keeps s.discardStaging := by
  rw [State.discardStaging]
  split
  · exact State.Keeps.refl s
  · have latches := keeps_latch s .rangeAbandoned (by decide)
    exact { latches with
      staging := .inr ⟨rfl, by simp [Condition.mask, Condition.bit]⟩ }

theorem keeps_abandonScrub : s.Keeps s.abandonScrub := by
  rw [State.abandonScrub]
  split
  · next w active =>
    exact { keeps_push s (.rangeDone true w.zeroed w.skipped) with
      walker := .inr ⟨rfl, fun v hv => by
        rw [active] at hv; obtain rfl := Option.some.inj hv
        simp [State.push]⟩ }
  · exact State.Keeps.refl s

/-- The write at the lane head is answered HALTED. -/
theorem keeps_haltHead : s.Keeps s.haltHead := by
  rw [State.haltHead]
  split
  · next w waits =>
    exact { keeps_respond s w.tag (.writeDone w.tag .halted 0) with
      head := .inr ⟨rfl, fun v hv => by
        rw [waits] at hv; obtain rfl := Option.some.inj hv
        exact ⟨by simp [State.answerHead, State.respond, State.push], by simp [State.answerHead, State.respond]⟩⟩
      holder := fun _ => .inl }
  · exact State.Keeps.refl s

theorem keeps_leaveRunning : s.Keeps s.leaveRunning :=
  (((keeps_closeInAgeOrder s _).trans (keeps_discardStaging _)).trans (keeps_abandonScrub _)).trans
    (keeps_haltHead _)

/-! ### After leaving RUNNING (R14, R18, R120, R129) -/

/-- What has become of the OPEN slots, the staging, the scrub and the write at the lane head of a state. -/
structure State.LeftRunning (s t : State) : Prop where
  closed : ∀ i, (t.slot i).state ≠ .opened
  staging : t.region.staging = .empty
  abandoned : s.region.staging ≠ .empty → t.engine.latched.getLsbD 8 = true
  walker : t.region.walker = none
  noticed : ∀ w, s.region.walker = some w → .rangeDone true w.zeroed w.skipped ∈ t.link.responses
  head : t.link.head = none
  halted : ∀ w, s.link.head = some w → t.headHalted w

theorem State.LeftRunning.of_follows {s t : State} (h : s.Follows t) (hs : ∀ i, (t.slot i).state ≠ .opened)
    (hg : t.region.staging = .empty) (hw : t.region.walker = none) (hh : t.link.head = none) : s.LeftRunning t where
  closed := hs
  staging := hg
  abandoned := fun stood => h.staging.elim (fun same => absurd (same.symm.trans hg) stood) And.right
  walker := hw
  noticed := fun w stood => h.walker.elim
    (fun same => by rw [← same, hw] at stood; cases stood) (fun gone => gone.2 w stood)
  head := hh
  halted := fun w stood => h.head.elim
    (fun same => by rw [← same, hh] at stood; cases stood) (fun gone => gone.2 w stood)

theorem State.LeftRunning.follows {s t u : State} (h : s.LeftRunning t) (k : t.Follows u) : s.LeftRunning u where
  closed := fun i hi => h.closed i (k.opened i hi)
  staging := k.staging.elim (fun same => same.trans h.staging) And.left
  abandoned := fun hs => k.latched 8 (h.abandoned hs)
  walker := k.walker.elim (fun same => same.trans h.walker) And.left
  noticed := fun w hw => k.responses.subset (h.noticed w hw)
  head := k.head.elim (fun same => same.trans h.head) And.left
  halted := fun w hw => ⟨k.responses.subset (h.halted w hw).1, fun ht => (h.halted w hw).2 (k.tags _ ht)⟩

/-- What leaving RUNNING has done since an earlier state stands. -/
theorem State.LeftRunning.since {s t u : State} (k : t.LeftRunning u) (l : s.Follows u) :
    s.LeftRunning u := State.LeftRunning.of_follows l k.closed k.staging k.walker k.head

/-- A slot that closes is not OPEN any more. -/
theorem closeSlot_closes (i : SlotId) : ((s.closeSlot i).slot i).state ≠ .opened := by
  have after {t u : State} (k : t.Keeps u) (x : SlotState) (ht : (t.slot i).state = x) (hx : x ≠ .opened) :
      (u.slot i).state ≠ .opened := fun hu => hx (ht.symm.trans (k.opened i hu))
  have queued (t : State) : ((t.enterQueued i).slot i).state ≠ .opened := by
    rw [State.enterQueued]
    split
    · exact after (keeps_joinProgram _ i) .queued (by rw [slot_setSlot]) (by simp)
    · rw [slot_setSlot]; simp
  rw [closeSlot_eq]
  split
  · rw [slot_setSlot]; simp
  · split
    · exact queued _
    · cases s.closureBytes? i with
      | some data => exact queued _
      | none => exact after (keeps_joinRead _ _ _) .filling (by rw [slot_setSlot]) (by simp)

/-- The slots that close one after another are not OPEN any more. -/
theorem foldl_closeSlot_closes (l : List SlotId) (i : SlotId) (h : i ∈ l) :
    ((l.foldl State.closeSlot s).slot i).state ≠ .opened := by
  induction l generalizing s with
  | nil => simp at h
  | cons j l ih =>
    rcases List.mem_cons.mp h with rfl | h
    · exact fun opened => closeSlot_closes s i ((State.Keeps.foldl State.closeSlot keeps_closeSlot l _).opened i opened)
    · exact ih _ h

theorem closeInAgeOrder_closes (i : SlotId) : ((s.closeInAgeOrder s.openSlots).slot i).state ≠ .opened := by
  by_cases h : (s.slot i).state = .opened
  · exact foldl_closeSlot_closes s _ i ((mem_sortBy _ _ _).mpr (by simp [State.openSlots, mem_allSlots, h]))
  · exact fun opened => h ((keeps_closeInAgeOrder s s.openSlots).opened i opened)

@[simp] theorem discardStaging_staging : s.discardStaging.region.staging = .empty := by
  rw [State.discardStaging]
  split
  · next empty => exact empty
  · rfl

@[simp] theorem abandonScrub_walker : s.abandonScrub.region.walker = none := by
  rw [State.abandonScrub]
  split
  · rfl
  · next none => exact none

@[simp] theorem haltHead_head : s.haltHead.link.head = none := by
  rw [State.haltHead]
  split
  · rfl
  · next none => exact none

theorem leaveRunning_leftRunning : s.LeftRunning s.leaveRunning := by
  let closed := s.closeInAgeOrder s.openSlots
  have scrub := keeps_abandonScrub closed.discardStaging
  have halt := keeps_haltHead closed.discardStaging.abandonScrub
  have kept := ((keeps_discardStaging closed).trans scrub).trans halt
  refine State.LeftRunning.of_follows (keeps_leaveRunning s).toFollows (fun i opened => ?_) ?_ ?_ (haltHead_head _)
  · exact closeInAgeOrder_closes s i (kept.opened i opened)
  · exact (scrub.trans halt).staging.elim (fun same => same.trans (discardStaging_staging closed)) And.left
  · exact halt.walker.elim (fun same => same.trans (abandonScrub_walker _)) And.left

end

end Sys2Proof.Machine
end

/-! ## A metadata program that fails beyond RETRY_LIMIT -/

section
/-!
SUPPORT. What the bridge is once its writer has given up in RUNNING, and the statement about it.
-/

namespace Sys2Proof.Machine

section
variable (s : State)

theorem follows_setPendingMeta (p : Option PendingMeta) : s.Follows (s.setPendingMeta p) :=
  { State.Follows.refl s with }

/-- A metadata program of a page has failed beyond RETRY_LIMIT in RUNNING, and the bridge has become DEGRADED. -/
structure State.Degraded (s : State) (page : Nat) (t : State) : Prop where
  since : s.Follows t
  left : s.LeftRunning t
  outline : t.outline = (s.setBridge .degraded).outline
  stopped : t.writer.state = .stopped
  bare : t.writer.bare
  latched : t.engine.latched.getLsbD 9 = true
  raised : s.engine.incidents.length < 16 → ({
    kind := .metadataFault, fence := s.tracker.fenceCounter, metadataPage := some page,
    operation := some s.writer.state.operation } : Incident) ∈ t.engine.incidents
  overflow : 16 ≤ s.engine.incidents.length → t.engine.latched.getLsbD 7 = true

theorem State.Degraded.follows {s t u : State} {page : Nat} (h : s.Degraded page t) (k : t.Follows u)
    (o : u.outline = t.outline) : s.Degraded page u where
  since := h.since.trans k
  left := h.left.follows k
  outline := o.trans h.outline
  stopped := k.stopped h.stopped
  bare := k.bare h.bare
  latched := k.latched 9 h.latched
  raised := fun room => k.incidents.subset (h.raised room)
  overflow := fun full => k.latched 7 (h.overflow full)

/-- What the outline of a degraded bridge says. -/
theorem State.Degraded.standing {s t : State} {page : Nat} (h : s.Degraded page t) :
    t.control.state = .degraded ∧ t.control.drain.isSome = s.control.drain.isSome
      ∧ t.control.startup.isSome = s.control.startup.isSome ∧ t.now = s.now ∧ t.hostOut = s.hostOut
      ∧ t.geometry = s.geometry := by
  have o := h.outline
  simp only [State.outline, State.setBridge, Prod.mk.injEq] at o
  obtain ⟨-, -, hout, hnow, hgeo, hstate, -, -, -, -, hdrain, hstart⟩ := o
  exact ⟨hstate, hdrain, hstart, hnow, hout, hgeo⟩

/-- Outside a drain and a start-up nothing is due of a degraded bridge. -/
theorem State.Degraded.settle {s t : State} {page : Nat} (h : s.Degraded page t) (hd : s.control.drain = none)
    (hs : s.control.startup = none) : t.settle = t.judgeAlert := by
  obtain ⟨-, drain, startup, -⟩ := h.standing
  exact settle_of_quiet t (quiet_of_calm t (by simpa [hd] using drain) (by simpa [hs] using startup))

theorem outline_setBridge (t : State) (b : BridgeState) (h : t.outline = s.outline) :
    (t.setBridge b).outline = (s.setBridge b).outline := by
  simp only [State.outline, State.setBridge, Prod.mk.injEq] at h ⊢
  simp [h]

/-- The writer gives up and stops, and the bridge leaves RUNNING (R105, R163). -/
theorem metadataOutcome_degrades (p : WriterProgram) (hs : s.control.state = .running)
    (hp : s.writer.program = some p) (hl : s.engine.profile.retryLimit < p.attempts + 1) :
    s.Degraded p.page (s.metadataOutcome false) := by
  let u := s.setPendingMeta none
  let latched := u.latch .metadataFault
  let raised := latched.raise {
    kind := .metadataFault, metadataPage := some p.page, operation := some s.writer.state.operation }
  let given := raised.stopWriter
  have bounds : given.outline = s.outline := by simp [given, raised, latched, u]
  have outcome : s.writerOutcome false = given := by
    simp only [State.writerOutcome, hp, Bool.false_eq_true, if_false]
    exact metaFailed_of_beyond u p (shutdownListed_of_not_draining u (by show s.control.state ≠ _; rw [hs]; simp)) hl
  have running : given.control.state = .running := by
    have o := bounds
    simp only [State.outline, Prod.mk.injEq] at o
    exact o.2.2.2.2.2.1.trans hs
  have stops := keeps_stopWriter raised
  have since : s.Follows given := (follows_setPendingMeta s none).trans
    (((keeps_latch u .metadataFault (by decide)).trans (keeps_raise latched _)).trans stops).toFollows
  let left := (given.setBridge .degraded).leaveRunning
  have outcome' : s.metadataOutcome false = left.arbitrateAll := by
    rw [State.metadataOutcome, outcome, State.degradeIfStopped, if_pos ⟨running, rfl⟩]
  have leaves : given.Follows left :=
    ((keeps_control given _).trans (keeps_leaveRunning (given.setBridge .degraded))).toFollows
  have rests := (keeps_arbitrateAll left).toFollows
  have after := (stops.toFollows.trans leaves).trans rests
  rw [outcome']
  exact {
    since := since.trans (leaves.trans rests)
    left := ((leaveRunning_leftRunning (given.setBridge .degraded)).since (since.trans leaves)).follows rests
    outline := by rw [arbitrateAll_outline, leaveRunning_outline]; exact outline_setBridge s given .degraded bounds
    stopped := (leaves.trans rests).stopped rfl
    bare := (leaves.trans rests).bare (stopWriter_writer raised).2
    latched := after.latched 9 ((keeps_raise latched _).latched 9 (by
      simp [latched, Condition.mask, Condition.bit]))
    raised := fun room => after.incidents.subset (by
      simp only [raised]
      rw [raise_of_room latched _ room]
      simp [latched, u, State.setPendingMeta])
    overflow := fun full => after.latched 7 (by
      have none : ¬ latched.engine.incidents.length < 16 := by
        show ¬ s.engine.incidents.length < 16; omega
      simp only [raised, State.raise, if_neg none]
      simp [Condition.mask, Condition.bit]) }

/-- The bank's part in the end of a program, after which a degraded bridge is degraded still. -/
theorem endProgram_outline (b : BankId) : (s.endProgram b).outline = s.outline := by
  rw [State.endProgram]; split <;> simp

theorem follows_endProgram (b : BankId) : s.Follows (s.endProgram b) := by
  rw [State.endProgram]
  split
  · exact follows_leaveProgram s b
  · exact State.Follows.refl s

/-- A metadata program that a bank reports failed is reported so to the writer (R54, R65). -/
theorem takeProgramDone_of_metadata (b : BankId) (q : Nat) (hn : s.namesBank b.val = true)
    (ha : .programDone q ∈ (s.bank b).awaited) (hp : (s.bank b).program = .metadata) :
    ∃ x : Bank, s.takeProgramDone b.val q .programFail = ((s.setBank b x).metadataOutcome false).endProgram b := by
  simp only [State.takeProgramDone, takingBank?_of_awaited s b _ hn ha, hp, State.stopProgramTimer, State.untilTaken,
    State.setProgram, bank_setBank]
  split
  · exact ⟨_, by rw [setBank_setBank, setBank_setBank]; rfl⟩
  · exact ⟨_, by rw [setBank_setBank]; rfl⟩

end

end Sys2Proof.Machine

namespace Sys2Proof

open Machine

/-- Settles O38. -/
theorem metadataFailureDegradesTheBridge : Obligations.MetadataFailureDegradesTheBridge := by
  intro s b q p hr hs hd hst hb hprog ha hp hl
  have named := namesBank_of_known s b hb
  obtain ⟨x, takes⟩ := takeProgramDone_of_metadata s b q named ha hprog
  let reported := (s.setBank b x).metadataOutcome false
  have degraded : (s.setBank b x).Degraded p.page (reported.endProgram b) :=
    (metadataOutcome_degrades (s.setBank b x) p hs hp hl).follows (follows_endProgram reported b)
      (endProgram_outline reported b)
  obtain ⟨state, -, -, now, hostOut, geometry⟩ := degraded.standing
  have settles := degraded.settle hd hst
  have since := degraded.since
  have left := degraded.left
  obtain ⟨list, program, compaction⟩ := degraded.bare
  refine ⟨(reported.endProgram b).judgeAlert, ?_, state, degraded.stopped, program, compaction, degraded.latched,
    left.staging, left.walker, fun room => ?_, degraded.overflow, list, left.closed, left.abandoned, left.noticed,
    left.halted, left.head, geometry, since.profile, since.remapTable, since.regionTable, now, hostOut⟩
  · rw [programDone_taken s b q _ hr named ha, takes, settles]
  · have raised := degraded.raised room
    have writer : (s.setBank b x).writer.state = s.writer.state := rfl
    cases hw : s.writer.state <;> rw [writer, hw] at raised <;> exact raised

end Sys2Proof
end

/-! ## RESET_DONE -/

section
/-!
SUPPORT. The statement about RESET_DONE.
-/

namespace Sys2Proof.Machine

section
variable (s : State)

/-- A failed read of a host, answered MEDIA_ERROR without an incident, at a bank that is not IDLE (R63, R78). -/
theorem readFailed_of_timeout (r : ReadRecord) (b : BankId) (hf : s.record? r.tag = some r)
    (hb : s.bankOfPage r.page = b) (hm : (s.bank b).monitor ≠ .idle) : s.readFailed r.tag true = { s with
      link := { s.link with
        tags := s.link.tags.filter (fun t => t != r.tag),
        responses := s.link.responses ++ [.readData r.tag .mediaError []] },
      reads := s.reads.filter (fun x => x.tag != r.tag),
      absorb := { s.absorb with
        directory := changeEntry r.page (fun e => { e with pins := e.pins - 1 }) s.absorb.directory },
      engine := { s.engine with latched := s.engine.latched ||| 0x8#32 } } := by
  let t : State := { s with
    link := { s.link with
      tags := s.link.tags.filter (fun t => t != r.tag),
      responses := s.link.responses ++ [.readData r.tag .mediaError []] },
    reads := s.reads.filter (fun x => x.tag != r.tag),
    absorb := { s.absorb with
      directory := changeEntry r.page (fun e => { e with pins := e.pins - 1 }) s.absorb.directory },
    engine := { s.engine with latched := s.engine.latched ||| 0x8#32 } }
  have ends : s.readFailed r.tag true = t.arbitrate (s.bankOfPage r.page) := by
    rw [State.readFailed, hf]; rfl
  rw [ends, hb]
  exact arbitrate_of_busy t b hm

/-- A bank with a failed read in hand takes its outcome and, with nothing waiting, enters IDLE (R63). -/
theorem leaveReset_ends (b : BankId) (x : Bank) (job : ReadJob) (u : State) (hx : s.bank b = x)
    (hm : x.monitor = .resetting) (hp : x.program = .absent) (hr : x.read = some job) (hq : x.readQueue = [])
    (hs : x.programQueue = []) (hd : s.control.drain = none) (hn : u.sched.pendingMeta = none)
    (hu : (s.setBank b { x with read := none, readTimer := .stopped }).jobFailed job true = u)
    (hb : u.bank b = { x with read := none, readTimer := .stopped }) :
    s.leaveReset b = u.setBank b { x with
      monitor := .idle, read := none, program := .absent, programTimer := .stopped, readTimer := .stopped,
      awaited := [], batch := 0 } := by
  have ended : s.interruptedRead b = u := by
    rw [State.interruptedRead, hx, hr]
    exact (congrArg (State.jobFailed · job true) (by rw [State.clearRead, hx])).trans hu
  rw [leaveReset_eq s b s u (interruptedProgram_of_absent s b (by rw [hx]; exact hp)) hd ended (by rw [hb]; exact hm),
    leaveProgram_of_absent u b (by rw [hb]; exact hp)]
  exact enterIdle_of_empty u b _ hb hs hq (by simp [hn])

/-- PROGRAM_PAGE sent again for a slot that is PROGRAMMING at its target, by a bank just replaced. -/
theorem programSent_again (b : BankId) (x : Bank) (i : SlotId) (target : Target) (index : Nat)
    (hs : (s.slot i).state = .programming) (ht : (s.slot i).target = some target) :
    (s.setBank b x).programSent b i target index = { s.setBank b { x with
        monitor := .programming, programQueue := x.programQueue.filter (fun j => j != i),
        program := .data i .inFlight, programTimer := .running (s.now + 5000), sequence := x.nextTag,
        programTag := x.nextTag, awaited := [.programDone x.nextTag] } with
      arrayOut := s.arrayOut ++ [.programPage b index x.nextTag (.bytes (s.slot i).image.toBytes)] } := by
  have slot : { s.slot i with state := .programming, target := some target } = s.slot i := by rw [← hs, ← ht]
  simp only [State.programSent, bank_setBank, slot_setBank, slot, setSlot_setBank, setSlot_self, setBank_setBank]
  rfl

/-! ### A degraded bridge -/

theorem startupReadFailed_of_none (h : s.control.startup = none) : s.startupReadFailed = s := by
  simp [State.startupReadFailed, State.stage?, h]

/-- Outside a start-up a failed read job changes only what an operation of the blocks changes. -/
theorem follows_jobFailed (job : ReadJob) (timeout : Bool) (hs : s.control.startup = none) :
    s.Follows (s.jobFailed job timeout) ∧ (s.jobFailed job timeout).outline = s.outline := by
  rw [State.jobFailed]
  split
  · exact ⟨(keeps_fillFailed s _).toFollows, fillFailed_outline s _⟩
  · exact ⟨follows_readFailed s _ _, readFailed_outline s _ _⟩
  · rw [startupReadFailed_of_none s hs]; exact ⟨State.Follows.refl s, rfl⟩

theorem follows_interruptedRead (b : BankId) (hs : s.control.startup = none) :
    s.Follows (s.interruptedRead b) ∧ (s.interruptedRead b).outline = s.outline := by
  rw [State.interruptedRead]
  split
  · next job _ =>
    obtain ⟨follows, outline⟩ := follows_jobFailed (s.clearRead b) job true hs
    exact ⟨(follows_setBank s b { s.bank b with read := none, readTimer := .stopped }).trans follows, outline⟩
  · exact ⟨State.Follows.refl s, rfl⟩

/-- A metadata program that a reset has interrupted fails beyond RETRY_LIMIT: the bridge is DEGRADED (R65, R105). -/
theorem leaveReset_degrades (b : BankId) (p : WriterProgram) (hm : (s.bank b).program = .metadata)
    (hs : s.control.state = .running) (hd : s.control.drain = none) (hst : s.control.startup = none)
    (hp : s.writer.program = some p) (hl : s.engine.profile.retryLimit < p.attempts + 1) :
    (s.setProgram b .absent).Degraded p.page (s.leaveReset b) := by
  let t := (s.setProgram b .absent).metadataOutcome false
  have degraded : (s.setProgram b .absent).Degraded p.page t := metadataOutcome_degrades _ p hs hp hl
  obtain ⟨-, drain, startup, -⟩ := degraded.standing
  have judged : t.judgeEnd = t :=
    judgeEnd_of_none t (endingDrain?_of_none t (by simpa [State.setProgram, hd] using drain))
  have outcome : s.interruptedProgram b = t := by rw [State.interruptedProgram, hm]
  obtain ⟨follows, outline⟩ := follows_interruptedRead t b (by simpa [State.setProgram, hst] using startup)
  have ended := degraded.follows follows outline
  simp only [State.leaveReset, outcome, judged]
  split
  · exact ended.follows (follows_leaveProgram _ b) (leaveProgram_outline _ b)
  · exact ended

end

end Sys2Proof.Machine

namespace Sys2Proof

open Machine

/-- Settles O32, one lemma of the end of a reset for each clause. -/
theorem resetDoneEndsABankReset : Obligations.ResetDoneEndsABankReset := by
  refine ⟨fun s b hr hmon hawait hprog hread => ?_, fun s b hr hst hd hb hpres hmon hawait => ?_⟩
  · intro marked
    have hq := ready_quiet s hr
    have same : s.markBank b .present = s.setBank b marked := rfl
    refine ⟨fun up c hup hstage hun hcb hc => ?_, fun hup hdrain hun hall => ?_, fun job rest hst hd hb hpres hqueue => ?_⟩
    · have waits : (s.setBank b marked).bankMarked = s.setBank b marked :=
        bankMarked_of_unmarked _ up c hup hstage (by rw [bank_setBank_ne s b c _ (Ne.symm hcb)]; exact hc)
      rw [resetDone_taken s b hr (namesBank_of_stage s up _ hup hstage) hawait,
        if_pos (by simp [awaitsMark_of_stage s up b hup hstage, hun]), same, waits]
      exact congrArg Host.Outcome.next (settle_of_quiet (s.setBank b marked) (quiet_marked s b .present hq))
    · have last := bankMarked_of_last (s.setBank b marked) hup fun c => by
        by_cases e : b = c
        · subst e; rw [bank_setBank]; simp [marked]
        · rw [bank_setBank_ne s b c _ e]; exact hall c (Ne.symm e)
      rw [resetDone_taken s b hr (namesBank_of_stage s _ _ hup rfl) hawait,
        if_pos (by simp [awaitsMark_of_stage s _ b hup rfl, hun]), same, last]
      refine congrArg Host.Outcome.next ((settle_of_quiet _ ?_).trans rfl)
      exact quiet_of_identify _ false hdrain rfl
    · let u := s.setBank b (s.bank b).released
      have bank : u.bank b = (s.bank b).released := bank_setBank ..
      have leaves : u.leaveReset b = u.enterIdle b :=
        (leaveReset_eq u b u u (interruptedProgram_of_absent u b (by rw [bank]; exact hprog)) hd
          (interruptedRead_of_none u b (by rw [bank]; exact hread)) (by rw [bank]; exact hmon)).trans
          (leaveProgram_of_absent u b (by rw [bank]; exact hprog))
      have reads := enterIdle_of_reads u b _ job rest bank hqueue (by simp [Bank.released, hpres])
      refine resetDone_leaves s b _ hr hst hd hb hawait (leaves.trans (reads.trans ?_)) rfl
      simp only [u, setBank_setBank, readSent_setBank, Bank.released, hprog]
  · intro tag rested programming
    let rb := (s.bank b).released
    let u := s.setBank b rb
    have bank : u.bank b = rb := bank_setBank ..
    refine ⟨fun i phase hphase hprog hread hi hslot => ⟨fun target hwithin hstate htarget hlist hpin => ?_,
      fun k claimed rest job jobs hbeyond hdeg htarget hclaimed hindex hfree hqueue => ?_⟩, ?_, ?_⟩
    · let v := s.setBank b { rb with program := .data i .retryDue, programQueue := i :: rb.programQueue }
      let w := s.setBank b { rb with
        program := .data i .retryDue, programQueue := i :: rb.programQueue, programTimer := .stopped }
      have bankV : v.bank b = { rb with program := .data i .retryDue, programQueue := i :: rb.programQueue } :=
        bank_setBank ..
      have outcome : u.interruptedProgram b = v := by
        rw [interruptedProgram_of_data u b i phase hphase (by rw [bank]; exact hprog),
          judgeAttempt_retries u b i hwithin, bank, setBank_setBank]
      have retries : u.leaveReset b = w.dispatchSlot b i := by
        rw [leaveReset_eq u b v v outcome hd (interruptedRead_of_none v b (by rw [bankV]; exact hread))
            (by rw [bankV]; exact hmon),
          leaveProgram_retries v b i (by rw [bankV]) (dispatchable_of_only v i hstate hlist hpin), bankV,
          setBank_setBank]
      let sent : State := { s.setBank b { programming with program := .data i .inFlight } with
        arrayOut := s.arrayOut ++ [.programPage b (s.targetIndex (s.slot i).page target) tag
          (.bytes (s.slot i).image.toBytes)] }
      have dispatches : u.leaveReset b = sent.suspendDecision b := by
        have others : (i :: (s.bank b).programQueue).filter (fun j => j != i) = (s.bank b).programQueue := by
          rw [List.filter_cons_of_neg (by simp)]
          exact List.filter_eq_self.mpr fun j hj => by simpa using fun e : j = i => hi (e ▸ hj)
        rw [retries, dispatchSlot_eq w b i target (s.targetIndex (s.slot i).page target) hd
          (by rw [show w.slot i = s.slot i from rfl, htarget]; rfl) rfl]
        refine congrArg (State.suspendDecision · b) ?_
        rw [programSent_again s b _ i target _ hslot htarget]
        simp only [rb, Bank.released, others]
        rfl
      have bankS : sent.bank b = { programming with program := .data i .inFlight } := bank_setBank ..
      refine ⟨fun hnone => ?_, fun hwaits hbudget => ?_⟩
      · refine resetDone_leaves s b sent hr hst hd hb hawait (dispatches.trans (suspendDecision_of_not sent b ?_)) rfl
        exact hnone.elim (fun empty => suspends_of_no_read sent b (by rw [bankS]; exact empty))
          (fun spent => suspends_of_spent sent b i (by rw [bankS]) spent)
      · refine resetDone_leaves s b _ hr hst hd hb hawait (dispatches.trans ((suspendDecision_sends sent b i _ bankS rfl
          hwaits hstate rfl hbudget).trans ?_)) rfl
        simp only [sent, State.setBank, Vector.set_set, List.append_assoc, List.cons_append, List.nil_append]
        rfl
    · let L := claimed ++ { index := k, claim := some i } :: rest
      let handed := (s.setFreeSpares b L).setSlot i { s.slot i with target := some (.spare k), attempts := 0 }
      let v := handed.setBank b { rb with program := .absent, programQueue := i :: rb.programQueue }
      have bankV : v.bank b = { rb with program := .absent, programQueue := i :: rb.programQueue } := bank_setBank ..
      have outcome : u.interruptedProgram b = v := by
        rw [interruptedProgram_of_data u b i phase hphase (by rw [bank]; exact hprog),
          judgeAttempt_hands u b i k claimed rest hbeyond hdeg htarget hclaimed hindex hfree, bank]
        simp only [v, handed, u, State.setFreeSpares, State.setSlot, State.setBank, Vector.set_set]
        rfl
      have idle : u.leaveReset b = v.enterIdle b := by
        rw [leaveReset_eq u b v v outcome hd (interruptedRead_of_none v b (by rw [bankV]; exact hread))
          (by rw [bankV]; exact hmon), leaveProgram_of_absent v b (by rw [bankV])]
      refine resetDone_leaves s b _ hr hst hd hb hawait (idle.trans ((enterIdle_of_reads v b _ job jobs bankV hqueue
        (by simp [rb, Bank.released, hpres])).trans ?_)) rfl
      simp only [v, setBank_setBank, readSent_setBank, rb, Bank.released]
      rfl
    · intro p hprog hread hs hw hp
      let v := u.setProgram b .absent
      have bankV : v.bank b = { rb with program := .absent } := by
        simp only [v, State.setProgram, bank_setBank, bank]
      refine ⟨fun hwithin hmeta hqueue => ?_, fun hbeyond => ?_⟩
      · let m : State := { v with
          writer := { s.writer with program := some { p with attempts := p.attempts + 1 } },
          sched := { v.sched with pendingMeta := some { page := p.page, image := p.image } } }
        have there : v.bank (v.metaBank p.page) = { rb with program := .absent } :=
          (congrArg v.bank (show v.metaBank p.page = b from hmeta)).trans bankV
        have outcome : u.interruptedProgram b = m := by
          have metadata : (u.bank b).program = .metadata := (congrArg Bank.program bank).trans hprog
          rw [State.interruptedProgram, metadata]
          exact metadataOutcome_retries v p hp hs hd (by show s.writer.state ≠ _; rw [hw]; simp) hwithin
            (by rw [there]; simp [rb, Bank.released, hpres]) (by rw [there]; simp [rb, Bank.released, hmon])
        have bankM : m.bank b = { rb with program := .absent } := bankV
        have idle : u.leaveReset b = m.enterIdle b := by
          rw [leaveReset_eq u b m m outcome hd (interruptedRead_of_none m b (by rw [bankM]; exact hread))
            (by rw [bankM]; exact hmon), leaveProgram_of_absent m b (by rw [bankM])]
        have allowed : m.metaAllowed = true := by
          have state : m.control.state = .running := hs
          rw [State.metaAllowed, state]
        refine resetDone_leaves s b _ hr hst hd hb hawait (idle.trans ((enterIdle_of_meta m b _ _ bankM hqueue
          (by simp [rb, Bank.released, hpres]) rfl hmeta allowed hd).trans ?_)) rfl
        simp only [m, v, u, State.setProgram, State.setBank, Vector.set_set]
        rfl
      · have degraded := leaveReset_degrades u b p (by rw [bank]; exact hprog) hs hd hst hp hbeyond
        obtain ⟨list, program, -⟩ := degraded.bare
        obtain ⟨state, drain, startup, -⟩ := degraded.standing
        have taken := resetDone_taken s b hr (namesBank_of_known s b (.inr hb)) hawait
        rw [if_neg (by simp [awaitsMark_of_none s b hst])] at taken
        exact ⟨_, taken.trans (congrArg Host.Outcome.next (degraded.settle hd hst)), state, degraded.stopped, list,
          program, degraded.latched⟩
    · intro job hprog hread hqueue hslots hmeta ended
      let y := u.setBank b { rb with read := none, readTimer := .stopped }
      have bankY : y.bank b = { rb with read := none, readTimer := .stopped } := bank_setBank ..
      have monitor : (y.bank b).monitor ≠ .idle := by rw [bankY]; simp [rb, Bank.released, hmon]
      have ends (X : State) (hX : y.jobFailed job true = X) (hb' : X.bank b = y.bank b)
          (hm : X.sched.pendingMeta = none) (hc : X.control = s.control) :
          exec (.resetDone b.val) s = .next (X.setBank b ended).judgeAlert :=
        resetDone_leaves s b _ hr hst hd hb hawait ((leaveReset_ends u b rb job X bank hmon hprog hread hqueue hslots hd
          hm hX (hb'.trans bankY)).trans rfl) hc
      refine ⟨fun r howner hrecord hbank => ?_, fun i howner hfill he hinc => ?_⟩
      · have failed : y.jobFailed job true = _ :=
          (by rw [State.jobFailed, howner] : y.jobFailed job true = y.readFailed r.tag true).trans
            (readFailed_of_timeout y r b hrecord hbank monitor)
        refine (ends _ failed rfl hmeta rfl).trans (congrArg (fun t => Host.Outcome.next (State.judgeAlert t)) ?_)
        simp only [y, u, State.setBank, Vector.set_set]
      · have failed : y.jobFailed job true = _ :=
          (by rw [State.jobFailed, howner] : y.jobFailed job true = y.fillFailed i).trans
            (fillFailed_waits y i hfill he hinc)
        refine (ends _ failed rfl hmeta rfl).trans (congrArg (fun t => Host.Outcome.next (State.judgeAlert t)) ?_)
        simp only [y, u, State.setSlot, State.setBank, Vector.set_set]
        rfl

end Sys2Proof
end

/-! ## FAULTED -/

section
/-!
SUPPORT. What the entry to FAULTED does with the banks, the reads, the writer and a held directive, and the statement
about the reset timer.
-/

namespace Sys2Proof.Machine

section
variable (s : State)

/-! ### The banks (R66) -/

theorem bank_foldl_faulted (l : List BankId) (b : BankId) (h : b ∈ l) :
    ((l.foldl (fun t b => t.setBank b (t.bank b).faulted) s).bank b).monitor = .faulted := by
  have stays (l : List BankId) (t : State) (ht : (t.bank b).monitor = .faulted) :
      ((l.foldl (fun t b => t.setBank b (t.bank b).faulted) t).bank b).monitor = .faulted := by
    induction l generalizing t with
    | nil => exact ht
    | cons c l ih =>
      refine ih _ ?_
      by_cases e : c = b
      · subst e; rw [bank_setBank]; rfl
      · rw [bank_setBank_ne t c b _ e]; exact ht
  induction l generalizing s with
  | nil => simp at h
  | cons c l ih =>
    rcases List.mem_cons.mp h with rfl | h
    · exact stays l _ (by rw [bank_setBank]; rfl)
    · exact ih _ h

theorem faultBanks_allFaulted : s.faultBanks.allFaulted := fun b =>
  bank_foldl_faulted s allBanks b (mem_allBanks b)

/-- Only the Bank Scheduler's record changes as the banks become FAULTED. -/
theorem faultBanks_eq : ∃ banks, s.faultBanks = { s with sched := { banks := banks, pendingMeta := none } } := by
  have folds (l : List BankId) : ∃ x, l.foldl (fun t b => t.setBank b (t.bank b).faulted) s
      = { s with sched := x } := by
    induction l generalizing s with
    | nil => exact ⟨s.sched, rfl⟩
    | cons c l ih => exact ih (s.setBank c (s.bank c).faulted)
  obtain ⟨x, hx⟩ := folds allBanks
  exact ⟨x.banks, by rw [State.faultBanks, hx]; rfl⟩

/-! ### The reads (R79) -/

/-- While every bank is FAULTED a record ends with its tag, its record and its pin, and nothing else changes. -/
theorem endRecord_eq (r : ReadRecord) (result : Result) (h : s.allFaulted) :
    (s.answerRead r.tag result).dropRecord r = { s with
      link := { s.link with
        tags := s.link.tags.filter (fun t => t != r.tag),
        responses := s.link.responses ++ [.readData r.tag result []] },
      reads := s.reads.filter (fun x => x.tag != r.tag),
      absorb := { s.absorb with
        directory := changeEntry r.page (fun e => { e with pins := e.pins - 1 }) s.absorb.directory } } := by
  refine arbitrate_of_busy { s with
      link := { s.link with
        tags := s.link.tags.filter (fun t => t != r.tag),
        responses := s.link.responses ++ [.readData r.tag result []] },
      reads := s.reads.filter (fun x => x.tag != r.tag),
      absorb := { s.absorb with
        directory := changeEntry r.page (fun e => { e with pins := e.pins - 1 }) s.absorb.directory } }
    (s.bankOfPage r.page) ?_
  show (s.bank _).monitor ≠ _
  rw [h]; simp

/-- What stays while records end in a bridge whose banks are all FAULTED. -/
structure State.RecordsEnded (s t : State) (result : Result) (ended : List ReadRecord) : Prop where
  since : s.Follows t
  faulted : t.allFaulted
  arrayOut : t.arrayOut = s.arrayOut
  pendingMeta : t.sched.pendingMeta = s.sched.pendingMeta
  outline : t.outline = s.outline
  region : t.region = s.region
  current : t.engine.current = s.engine.current
  responses : t.link.responses = s.link.responses ++ ended.map (fun r => .readData r.tag result [])
  tags : ∀ r ∈ ended, r.tag ∉ t.link.tags
  reads : ∀ x, x ∈ t.reads ↔ x ∈ s.reads ∧ ∀ r ∈ ended, x.tag ≠ r.tag
  pins : directoryLawful s.absorb.directory = true → directoryLawful t.absorb.directory = true
    ∧ ∀ page, t.pinCount page = s.pinCount page - (ended.filter (fun r => r.page == page)).length

theorem recordsEnded_refl (result : Result) (h : s.allFaulted) : s.RecordsEnded s result [] where
  since := State.Follows.refl s
  faulted := h
  arrayOut := rfl
  pendingMeta := rfl
  outline := rfl
  region := rfl
  current := rfl
  responses := by simp
  tags := by simp
  reads := by simp
  pins := fun lawful => ⟨lawful, by simp⟩

/-- One more record ends. -/
theorem recordsEnded_cons (r : ReadRecord) (result : Result) (ended : List ReadRecord) (t u : State)
    (h : s.allFaulted) (ht : (s.answerRead r.tag result).dropRecord r = t) (k : t.RecordsEnded u result ended) :
    s.RecordsEnded u result (r :: ended) := by
  have since : s.Follows t := by
    rw [← ht]; exact (keeps_respond s r.tag _).toFollows.trans (follows_dropRecord _ r)
  have outline : t.outline = s.outline := by rw [← ht]; simp
  rw [endRecord_eq s r result h] at ht
  refine {
    since := since.trans k.since
    faulted := k.faulted
    arrayOut := k.arrayOut.trans (by rw [← ht])
    pendingMeta := k.pendingMeta.trans (by rw [← ht])
    outline := k.outline.trans outline
    region := k.region.trans (by rw [← ht])
    current := k.current.trans (by rw [← ht])
    responses := by rw [k.responses, ← ht]; simp
    tags := ?_, reads := fun x => ?_, pins := fun lawful => ?_ }
  · refine List.forall_mem_cons.mpr ⟨fun left => ?_, k.tags⟩
    have stood := k.since.tags _ left
    rw [← ht] at stood
    simp at stood
  · rw [k.reads, ← ht, List.forall_mem_cons]
    simp [and_assoc]
  · let release (e : DirEntry) : DirEntry := { e with pins := e.pins - 1 }
    let released := s.changeDir r.page release
    have first (page : Nat) : released.pinCount page = s.pinCount page - if r.page = page then 1 else 0 := by
      by_cases e : r.page = page
      · subst e
        rw [if_pos rfl, pinCount_changeDir s r.page release lawful fun _ => rfl, pinCount_eq]
      · rw [if_neg e]
        exact pinCount_changeDir_ne s r.page page release (fun _ => rfl) (Ne.symm e)
    have directory : t.absorb.directory = released.absorb.directory := by rw [← ht]; rfl
    have same (page : Nat) : t.pinCount page = released.pinCount page := by
      rw [pinCount_eq, pinCount_eq, directory]
    obtain ⟨lawful', pins⟩ := k.pins (by
      rw [directory]; exact directoryLawful_changeEntry r.page _ _ lawful fun _ => rfl)
    refine ⟨lawful', fun page => ?_⟩
    rw [pins, same, first, List.filter_cons]
    by_cases e : r.page = page
    · simp [e]; omega
    · simp [e]

/-- Records that end one after another. -/
theorem recordsEnded_foldl (result : Result) (l : List ReadRecord) (h : s.allFaulted) :
    s.RecordsEnded (l.foldl (fun t r => (t.answerRead r.tag result).dropRecord r) s) result l := by
  induction l generalizing s with
  | nil => exact recordsEnded_refl s result h
  | cons r l ih =>
    refine recordsEnded_cons s r result l _ _ h rfl (ih _ ?_)
    rw [endRecord_eq s r result h]; exact h

/-- Every read that waits ends, in ascending order of tag (R79). -/
theorem endRecords_ended (result : Result) (h : s.allFaulted) :
    s.RecordsEnded (s.endRecords result) result (sortBy ReadRecord.tag s.reads)
      ∧ (s.endRecords result).reads = [] := by
  have ended := recordsEnded_foldl s result (sortBy ReadRecord.tag s.reads) h
  refine ⟨ended, List.eq_nil_iff_forall_not_mem.mpr fun x hx => ?_⟩
  obtain ⟨stood, others⟩ := (ended.reads x).mp hx
  exact others x ((mem_sortBy _ _ _).mpr stood) rfl

/-! ### The directive that holds the engine (R151) -/

/-- A request that is not an UNLOST request is answered last as it stands. -/
theorem answerRequests_append_last (refused : Bool) (voided : List SlotId) (l : List Request) (r : Request)
    (hr : ∀ i, r.isUnlostOf i = false) : answerRequests refused voided (l ++ [r]) s
      = (answerRequests refused voided l s).requestNotPersisted refused r := by
  induction l generalizing voided s with
  | nil => simp [answerRequests, hr]
  | cons x l ih => exact ih _ _

theorem State.holderFailed.keeps {s t : State} {tag : Nat} (h : s.holderFailed tag) (k : s.Keeps t) :
    t.holderFailed tag :=
  ⟨k.free h.1, k.responses.subset h.2.1, fun left => h.2.2 (k.tags _ left)⟩

/-- A RANGE_APPLY that holds the engine is answered FAILED, once. -/
theorem directiveFailed_holder (tag : Nat) (h : s.engine.current = .rangeApply tag ∨ s.holderFailed tag) :
    s.directiveFailed.holderFailed tag := by
  rcases h with h | h
  · rw [State.directiveFailed, h]
    exact ⟨rfl, by simp [State.answerDirective, State.respond, State.push],
      by simp [State.answerDirective, State.respond]⟩
  · rw [State.directiveFailed, h.1]; exact h

/-- The state in which the requests of a directive that holds the engine are answered. -/
def State.holderTaken (s : State) : State := { s with
  writer := { s.writer with list := s.writer.list.filter (fun r => !r.holdsEngine) },
  remap := { s.remap with held := s.remap.held.filter (fun r => !r.holdsEngine) },
  region := { s.region with held := none } }

theorem follows_holderTaken : s.Follows s.holderTaken :=
  { State.Follows.refl s with
    bare := fun ⟨list, program, compaction⟩ => ⟨by simp [State.holderTaken, list], program, compaction⟩ }

theorem keeps_answerHolder : s.holderTaken.Keeps s.answerHolder := keeps_answerRequests _ _ _ _

/-- The request that a RANGE_APPLY holds for room is answered, and the directive FAILED. -/
theorem answerHolder_holder (tag : Nat) (change : RegionChange)
    (h : s.engine.current = .rangeApply tag ∨ s.holderFailed tag)
    (hh : s.region.held = some { kind := .region change, taken := 0, void := false }) :
    s.answerHolder.holderFailed tag := by
  let l := (s.writer.list ++ s.remap.held).filter Request.holdsEngine
  have answers : s.answerHolder = (answerRequests true [] l s.holderTaken).directiveFailed := by
    rw [State.answerHolder, hh]
    exact (answerRequests_append_last _ true [] l _ fun i => by simp [Request.isUnlostOf]).trans rfl
  have before : s.holderTaken.Keeps (answerRequests true [] l s.holderTaken) := keeps_answerRequests _ _ _ _
  rw [answers]
  refine directiveFailed_holder _ tag (h.elim (fun holds => before.holder tag holds) fun failed => .inr ?_)
  exact State.holderFailed.keeps (s := s.holderTaken) failed before

/-! ### The entry to FAULTED (R66, R79, R105, R163) -/

/-- What a bridge is once it has entered FAULTED from another state, with the reads it has ended and the packets it has
sent before them and behind them. -/
structure State.FaultEntry (s : State) (reason : FaultReason) (t : State) (ended : List ReadRecord)
    (before later : List Packet) : Prop where
  inFault : t.inFault reason = true
  kept : s.keptInFault t = true
  calm : t.control.drain = none ∧ t.control.startup = none
  now : t.now = s.now
  bare : t.writer.bare
  perm : ended.Perm s.reads
  ordered : ended.Pairwise (fun x y => x.tag ≤ y.tag)
  responses : t.link.responses
    = s.link.responses ++ before ++ ended.map (fun r => .readData r.tag .halted []) ++ later
  tags : ∀ r ∈ s.reads, r.tag ∉ t.link.tags
  holder : ∀ tag change, s.engine.current = .rangeApply tag →
    s.region.held = some { kind := .region change, taken := 0, void := false } →
    t.holderFailed tag ∧ t.region.held = none
  pins : directoryLawful s.absorb.directory = true →
    ∀ page, t.pinCount page = s.pinCount page - (s.reads.filter (fun r => r.page == page)).length
  left : s.control.state = .running → s.LeftRunning t

theorem enterFaulted_entry (reason : FaultReason) :
    ∃ ended before later, s.FaultEntry reason (s.enterFaulted reason) ended before later := by
  let f : State := { s.faultBanks with control := s.control.faulted reason }
  let l := if s.control.state = .running then f.leaveRunning else f
  let e := l.endRecords .halted
  let w := e.stopWriter
  let t := w.answerHolder
  obtain ⟨banks, hbanks⟩ := faultBanks_eq s
  have hf : f = { s with
      sched := { banks := banks, pendingMeta := none }, control := s.control.faulted reason } := by
    simp only [f, hbanks]
  have faults : s.Follows f := by
    rw [hf]; exact { State.Follows.refl s with }
  have fAll : f.allFaulted := faultBanks_allFaulted s
  have leaves : f.Keeps l := by
    simp only [l]
    split
    · exact keeps_leaveRunning f
    · exact State.Keeps.refl f
  obtain ⟨lAll, lSent⟩ := leaves.faulted fAll
  obtain ⟨ends, none⟩ := endRecords_ended l .halted lAll
  have stops : e.Keeps w := keeps_stopWriter e
  have answers : w.holderTaken.Keeps t := keeps_answerHolder w
  have afterEnd : e.Follows t := (stops.toFollows.trans (follows_holderTaken w)).trans answers.toFollows
  have afterLeave : l.Follows t := ends.since.trans afterEnd
  have since : s.Follows t := (faults.trans leaves.toFollows).trans afterLeave
  obtain ⟨wAll, wSent⟩ := stops.faulted ends.faulted
  obtain ⟨tAll, tSent⟩ := answers.faulted wAll
  have reads : l.reads = s.reads := leaves.reads.trans (by rw [hf])
  have outline : t.outline = f.outline := by
    have left : l.outline = f.outline := by simp only [l]; split <;> simp
    rw [show t.outline = w.outline from answerHolder_outline w, stopWriter_outline e, ends.outline, left]
  have standing : t.control.state = .faulted ∧ t.control.faultReason = reason ∧ t.control.drain = Option.none
      ∧ t.control.startup = Option.none ∧ t.now = s.now ∧ t.hostOut = s.hostOut ∧ t.geometry = s.geometry := by
    have o := outline
    rw [hf] at o
    simp only [State.outline, BridgeControl.faulted, Prod.mk.injEq, Option.isSome_none] at o
    obtain ⟨-, -, hout, hnow, hgeo, hstate, hreason, -, -, -, hdrain, hstart⟩ := o
    exact ⟨hstate, hreason, by simpa using hdrain, by simpa using hstart, hnow, hout, hgeo⟩
  obtain ⟨state, faultReason, drain, startup, now, hostOut, geometry⟩ := standing
  have sent : t.arrayOut = s.arrayOut :=
    tSent.trans (wSent.trans (ends.arrayOut.trans (lSent.trans (by rw [hf]))))
  have pending : t.sched.pendingMeta = Option.none :=
    answers.pendingMeta.trans (stops.pendingMeta.trans (ends.pendingMeta.trans (leaves.pendingMeta.trans (by rw [hf]))))
  have emptied : t.reads = [] := answers.reads.trans (stops.reads.trans none)
  obtain ⟨stopped, bare⟩ := stopWriter_writer e
  have halts := (follows_holderTaken w).trans answers.toFollows
  obtain ⟨before, hbefore⟩ := (faults.trans leaves.toFollows).responses
  obtain ⟨later, hlater⟩ := afterEnd.responses
  rw [show s.enterFaulted reason = t from rfl]
  refine ⟨sortBy ReadRecord.tag l.reads, before, later, {
    inFault := ?_, kept := ?_, calm := ⟨drain, startup⟩, now := now, bare := halts.bare bare
    perm := by rw [← reads]; exact sortBy_perm _ _
    ordered := sortBy_pairwise _ _
    responses := by rw [← hlater, ends.responses, ← hbefore]
    tags := fun r hr left => ends.tags r ((mem_sortBy _ _ _).mpr (by rw [reads]; exact hr)) (afterEnd.tags _ left)
    holder := fun tag change holds held => ?_, pins := fun lawful page => ?_, left := fun running => ?_ }⟩
  · simpa [State.inFault, state, faultReason, drain, startup, pending, emptied, halts.stopped stopped]
      using fun b _ => tAll b
  · simp [State.keptInFault, geometry, since.remapTable, since.regionTable, since.profile, sent, hostOut]
  · have current : f.engine.current = .rangeApply tag := by rw [hf]; exact holds
    have holder := (leaves.holder tag current).elim
      (fun same => stops.holder tag (ends.current.trans same))
      (fun failed => .inr (State.holderFailed.keeps (s := e)
        ⟨ends.current.trans failed.1, ends.since.responses.subset failed.2.1,
          fun stood => failed.2.2 (ends.since.tags _ stood)⟩ stops))
    have request : w.region.held = some { kind := .region change, taken := 0, void := false } :=
      stops.held.trans ((congrArg RegionUnit.held ends.region).trans (leaves.held.trans (by rw [hf]; exact held)))
    exact ⟨answerHolder_holder w tag change holder request, answers.held⟩
  · obtain ⟨fLawful, fPins⟩ := leaves.pins (by rw [hf]; exact lawful)
    obtain ⟨eLawful, ePins⟩ := ends.pins fLawful
    obtain ⟨wLawful, wPins⟩ := stops.pins eLawful
    obtain ⟨-, tPins⟩ := answers.pins wLawful
    have same : f.pinCount page = s.pinCount page := by rw [hf]; rfl
    rw [tPins, show w.holderTaken.pinCount page = w.pinCount page from rfl, wPins, ePins, fPins, same, reads]
    exact congrArg _ ((sortBy_perm ReadRecord.tag s.reads).filter _).length_eq
  · have left : l = f.leaveRunning := if_pos running
    have leftRunning : f.LeftRunning l := by rw [left]; exact leaveRunning_leftRunning f
    exact (leftRunning.since (faults.trans leaves.toFollows)).follows afterLeave

/-- Nothing is due of a bridge that has entered FAULTED. -/
theorem State.FaultEntry.settle {s t : State} {reason : FaultReason} {ended : List ReadRecord}
    {before later : List Packet} (h : s.FaultEntry reason t ended before later) : t.settle = t.judgeAlert :=
  settle_of_quiet t (quiet_of_calm t h.calm.1 h.calm.2)

/-! ### Reset timers (R165, R179) -/

/-- A reset timer that is due brings the clock to its deadline. -/
theorem resetTimerExpiry_due (b : BankId) (deadline : Nat) (hr : s.ready = true)
    (ht : (s.bank b).resetTimer = .running deadline) : exec (.resetTimerExpiry b) s
      = .next (({ s with now := max s.now deadline } : State).resetExpired b).settle := by
  rw [exec, execResetTimerExpiry, ht]
  exact congrArg Host.Outcome.next (act_true s _ (ready_released s hr))

/-- In stage 1 a bank that was not marked is marked absent. -/
theorem resetExpired_of_unmarked (b : BankId) (up : Startup) (hc : s.control.state = .starting)
    (hup : s.control.startup = some up) (hs : up.stage = .resetBanks) (hb : (s.bank b).presence = .unmarked) :
    s.resetExpired b = (s.setBank b ((s.bank b).marked .absent)).bankMarked := by
  rw [State.resetExpired, if_pos hc, State.bankAbsent, if_pos (by simp [awaitsMark_of_stage s up b hup hs, hb])]
  rfl

/-- A bank that was present and carries a start-up read makes the metadata corrupt (R165, R166). -/
theorem resetExpired_of_read (b : BankId) (hc : s.control.state = .starting)
    (hup : s.control.startup.isSome = true) (hb : (s.bank b).presence = .present)
    (hp : (s.bank b).program = .absent) (hr : (s.bank b).carriesRead = true) :
    s.resetExpired b = (s.setBank b { (s.bank b).unmarked with
      monitor := .idle, resetTimer := .stopped, awaited := [], presence := .absent }).enterFaulted
        .metadataCorrupt := by
  have stands : s.awaitsMark b = false := by simp [State.awaitsMark, hb]
  obtain ⟨up, hup⟩ := Option.isSome_iff_exists.mp hup
  let v := s.setBank b { (s.bank b).unmarked with
    monitor := .idle, resetTimer := .stopped, awaited := [], presence := .absent }
  have fails : v.startupReadFailed = v.enterFaulted .metadataCorrupt := by
    have stage : v.stage? = some up.stage := by simp [v, State.stage?, State.setBank, hup]
    rw [State.startupReadFailed, stage]
  rw [State.resetExpired, if_pos hc, State.bankAbsent, if_neg (by simp [stands]), State.failCarried, if_pos hr, hp]
  exact fails

end

end Sys2Proof.Machine

namespace Sys2Proof

open Machine

/-- Settles O33. -/
theorem resetTimeoutMarksAbsentOrFaults : Obligations.ResetTimeoutMarksAbsentOrFaults := by
  intro s b deadline hr ht
  let u : State := { s with now := max s.now deadline }
  let marked := u.setBank b ((s.bank b).marked .absent)
  have due := resetTimerExpiry_due s b deadline hr ht
  refine ⟨fun up c hc hup hs hb hprog hcb hun => ?_, fun hc hd hup hb hall => ?_,
    fun hc hup hb hprog hread => ?_, fun hc => ?_⟩
  · have expires := resetExpired_of_unmarked u b up hc hup hs hb
    have waits : marked.bankMarked = marked :=
      bankMarked_of_unmarked marked up c hup hs (by rw [bank_setBank_ne u b c _ (Ne.symm hcb)]; exact hun)
    rw [due]
    exact congrArg Host.Outcome.next ((congrArg State.settle (expires.trans waits)).trans
      (settle_of_quiet marked (quiet_marked u b .absent (ready_quiet s hr))))
  · have expires := resetExpired_of_unmarked u b _ hc hup rfl hb
    have last := bankMarked_of_last marked hup fun c => by
      by_cases e : b = c
      · subst e; rw [bank_setBank]; simp [Bank.marked]
      · rw [bank_setBank_ne u b c _ e]; exact hall c (Ne.symm e)
    rw [due]
    refine congrArg Host.Outcome.next ((congrArg State.settle (expires.trans last)).trans
      ((settle_of_quiet _ ?_).trans rfl))
    exact quiet_of_identify _ false hd rfl
  · have carries : (s.bank b).carriesRead = true := by
      rcases hread with hread | hread <;> simp [Bank.carriesRead, hread]
    have expires := resetExpired_of_read u b hc hup hb hprog carries
    let v := u.setBank b { (s.bank b).unmarked with
      monitor := .idle, resetTimer := .stopped, awaited := [], presence := .absent }
    obtain ⟨ended, before, later, entry⟩ := enterFaulted_entry v .metadataCorrupt
    rw [show u.resetExpired b = v.enterFaulted .metadataCorrupt from expires] at due
    generalize v.enterFaulted .metadataCorrupt = t at due entry
    rw [entry.settle] at due
    exact ⟨_, due, entry.inFault, entry.kept, entry.now⟩
  · have expires : u.resetExpired b = u.enterFaulted .arrayUnresponsive := if_neg hc
    obtain ⟨ended, before, later, entry⟩ := enterFaulted_entry u .arrayUnresponsive
    rw [show State.resetExpired _ b = u.enterFaulted .arrayUnresponsive from expires] at due
    generalize u.enterFaulted .arrayUnresponsive = t at due entry
    rw [entry.settle] at due
    obtain ⟨list, program, compaction⟩ := entry.bare
    refine ⟨_, ended, before, later, due, entry.inFault, entry.kept, entry.now, list, program, compaction, entry.perm, entry.ordered, entry.responses,
      entry.tags, fun tag change holds held => ?_, entry.pins, fun running => ?_⟩
    · obtain ⟨⟨current, answered, left⟩, emptied⟩ := entry.holder tag change holds held
      exact ⟨answered, left, current, emptied⟩
    · have left := entry.left running
      exact ⟨left.closed, left.staging, left.abandoned, left.walker, left.head, left.noticed, left.halted⟩

end Sys2Proof
end

/-! ## The bounds of the lanes, the incidents, the latched set and the directory -/

section
/-!
SUPPORT. Every operation keeps the bounds, in the order of the blocks: from the Bank Scheduler to the commands.
-/

namespace Sys2Proof.Machine

/-! ### The relation -/

/-- A state within its bounds leads to one within its bounds. -/
def State.Bounds (s t : State) : Prop := s.bounded = true → t.bounded = true

theorem State.Follows.bounds {s t : State} (h : s.Follows t) : s.Bounds t := h.bounded

theorem State.Keeps.bounds {s t : State} (h : s.Keeps t) : s.Bounds t := h.bounded

namespace State.Bounds

theorem refl (s : State) : s.Bounds s := id

theorem trans {s t u : State} (h : s.Bounds t) (k : t.Bounds u) : s.Bounds u := k ∘ h

theorem foldl {α : Type} (f : State → α → State) (h : ∀ (t : State) (a : α), t.Bounds (f t a)) (l : List α)
    (s : State) : s.Bounds (l.foldl f s) := by
  induction l generalizing s with
  | nil => exact refl s
  | cons a l ih => exact (h s a).trans (ih (f s a))

/-- A change of none of the five parts that the bounds are told by. -/
theorem of_same {s : State} (t : State) (hd : t.absorb.directory = s.absorb.directory)
    (hm : t.link.memLane = s.link.memLane) (hn : t.link.dirLane = s.link.dirLane)
    (hi : t.engine.incidents = s.engine.incidents) (hl : t.engine.latched = s.engine.latched) : s.Bounds t :=
  fun h => State.bounded_of_same s t h hd hm hn hi hl

/-- A choice between two operations that keep the bounds. -/
theorem ite {s t u : State} (c : Prop) [Decidable c] (h : s.Bounds t) (k : s.Bounds u) :
    s.Bounds (if c then t else u) := by
  split
  · exact h
  · exact k

end State.Bounds

section
variable (s : State)

/-! ### The Bank Scheduler -/

theorem bounds_setBank (b : BankId) (x : Bank) : s.Bounds (s.setBank b x) := (follows_setBank s b x).bounds

theorem bounds_setSlot (i : SlotId) (x : Slot) : s.Bounds (s.setSlot i x) := .of_same _ rfl rfl rfl rfl rfl

theorem bounds_emit (c : ArrayCommand) : s.Bounds (s.emit c) := (follows_emit s c).bounds

theorem bounds_control (c : BridgeControl) : s.Bounds { s with control := c } := (keeps_control s c).bounds

theorem bounds_tracker (x : EpochTracker) : s.Bounds { s with tracker := x } := (keeps_tracker s x).bounds

theorem bounds_writer (x : Writer) : s.Bounds { s with writer := x } := .of_same _ rfl rfl rfl rfl rfl

theorem bounds_remap (x : RemapUnit) : s.Bounds { s with remap := x } := .of_same _ rfl rfl rfl rfl rfl

theorem bounds_region (x : RegionUnit) : s.Bounds { s with region := x } := .of_same _ rfl rfl rfl rfl rfl

theorem bounds_setPendingMeta (p : Option PendingMeta) : s.Bounds (s.setPendingMeta p) :=
  (follows_setPendingMeta s p).bounds

theorem bounds_arbitrate (b : BankId) : s.Bounds (s.arbitrate b) := (keeps_arbitrate s b).bounds

theorem bounds_sendReset (b : BankId) : s.Bounds (s.sendReset b) := (bounds_setBank s b _).trans (bounds_emit _ _)

theorem bounds_resume (b : BankId) : s.Bounds (s.resume b) := by
  rw [State.resume]
  split
  · exact (((bounds_setSlot s _ _).trans (bounds_setBank _ _ _)).trans (bounds_emit _ _)).trans
      (keeps_suspendDecision _ _).bounds
  · exact .refl s

theorem bounds_issueRead (b : BankId) : s.Bounds (s.issueRead b) := by
  rw [State.issueRead]
  split
  · exact .refl s
  · exact ((bounds_setBank s b _).trans (bounds_setBank _ b _)).trans (bounds_emit _ _)

theorem bounds_serveSuspended (b : BankId) : s.Bounds (s.serveSuspended b) :=
  .ite _ (bounds_issueRead s b) (bounds_resume s b)

theorem bounds_afterRead (b : BankId) : s.Bounds (s.afterRead b) :=
  .ite _ ((bounds_setBank s b _).trans (bounds_arbitrate _ b))
    (.ite _ ((bounds_setBank s b _).trans (bounds_serveSuspended _ b)) (.refl s))

/-! ### The Absorb Buffer -/

theorem bounds_closeSlot (i : SlotId) : s.Bounds (s.closeSlot i) := (keeps_closeSlot s i).bounds

theorem bounds_lowWaterClosure : s.Bounds s.lowWaterClosure :=
  .ite _ (State.Bounds.foldl State.closeSlot bounds_closeSlot _ s) (.refl s)

theorem bounds_mergeInto (i : SlotId) (offset : Nat) (data : List Byte) : s.Bounds (s.mergeInto i offset data) :=
  .ite _ (.ite _ ((bounds_setSlot s i _).trans (bounds_closeSlot _ i)) (bounds_setSlot s i _)) (bounds_setSlot s i _)

theorem bounds_changeDir (page : Nat) (f : DirEntry → DirEntry) (hf : ∀ e, (f e).page = e.page) :
    s.Bounds (s.changeDir page f) := (follows_changeDir s page f hf).bounds

theorem bounds_placeSlot (i : SlotId) (x : Slot) : s.Bounds (s.placeSlot i x) := by
  have opened : s.Bounds { s with absorb := { s.absorb with opened := s.absorb.opened + 1 } } :=
    .of_same _ rfl rfl rfl rfl rfl
  have joins (t : State) : t.Bounds (t.changeDir x.page (fun e => { e with slots := e.slots ++ [i] })) :=
    bounds_changeDir t x.page _ fun _ => rfl
  exact ((opened.trans (bounds_setSlot _ i x)).trans (joins _)).trans (bounds_tracker _ _)

theorem bounds_openSlot (i : SlotId) (page offset : Nat) (data : List Byte) (origin : Origin) :
    s.Bounds (s.openSlot i page offset data origin) :=
  .ite _ (((bounds_placeSlot s i _).trans (bounds_closeSlot _ i)).trans (bounds_lowWaterClosure _))
    ((bounds_placeSlot s i _).trans (bounds_lowWaterClosure _))

theorem bounds_absorbWrite (page offset : Nat) (data : List Byte) (origin : Origin) :
    s.Bounds (s.absorbWrite page offset data origin) := by
  rw [State.absorbWrite]
  split
  · exact bounds_mergeInto s _ offset data
  · split
    · exact bounds_openSlot s _ page offset data origin
    · exact .refl s

theorem bounds_takeFence (notify : Bool) (respond : Nat → State → State)
    (h : ∀ fence (t : State), t.Bounds (respond fence t)) : s.Bounds (s.takeFence notify respond) :=
  (((bounds_tracker s _).trans (keeps_closeInAgeOrder _ _).bounds).trans (h _ _)).trans (keeps_judgeRemoval _).bounds

theorem bounds_freeReported (i : SlotId) : s.Bounds (s.freeReported i) := (keeps_freeReported s i).bounds

/-! ### The links -/

theorem bounds_push (p : Packet) : s.Bounds (s.push p) := (keeps_push s p).bounds

theorem bounds_respond (tag : Nat) (p : Packet) : s.Bounds (s.respond tag p) := (keeps_respond s tag p).bounds

theorem bounds_latch (c : Condition) (h : c.bit ≤ 10) : s.Bounds (s.latch c) := (keeps_latch s c h).bounds

theorem bounds_raise (x : Incident) : s.Bounds (s.raise x) := (keeps_raise s x).bounds

theorem bounds_answerDirective (tag : Nat) (result : Result) (payload : List Byte) :
    s.Bounds (s.answerDirective tag result payload) := .of_same _ rfl rfl rfl rfl rfl

theorem bounds_returnCredit (lane : Lane) : s.Bounds (s.returnCredit lane) := by
  cases lane <;> exact .of_same _ rfl rfl rfl rfl rfl

theorem bounds_fullGrants : s.Bounds s.fullGrants := .of_same _ rfl rfl rfl rfl rfl

theorem bounds_examineTag (lane : Lane) (tag : Nat) (proceed : State → State)
    (h : ∀ t : State, t.Bounds (proceed t)) : s.Bounds (s.examineTag lane tag proceed) := by
  have tagged : s.Bounds { s with link := { s.link with tags := insertNat tag s.link.tags } } :=
    .of_same _ rfl rfl rfl rfl rfl
  exact .ite _ ((bounds_latch s .tagClash (by decide)).trans (bounds_raise _ _)) (tagged.trans (h _))

/-! ### The Read Path -/

theorem bounds_makeRecord (tag page first length : Nat) (data : List (Option Byte)) :
    s.Bounds (s.makeRecord tag page first length data) := by
  have pins (t : State) : t.Bounds (t.pin page) := bounds_changeDir t page _ fun _ => rfl
  have records (x : ReadRecord) : s.Bounds { s with reads := s.reads ++ [x] } := .of_same _ rfl rfl rfl rfl rfl
  exact ((records _).trans (pins _)).trans (keeps_joinRead _ _ _).bounds

theorem bounds_answerRead (tag : Nat) (result : Result) : s.Bounds (s.answerRead tag result) := bounds_respond s tag _

theorem bounds_bindRead (r : ReadRequest) : s.Bounds (s.bindRead r) :=
  .ite _ (bounds_respond s _ _) (.ite _ (bounds_answerRead s _ _) (bounds_makeRecord s _ _ _ _ _))

theorem bounds_judgeRead (r : ReadRequest) : s.Bounds (s.judgeRead r) :=
  .ite _ (bounds_answerRead s _ _) (.ite _ (bounds_answerRead s _ _) (.ite _ (bounds_answerRead s _ _)
    (.ite _ (bounds_answerRead s _ _) (.ite _ (bounds_answerRead s _ _) (bounds_bindRead s r)))))

theorem bounds_dropRecord (r : ReadRecord) : s.Bounds (s.dropRecord r) := (follows_dropRecord s r).bounds

theorem bounds_readComplete (tag : Nat) (page : List Byte) : s.Bounds (s.readComplete tag page) := by
  rw [State.readComplete]
  split
  · exact (bounds_respond s _ _).trans (bounds_dropRecord _ _)
  · exact .refl s

theorem bounds_endRecord (r : ReadRecord) (result : Result) : s.Bounds ((s.answerRead r.tag result).dropRecord r) :=
  (bounds_answerRead s r.tag result).trans (bounds_dropRecord _ r)

theorem bounds_endRecords (result : Result) : s.Bounds (s.endRecords result) :=
  State.Bounds.foldl _ (fun t r => bounds_endRecord t r result) _ s

/-! ### The Remap Unit -/

theorem bounds_strandSlot (i : SlotId) (spareOld : Option Nat) : s.Bounds (s.strandSlot i spareOld) :=
  (keeps_strandSlot s i spareOld).bounds

theorem bounds_retireFailed (b : BankId) (i : SlotId) : s.Bounds (s.retireFailed b i) := by
  rw [State.retireFailed]
  split
  · exact .refl s
  · exact .ite _ (.of_same _ rfl rfl rfl rfl rfl) (.refl s)

theorem bounds_handoff (b : BankId) (i : SlotId) : s.Bounds (s.handoff b i) := by
  have retires := bounds_retireFailed s b i
  rw [State.handoff]
  refine .ite _ (retires.trans (bounds_strandSlot _ i _)) ?_
  split
  · exact ((retires.trans (bounds_remap _ _)).trans (bounds_setSlot _ i _)).trans (bounds_setBank _ b _)
  · exact retires.trans (bounds_strandSlot _ i _)

theorem bounds_requestNotPersisted (refused : Bool) (r : Request) : s.Bounds (s.requestNotPersisted refused r) :=
  (keeps_requestNotPersisted s refused r).bounds

theorem bounds_answerRequests (refused : Bool) (voided : List SlotId) (requests : List Request) :
    s.Bounds (answerRequests refused voided requests s) := (keeps_answerRequests s refused voided requests).bounds

theorem bounds_joinRequest (r : Request) : s.Bounds (s.joinRequest r) :=
  .ite _ (bounds_requestNotPersisted s false r) (bounds_writer s _)

theorem bounds_handRequest (r : Request) : s.Bounds (s.handRequest r) :=
  .ite _ (bounds_remap s _) (bounds_joinRequest s r)

theorem bounds_handRetirement : s.Bounds s.handRetirement := (bounds_remap s _).trans (bounds_joinRequest _ _)

theorem bounds_handRetirements (n : Nat) : s.Bounds (State.handRetirements n s) := by
  induction n generalizing s with
  | zero => exact .refl s
  | succ n ih => exact .ite _ (.refl s) ((bounds_handRetirement s).trans (ih _))

theorem bounds_handOwn (kind : RequestKind) : s.Bounds (s.handOwn kind) :=
  (State.Bounds.ite (s.remap.held = []) (bounds_handRetirements s _) (.refl s)).trans (bounds_handRequest _ _)

theorem bounds_handHeld (r : Request) : s.Bounds (s.handHeld r) :=
  .ite _ ((bounds_remap s _).trans (bounds_joinRequest _ r)) (bounds_handRetirement s)

theorem bounds_recordOne (i : SlotId) (kind : RequestKind) : s.Bounds (s.recordOne i kind) :=
  .ite _ (.refl s) (.ite _ (bounds_requestNotPersisted s false _) (bounds_handOwn s kind))

theorem bounds_programmedOk (i : SlotId) : s.Bounds (s.programmedOk i) := by
  rw [State.programmedOk]
  split
  · exact bounds_freeReported s i
  · exact (bounds_setSlot s i _).trans (State.Bounds.foldl (State.recordOne i) (fun t => bounds_recordOne t i) _ _)

theorem bounds_applyMap (page : Nat) (b : BankId) (spare : Nat) (old : Option Nat) :
    s.Bounds (s.applyMap page b spare old) := by
  cases old <;> exact .of_same _ rfl rfl rfl rfl rfl

theorem bounds_mapPersisted (i : SlotId) (page bank spare : Nat) (old : Option Nat) :
    s.Bounds (s.mapPersisted i page bank spare old) := by
  have reported (x : Incident) := ((bounds_applyMap s page (Fin.ofNat 8 bank) spare old).trans
    (bounds_raise _ x)).trans (bounds_latch _ .remapped (by decide))
  exact .ite _ (.ite _ (reported _) ((reported _).trans (bounds_handOwn _ _)))
    ((reported _).trans (bounds_freeReported _ i))

theorem bounds_lostPersisted : s.Bounds s.lostPersisted := by
  rw [State.lostPersisted]
  split
  · exact (State.Bounds.ite _ ((bounds_remap s _).trans (keeps_freeSlot _ _).bounds) (bounds_handOwn s _)).trans
      (bounds_answerDirective _ _ _ _)
  · exact .refl s

theorem bounds_regionPersisted (c : RegionChange) : s.Bounds (s.regionPersisted c) := by
  rw [State.regionPersisted]
  split
  · exact (bounds_region s _).trans (bounds_answerDirective _ _ _ _)
  · exact .refl s

theorem bounds_requestPersisted (r : Request) : s.Bounds (s.requestPersisted r) := by
  refine .ite _ (.refl s) ?_
  split
  · exact bounds_mapPersisted s _ _ _ _ _
  · exact .refl s
  · exact (bounds_remap s _).trans (keeps_freeRecorded _ _ _).bounds
  · exact bounds_remap s _
  · exact bounds_lostPersisted s
  · exact bounds_regionPersisted s _
  · exact (keeps_noteOpenSession s true).bounds
  · exact bounds_control s _

/-! ### The Metadata Writer -/

theorem bounds_giveUp (page : Nat) : s.Bounds (s.giveUp page) := (keeps_giveUp s page).bounds

theorem bounds_handProgram : s.Bounds s.handProgram := by
  rw [State.handProgram]
  split
  · exact .refl s
  · exact .ite _ (bounds_giveUp s _) ((bounds_setPendingMeta s _).trans (bounds_arbitrate _ _))

theorem bounds_handImage (page : Nat) (image : List Record) : s.Bounds (s.handImage page image) :=
  (bounds_writer s _).trans (bounds_handProgram _)

theorem bounds_dropProgram (refused : Bool) : s.Bounds (s.dropProgram refused) :=
  (bounds_writer s _).trans (bounds_answerRequests _ _ _ _)

theorem bounds_listShutdown (r : Request) : s.Bounds (s.listShutdown r) :=
  ((bounds_writer s _).trans (bounds_answerRequests _ _ _ _)).trans (bounds_writer _ _)

theorem bounds_judgeEndListing : s.Bounds s.judgeEndListing := by
  rw [State.judgeEndListing]
  split
  · exact (bounds_control s _).trans (bounds_listShutdown _ _)
  · exact .refl s

theorem bounds_takeAppend : s.Bounds s.takeAppend :=
  .ite _ ((bounds_writer s _).trans (bounds_answerRequests _ _ _ _))
    (((bounds_writer s _).trans (bounds_answerRequests _ _ _ _)).trans (bounds_handProgram _))

theorem bounds_startAppend : s.Bounds s.startAppend :=
  (State.Bounds.ite _ (.refl s) (((bounds_writer s _).trans (bounds_answerRequests _ _ _ _)).trans
    (bounds_judgeEndListing _))).trans (bounds_takeAppend _)

theorem bounds_kick : s.Bounds s.kick := .ite _ (bounds_startAppend s) (.refl s)

theorem bounds_handShutdown (r : Request) : s.Bounds (s.handShutdown r) :=
  .ite _ (bounds_listShutdown s r) ((((bounds_listShutdown s r).trans (bounds_setPendingMeta _ _)).trans
    (bounds_dropProgram _ _)).trans (bounds_kick _))

theorem bounds_judgeEnd : s.Bounds s.judgeEnd := by
  rw [State.judgeEnd]
  split
  · exact (bounds_control s _).trans (bounds_handShutdown _ _)
  · exact .refl s

theorem bounds_beginCompaction (session : BitVec 32) (opensSession : Bool) :
    s.Bounds (s.beginCompaction session opensSession) := (bounds_writer s _).trans (bounds_handImage _ _ _)

theorem bounds_answerOpenSession : s.Bounds s.answerOpenSession := by
  rw [State.answerOpenSession]
  split
  · exact (bounds_writer s _).trans (bounds_requestPersisted _ _)
  · exact .refl s

theorem bounds_compactionDone (c : Compaction) : s.Bounds (s.compactionDone c) := by
  have switches : s.Bounds { s with
      writer := { s.writer with
        state := .idle, activeHalf := c.half, generation := c.generation, used := c.used,
        buffer := c.images.getD (c.used / 16) [], program := none, compaction := none },
      remap := { s.remap with
        unrecorded := s.remap.unrecorded.filter (fun x => !c.covered.contains x) } } :=
    .of_same _ rfl rfl rfl rfl rfl
  exact (State.Bounds.ite _ (switches.trans (bounds_answerOpenSession _)) switches).trans (bounds_kick _)

theorem bounds_compactionOk : s.Bounds s.compactionOk := by
  rw [State.compactionOk]
  split
  · exact .refl s
  · exact .ite _ (bounds_compactionDone s _) ((bounds_writer s _).trans (bounds_handImage _ _ _))

theorem bounds_abandonCompaction : s.Bounds s.abandonCompaction :=
  .ite _ (((State.Bounds.ite _ (bounds_writer s _) ((bounds_writer s _).trans (bounds_setPendingMeta _ _))).trans
    (bounds_judgeEnd _)).trans (bounds_kick _)) (bounds_judgeEnd s)

theorem bounds_beginFormat (all : Bool) : s.Bounds (s.beginFormat all) :=
  (bounds_writer s _).trans (bounds_handImage _ _ _)

theorem bounds_formatOk (page : Nat) : s.Bounds (s.formatOk page) :=
  .ite _ ((bounds_writer s _).trans (bounds_kick _)) (bounds_handImage s _ _)

theorem bounds_answerCarried (carried : List Carried) : s.Bounds (answerCarried carried s) := by
  induction carried generalizing s with
  | nil => exact .refl s
  | cons c rest ih =>
    exact (State.Bounds.ite _ (((bounds_writer s _).trans (bounds_requestPersisted _ _)).trans
      (bounds_judgeEndListing _)) (bounds_writer s _)).trans (ih _)

theorem bounds_appendOk (p : WriterProgram) : s.Bounds (s.appendOk p) := by
  have ended (x : Writer) :=
    ((bounds_writer s { s.writer with used := s.writer.used + p.records, buffer := p.image }).trans
      (bounds_answerCarried _ p.carried)).trans (bounds_writer _ x)
  exact .ite _ ((ended _).trans (bounds_beginCompaction _ _ _)) ((ended _).trans (bounds_kick _))

theorem bounds_metaOk (p : WriterProgram) : s.Bounds (s.metaOk p) := by
  rw [State.metaOk]
  cases s.writer.state with
  | appending => exact bounds_appendOk s p
  | compacting => exact bounds_compactionOk s
  | formatting => exact bounds_formatOk s p.page
  | unloaded => exact .refl s
  | idle => exact .refl s
  | stopped => exact .refl s

theorem bounds_metaFailed (p : WriterProgram) : s.Bounds (s.metaFailed p) :=
  .ite _ ((bounds_dropProgram s _).trans (bounds_kick _)) (.ite _ (bounds_giveUp s _)
    (.ite _ (bounds_dropProgram s _) ((bounds_writer s _).trans (bounds_handProgram _))))

theorem bounds_writerOutcome (ok : Bool) : s.Bounds (s.writerOutcome ok) := by
  have cleared := bounds_setPendingMeta s none
  rw [State.writerOutcome]
  split
  · exact cleared.trans (bounds_kick _)
  · exact .ite _ (cleared.trans (bounds_metaOk _ _)) (cleared.trans (bounds_metaFailed _ _))

/-! ### Bridge Control -/

theorem bounds_leaveRunning : s.Bounds s.leaveRunning := (keeps_leaveRunning s).bounds

theorem bounds_arbitrateAll : s.Bounds s.arbitrateAll := (keeps_arbitrateAll s).bounds

theorem bounds_metadataOutcome (ok : Bool) : s.Bounds (s.metadataOutcome ok) :=
  (bounds_writerOutcome s ok).trans (.ite _ (((bounds_control _ _).trans (bounds_leaveRunning _)).trans
    (bounds_arbitrateAll _)) (.refl _))

theorem bounds_answerHolder : s.Bounds s.answerHolder :=
  (follows_holderTaken s).bounds.trans (keeps_answerHolder s).bounds

theorem bounds_enterDormant : s.Bounds s.enterDormant := (bounds_control s _).trans (bounds_arbitrateAll _)

theorem bounds_faultBanks : s.Bounds s.faultBanks := by
  obtain ⟨banks, hb⟩ := faultBanks_eq s
  rw [hb]; exact .of_same _ rfl rfl rfl rfl rfl

theorem bounds_enterFaulted (reason : FaultReason) : s.Bounds (s.enterFaulted reason) := by
  have faulted := (bounds_faultBanks s).trans (bounds_control _ (s.control.faulted reason))
  exact (((State.Bounds.ite _ (faulted.trans (bounds_leaveRunning _)) faulted).trans (bounds_endRecords _ _)).trans
    (keeps_stopWriter _).bounds).trans (bounds_answerHolder _)

end

end Sys2Proof.Machine
end

/-! ## The bounds through every command -/

section
/-!
SUPPORT. Start-up, drains, completions, directives, writes, scrubs, timers and lines keep the bounds, and the statement
about every step.
-/

namespace Sys2Proof.Machine

section
variable (s : State)

/-! ### Start-up -/

theorem bounds_setStage (stage : Stage) : s.Bounds (s.setStage stage) := bounds_control s _

theorem bounds_endStage (next : State → State) (h : s.Bounds (next s)) : s.Bounds (s.endStage next) := by
  rw [State.endStage]
  split
  · exact .ite _ (bounds_enterDormant s) h
  · exact .refl s

/-- An empty page directory is in order (R5). -/
theorem bounds_emptied (t : State) (hd : t.absorb.directory = []) (hm : t.link.memLane = s.link.memLane)
    (hn : t.link.dirLane = s.link.dirLane) (hi : t.engine.incidents = s.engine.incidents)
    (hl : t.engine.latched = s.engine.latched) : s.Bounds t := fun h => by
  obtain ⟨-, hmem, hlane, hinc, hlat⟩ := (State.bounded_iff s).mp h
  exact (State.bounded_iff t).mpr ⟨by rw [hd]; rfl, by rwa [hm], by rwa [hn], by rwa [hi], by rwa [hl]⟩

theorem bounds_enterRunning : s.Bounds s.enterRunning := by
  let running : State := { s with
    absorb := AbsorbBuffer.afterReset,
    tracker := EpochTracker.afterReset,
    region := { s.region with staging := .empty, walker := none },
    control := { s.control with state := .running, startup := none } }
  have enters : s.Bounds running := bounds_emptied s running rfl rfl rfl rfl rfl
  exact .ite _ (enters.trans (bounds_beginCompaction _ _ _)) enters

theorem bounds_beginOpenSession : s.Bounds s.beginOpenSession := by
  have hands := (bounds_setStage s (.openSession none)).trans
    (bounds_joinRequest _ (Request.of (.openSession (nextSession s.control.session))))
  exact .ite _ (hands.trans (bounds_beginCompaction _ _ _)) (hands.trans (bounds_kick _))

theorem bounds_takeOpenSession : s.Bounds s.takeOpenSession := by
  rw [State.takeOpenSession]
  split
  · exact (bounds_control s _).trans (bounds_endStage _ _ (bounds_enterRunning _))
  · exact bounds_enterFaulted s _
  · exact .refl s

theorem bounds_deriveFree (g : Geometry) : s.Bounds (s.deriveFree g) :=
  (State.Bounds.foldl _ (fun t _ => bounds_remap t _) s.banksInUse s).trans (bounds_remap _ _)

theorem bounds_addRetired (b : BankId) (spare : Nat) : s.Bounds (s.addRetired b spare) := bounds_remap s _

theorem bounds_loadReplay (g : Geometry) (r : Replay) : s.Bounds (s.loadReplay g r) := by
  have loads (x : RemapUnit) (y : RegionUnit) (z : Writer) (w : BridgeControl) :
      s.Bounds { s with remap := x, region := y, writer := z, control := w } := .of_same _ rfl rfl rfl rfl rfl
  have retires (t : State) : t.Bounds (r.retired.foldl (fun t x => t.addRetired (Fin.ofNat 8 x.1) x.2) t) :=
    State.Bounds.foldl _ (fun t x => bounds_addRetired t _ _) r.retired t
  rw [State.loadReplay]
  exact ((loads _ _ _ _).trans (retires _)).trans (bounds_deriveFree _ g)

theorem bounds_startupRead (page : Nat) : s.Bounds (s.startupRead page) := (keeps_joinRead s _ _).bounds

theorem bounds_beginReplay (half generation : Nat) : s.Bounds (s.beginReplay half generation) :=
  (bounds_setStage s _).trans (bounds_startupRead _ _)

theorem bounds_replayPage (built : Replay) (page : Nat) (records : List Record) :
    s.Bounds (s.replayPage built page records) := by
  rw [State.replayPage]
  split
  · exact .refl s
  · split
    · exact bounds_enterFaulted s _
    · exact (bounds_loadReplay s _ _).trans (bounds_endStage _ _ (bounds_beginOpenSession _))
    · exact (bounds_setStage s _).trans (bounds_startupRead _ _)

theorem bounds_readRemaining (remaining : List Nat) (zero : Bool) : s.Bounds (s.readRemaining remaining zero) := by
  cases remaining with
  | cons page rest => exact (bounds_setStage s _).trans (bounds_startupRead _ _)
  | nil => exact .ite _ ((bounds_setStage s _).trans (bounds_beginFormat _ _)) (bounds_enterFaulted s _)

theorem bounds_replays (half generation : Nat) :
    s.Bounds (s.endStage (fun t => t.beginReplay half generation)) :=
  bounds_endStage s _ (bounds_beginReplay s half generation)

theorem bounds_chooseHalf (half0 half1 : HalfScan) : s.Bounds (s.chooseHalf half0 half1) := by
  rw [State.chooseHalf]
  split
  · exact .ite _ (bounds_enterFaulted s _) (.ite _ (bounds_replays s _ _) (bounds_replays s _ _))
  · exact bounds_replays s _ _
  · exact bounds_replays s _ _
  · exact bounds_readRemaining s _ _

theorem bounds_scanned (half0 half1 : HalfScan) (page : Nat) (done : Bool) :
    s.Bounds (s.scanned half0 half1 page done) := by
  have staged := bounds_setStage s (.choose half0 half1)
  exact .ite _ (staged.trans (bounds_chooseHalf _ _ _)) (.ite _ staged (staged.trans (bounds_startupRead _ _)))

theorem bounds_beginChoice : s.Bounds s.beginChoice :=
  ((bounds_setStage s _).trans (bounds_startupRead _ _)).trans (bounds_startupRead _ _)

theorem bounds_startupPage (page : Nat) (data : PageData) : s.Bounds (s.startupPage page data) := by
  rw [State.startupPage]
  split
  · exact .ite _ (bounds_scanned s _ _ _ _) (bounds_scanned s _ _ _ _)
  · exact bounds_readRemaining s _ _
  · exact bounds_replayPage s _ _ _
  · exact .refl s

theorem bounds_startupReadFailed : s.Bounds s.startupReadFailed := by
  rw [State.startupReadFailed]
  split
  · exact bounds_enterFaulted s _
  · exact .refl s

theorem bounds_startReset (b : BankId) : s.Bounds (s.startReset b) :=
  .ite _ (bounds_setBank s b _) ((bounds_setBank s b _).trans (bounds_sendReset _ b))

theorem bounds_beginStartup (stopAsked : Bool) : s.Bounds (s.beginStartup stopAsked) :=
  (bounds_control s _).trans (State.Bounds.foldl State.startReset bounds_startReset allBanks _)

theorem bounds_beginIdentify : s.Bounds s.beginIdentify :=
  ((bounds_setStage s _).trans (bounds_control _ _)).trans (bounds_emit _ _)

theorem bounds_bankMarked : s.Bounds s.bankMarked := by
  rw [State.bankMarked]
  split
  · exact .ite _ (bounds_endStage s _ (bounds_beginIdentify s)) (.refl s)
  · exact .ite _ ((bounds_setStage s _).trans (bounds_beginFormat _ _)) (.refl s)
  · exact .refl s

theorem bounds_takeIdentify (bankCount exponent spares version : Nat) :
    s.Bounds (s.takeIdentify bankCount exponent spares version) := by
  have stopped := bounds_control s { s.control with identifyTimer := .stopped }
  have known (t : State) (g : Option Geometry) : t.Bounds { t with geometry := g } := .of_same _ rfl rfl rfl rfl rfl
  exact .ite _ ((stopped.trans (known _ _)).trans (bounds_endStage _ _ (bounds_beginChoice _)))
    (stopped.trans (bounds_enterFaulted _ _))

theorem bounds_takeReformat : s.Bounds s.takeReformat := by
  rw [State.takeReformat]
  split
  · exact ((bounds_control s _).trans (bounds_deriveFree _ _)).trans (bounds_endStage _ _ (bounds_beginOpenSession _))
  · exact bounds_enterFaulted s _

theorem bounds_takeFormat : s.Bounds s.takeFormat := by
  rw [State.takeFormat]
  split
  · exact bounds_replays s _ _
  · exact bounds_enterFaulted s _
  · exact bounds_takeReformat s
  · exact bounds_enterFaulted s _
  · exact .refl s

theorem bounds_advanceStartup : s.Bounds s.advanceStartup := (bounds_takeFormat s).trans (bounds_takeOpenSession _)

theorem bounds_emptyForReplay : s.Bounds s.emptyForReplay := bounds_emptied s _ rfl rfl rfl rfl rfl

theorem bounds_beginReformat : s.Bounds s.beginReformat :=
  ((bounds_emptyForReplay s).trans (bounds_control _ _)).trans
    (State.Bounds.foldl State.startReset bounds_startReset _ _)

/-! ### Drains -/

theorem bounds_beginDrain (kind : DrainKind) : s.Bounds (s.beginDrain kind) :=
  (((bounds_control s _).trans (bounds_leaveRunning _)).trans (bounds_abandonCompaction _)).trans
    (bounds_arbitrateAll _)

theorem bounds_answerMemStarting (r : MemRequest) : s.Bounds (s.answerMemStarting r) := by
  cases r with
  | read r => exact bounds_examineTag s _ _ _ fun t => bounds_answerRead t _ _
  | write w => exact bounds_examineTag s _ _ _ fun t => bounds_respond t _ _

theorem bounds_answerDirStarting (d : DirRequest) : s.Bounds (s.answerDirStarting d) :=
  bounds_examineTag s _ _ _ fun t => bounds_respond t _ _

/-- Lanes that have been emptied are within their sizes. -/
theorem bounds_lanesShorter (t : State) (hd : t.absorb.directory = s.absorb.directory)
    (hm : t.link.memLane.length ≤ s.link.memLane.length) (hn : t.link.dirLane.length ≤ s.link.dirLane.length)
    (hi : t.engine.incidents = s.engine.incidents) (hl : t.engine.latched = s.engine.latched) : s.Bounds t :=
  fun h => by
  obtain ⟨hdir, hmem, hlane, hinc, hlat⟩ := (State.bounded_iff s).mp h
  exact (State.bounded_iff t).mpr ⟨by rwa [hd], by omega, by omega, by rwa [hi], by rwa [hl]⟩

theorem bounds_answerLanes : s.Bounds s.answerLanes := by
  have empties : s.Bounds { s with link := { s.link with memLane := [], dirLane := [] } } :=
    bounds_lanesShorter s _ rfl (Nat.zero_le _) (Nat.zero_le _) rfl rfl
  exact ((empties.trans (State.Bounds.foldl State.answerMemStarting bounds_answerMemStarting _ _)).trans
    (State.Bounds.foldl State.answerDirStarting bounds_answerDirStarting _ _)).trans (bounds_fullGrants _)

theorem bounds_unloadWriter : s.Bounds s.unloadWriter := by
  have releases (t : State) : t.Bounds { t with
      remap := { t.remap with held := [] }, region := { t.region with held := none } } :=
    .of_same _ rfl rfl rfl rfl rfl
  exact (((bounds_setPendingMeta s none).trans (bounds_writer _ _)).trans (releases _)).trans
    (bounds_answerRequests _ _ _ _)

theorem bounds_restartStartup : s.Bounds s.restartStartup :=
  (((((bounds_control s _).trans (bounds_endRecords _ _)).trans (bounds_answerLanes _)).trans
    (bounds_unloadWriter _)).trans (bounds_emptyForReplay _)).trans (bounds_beginStartup _ _)

theorem bounds_endDrain (d : Drain) : s.Bounds (s.endDrain d) := by
  rw [State.endDrain]
  cases d.kind with
  | power => exact (bounds_enterDormant s).trans (bounds_answerHolder _)
  | restart => exact bounds_restartStartup s

theorem bounds_judgeDrain : s.Bounds s.judgeDrain := by
  have judged := bounds_judgeEnd s
  simp only [State.judgeDrain]
  split
  · exact judged
  · split
    · exact judged.trans (bounds_endDrain _ _)
    · exact judged
    · exact .ite _ (judged.trans (bounds_endDrain _ _)) judged

theorem bounds_judgeAlert : s.Bounds s.judgeAlert := .of_same _ rfl rfl rfl rfl rfl

theorem bounds_settle : s.Bounds s.settle :=
  ((bounds_judgeDrain s).trans (bounds_advanceStartup _)).trans (bounds_judgeAlert _)

theorem bounds_act (occasion : Bool) (t : State) (h : s.Bounds t) : s.Bounds (s.act occasion t) :=
  .ite _ (h.trans (bounds_settle t)) (.refl s)

/-! ### Completions of the array -/

theorem bounds_clearRead (b : BankId) : s.Bounds (s.clearRead b) := bounds_setBank s b _

theorem bounds_jobComplete (job : ReadJob) (data : PageData) : s.Bounds (s.jobComplete job data) := by
  rw [State.jobComplete]
  split
  · exact (keeps_fillComplete s _ _).bounds
  · exact bounds_readComplete s _ _
  · exact bounds_startupPage s _ _

theorem bounds_jobFailed (job : ReadJob) (timeout : Bool) : s.Bounds (s.jobFailed job timeout) := by
  rw [State.jobFailed]
  split
  · exact (keeps_fillFailed s _).bounds
  · exact (follows_readFailed s _ _).bounds
  · exact bounds_startupReadFailed s

theorem bounds_takeRead? (b : BankId) (outcome : ReadOutcome) : s.Bounds (s.takeRead? b outcome) := by
  have cleared := bounds_clearRead s b
  rw [State.takeRead?]
  split
  · exact .refl s
  · split
    · exact (cleared.trans (bounds_jobComplete _ _ _)).trans (bounds_afterRead _ b)
    · exact .ite _ ((cleared.trans (bounds_jobFailed _ _ _)).trans (bounds_afterRead _ b))
        ((bounds_setBank s b _).trans (bounds_afterRead _ b))

theorem bounds_untilTaken (b : BankId) (a : Awaited) : s.Bounds (s.untilTaken b a) := bounds_setBank s b _

theorem bounds_takeReadDone (bank tag : Nat) (outcome : ReadOutcome) :
    s.Bounds (s.takeReadDone bank tag outcome) := by
  rw [State.takeReadDone]
  split
  · exact (bounds_untilTaken s _ _).trans (bounds_takeRead? _ _ _)
  · exact .refl s

theorem bounds_judgeAttempt (b : BankId) (i : SlotId) : s.Bounds (s.judgeAttempt b i) :=
  .ite _ ((bounds_setBank s b _).trans (bounds_setBank _ b _)) ((bounds_setBank s b _).trans (bounds_handoff _ b i))

theorem bounds_dataOutcome (b : BankId) (i : SlotId) (outcome : ProgramOutcome) :
    s.Bounds (s.dataOutcome b i outcome) := by
  cases outcome with
  | ok => exact (((bounds_setBank s b _).trans (bounds_programmedOk _ i)).trans (bounds_judgeEnd _)).trans (bounds_kick _)
  | programFail => exact ((bounds_setSlot s i _).trans (bounds_judgeAttempt _ b i)).trans (bounds_judgeEnd _)

theorem bounds_endProgram (b : BankId) : s.Bounds (s.endProgram b) := (follows_endProgram s b).bounds

theorem bounds_leaveProgram (b : BankId) : s.Bounds (s.leaveProgram b) := (follows_leaveProgram s b).bounds

theorem bounds_takeProgramDone (bank tag : Nat) (outcome : ProgramOutcome) :
    s.Bounds (s.takeProgramDone bank tag outcome) := by
  rw [State.takeProgramDone]
  split
  · exact .refl s
  · next b _ =>
    have taken : s.Bounds ((s.untilTaken b (.programDone tag)).stopProgramTimer b) :=
      (bounds_untilTaken s b _).trans (.ite _ (bounds_setBank _ b _) (.refl _))
    split
    · exact (taken.trans (bounds_dataOutcome _ b _ outcome)).trans (bounds_endProgram _ b)
    · exact ((taken.trans (bounds_setBank _ b _)).trans (bounds_metadataOutcome _ _)).trans (bounds_endProgram _ b)
    · exact taken

theorem bounds_suspendProgram (b : BankId) (i : SlotId) : s.Bounds (s.suspendProgram b i) :=
  ((bounds_setSlot s i _).trans (bounds_setBank _ b _)).trans (bounds_serveSuspended _ b)

theorem bounds_takeSuspendAck (bank tag : Nat) (answer : SuspendAnswer) :
    s.Bounds (s.takeSuspendAck bank tag answer) := by
  rw [State.takeSuspendAck]
  split
  · exact .refl s
  · have taken := bounds_untilTaken s (by assumption) (.suspendAck tag)
    split
    · exact taken.trans (bounds_suspendProgram _ _ _)
    · exact taken
    · exact taken.trans (bounds_endProgram _ _)

theorem bounds_interruptedProgram (b : BankId) : s.Bounds (s.interruptedProgram b) := by
  rw [State.interruptedProgram]
  split
  · exact bounds_judgeAttempt s b _
  · exact bounds_judgeAttempt s b _
  · exact .refl s
  · exact .refl s
  · exact (bounds_setBank s b _).trans (bounds_metadataOutcome _ _)
  · exact .refl s

theorem bounds_interruptedRead (b : BankId) : s.Bounds (s.interruptedRead b) := by
  rw [State.interruptedRead]
  split
  · exact (bounds_clearRead s b).trans (bounds_jobFailed _ _ _)
  · exact .refl s

theorem bounds_leaveReset (b : BankId) : s.Bounds (s.leaveReset b) := by
  have settled := ((bounds_interruptedProgram s b).trans (bounds_judgeEnd _)).trans (bounds_interruptedRead _ b)
  exact .ite _ (settled.trans (bounds_leaveProgram _ b)) settled

theorem bounds_takeResetDone (bank : Nat) : s.Bounds (s.takeResetDone bank) := by
  rw [State.takeResetDone]
  split
  · exact .refl s
  · exact .ite _ ((bounds_setBank s _ _).trans (bounds_bankMarked _))
      ((bounds_setBank s _ _).trans (bounds_leaveReset _ _))

/-! ### Directives -/

theorem bounds_popDirective : s.Bounds s.popDirective := by
  have leaves : s.Bounds { s with link := { s.link with dirLane := s.link.dirLane.drop 1 } } :=
    bounds_lanesShorter s _ rfl (Nat.le_refl _) (by simp) rfl rfl
  exact leaves.trans (bounds_returnCredit _ _)

theorem bounds_judgeDirective (which : Directive) (d : DirRequest) (body : DirRequest → State → State)
    (h : ∀ t : State, t.Bounds (body d t)) : s.Bounds (s.judgeDirective which d body) := by
  have staged : s.Bounds (if which.exempt then s else s.discardStaging) :=
    .ite _ (.refl s) (keeps_discardStaging s).bounds
  exact .ite _ (staged.trans (bounds_answerDirective _ _ _ _))
    (.ite _ (staged.trans (bounds_answerDirective _ _ _ _)) (staged.trans (h _)))

/-- A command of a directive keeps the bounds if the directive's body does. -/
theorem bounds_execDirective (which : Directive) (body : DirRequest → State → State) (t : State)
    (h : ∀ d (t : State), t.Bounds (body d t)) (ht : execDirective which body s = .next t) : s.Bounds t := by
  rw [execDirective] at ht
  split at ht
  · cases ht
    exact bounds_act s _ _ ((bounds_popDirective s).trans
      (bounds_examineTag _ _ _ _ fun u => bounds_judgeDirective u which _ body (h _)))
  · cases ht; exact .refl s

theorem bounds_flush (d : DirRequest) : s.Bounds (flushBody d s) :=
  .ite _ (bounds_takeFence s _ _ fun _ t => bounds_answerDirective t _ _ _) (bounds_answerDirective s _ _ _)

theorem bounds_setStaging (staging : Staging) : s.Bounds (s.setStaging staging) := bounds_region s _

/-- A directive of range staging leaves a new staging and is answered. -/
theorem bounds_staged (staging : Staging) (tag : Nat) (result : Result) :
    s.Bounds ((s.setStaging staging).answerDirective tag result []) :=
  (bounds_setStaging s staging).trans (bounds_answerDirective _ _ _ _)

theorem bounds_rangeFirst (d : DirRequest) : s.Bounds (rangeFirstBody d s) := by
  rw [rangeFirstBody]
  split
  · exact .ite _ (bounds_staged s _ _ _) (bounds_answerDirective s _ _ _)
  · exact bounds_staged s _ _ _
  · exact bounds_staged s _ _ _

theorem bounds_rangeLast (d : DirRequest) : s.Bounds (rangeLastBody d s) := by
  rw [rangeLastBody]
  split
  · exact .ite _ (bounds_staged s _ _ _) (bounds_answerDirective s _ _ _)
  · exact bounds_staged s _ _ _
  · exact bounds_staged s _ _ _

theorem bounds_takeApply (tag : Nat) (outcome : ApplyOutcome) : s.Bounds (s.takeApply tag outcome) := by
  have holds : s.Bounds { s with engine := { s.engine with current := .rangeApply tag } } :=
    .of_same _ rfl rfl rfl rfl rfl
  cases outcome with
  | answer result entry => cases entry <;> exact bounds_answerDirective s _ _ _
  | change c => exact holds.trans (.ite _ (bounds_region _ _) ((bounds_joinRequest _ _).trans (bounds_kick _)))

theorem bounds_rangeApply (d : DirRequest) : s.Bounds (rangeApplyBody d s) := by
  rw [rangeApplyBody]
  split
  · exact (bounds_setStaging s _).trans (bounds_takeApply _ _ _)
  · exact bounds_staged s _ _ _
  · exact bounds_staged s _ _ _

theorem bounds_rangeScrub (d : DirRequest) : s.Bounds (rangeScrubBody d s) := by
  rw [rangeScrubBody]
  split
  · exact bounds_staged s _ _ _
  · exact (bounds_region s _).trans (bounds_answerDirective _ _ _ _)
  · exact bounds_staged s _ _ _
  · exact bounds_staged s _ _ _

theorem bounds_regionList (d : DirRequest) : s.Bounds (regionListBody d s) :=
  .ite _ (bounds_answerDirective s _ _ _) (bounds_answerDirective s _ _ _)

theorem bounds_releaseStranded (tag : Nat) (i : SlotId) : s.Bounds (s.releaseStranded tag i) := by
  have holds (x : CurrentDirective) : s.Bounds { s with engine := { s.engine with current := x } } :=
    .of_same _ rfl rfl rfl rfl rfl
  exact .ite _ ((keeps_freeSlot s i).bounds.trans (bounds_answerDirective _ _ _ _))
    (.ite _ (bounds_answerDirective s _ _ _) (((holds _).trans (bounds_handOwn _ _)).trans (bounds_kick _)))

theorem bounds_release (d : DirRequest) : s.Bounds (releaseBody d s) := by
  rw [releaseBody]
  split
  · exact .ite _ (bounds_releaseStranded s _ _) (bounds_answerDirective s _ _ _)
  · exact bounds_answerDirective s _ _ _

theorem bounds_remapQuery (d : DirRequest) : s.Bounds (remapQueryBody d s) :=
  .ite _ (bounds_answerDirective s _ _ _) (bounds_answerDirective s _ _ _)

theorem bounds_restart (d : DirRequest) : s.Bounds (restartBody d s) :=
  (bounds_answerDirective s _ _ _).trans (bounds_beginDrain _ _)

theorem bounds_reformat (d : DirRequest) : s.Bounds (reformatBody d s) :=
  (bounds_answerDirective s _ _ _).trans (bounds_beginReformat _)

/-- STATUS_FETCH with TAKE empties the latched set (R158). -/
theorem bounds_statusFetch (d : DirRequest) : s.Bounds (statusFetchBody d s) := by
  have empties : s.Bounds { s with engine := { s.engine with latched := 0#32 } } := fun h => by
    obtain ⟨hdir, hmem, hlane, hinc, -⟩ := (State.bounded_iff s).mp h
    exact (State.bounded_iff _).mpr ⟨hdir, hmem, hlane, hinc, by simp⟩
  exact .ite _ (bounds_answerDirective s _ _ _)
    (.ite _ (empties.trans (bounds_answerDirective _ _ _ _)) (bounds_answerDirective s _ _ _))

/-- INCIDENT_TAKE shortens the incident queue (R161). -/
theorem bounds_incidentTake (d : DirRequest) : s.Bounds (incidentTakeBody d s) := by
  have shortens : s.Bounds { s with engine := { s.engine with incidents := s.engine.incidents.drop 4 } } := fun h => by
    obtain ⟨hdir, hmem, hlane, hinc, hlat⟩ := (State.bounded_iff s).mp h
    exact (State.bounded_iff _).mpr ⟨hdir, hmem, hlane, by simp; omega, hlat⟩
  exact shortens.trans (bounds_answerDirective _ _ _ _)

theorem bounds_profile (d : DirRequest) : s.Bounds (profileBody d s) := by
  have applies (x : Profile) : s.Bounds { s with engine := { s.engine with profile := x } } :=
    .of_same _ rfl rfl rfl rfl rfl
  exact .ite _ (bounds_answerDirective s _ _ _)
    (.ite _ (.ite _ (((applies _).trans (bounds_lowWaterClosure _)).trans (bounds_answerDirective _ _ _ _))
      (bounds_answerDirective s _ _ _)) (bounds_answerDirective s _ _ _))

theorem bounds_answerUnknown (d : DirRequest) : s.Bounds (s.answerUnknown d) :=
  (keeps_discardStaging s).bounds.trans (bounds_answerDirective _ _ _ _)

theorem bounds_joinHeldRemap (r : Request) : s.Bounds (s.joinHeldRemap r) :=
  (bounds_handHeld s r).trans (bounds_kick _)

theorem bounds_joinHeldRegion (r : Request) : s.Bounds (s.joinHeldRegion r) :=
  ((bounds_region s _).trans (bounds_joinRequest _ r)).trans (bounds_kick _)

/-! ### The memory lane -/

/-- An arrival joins its lane only while the lane has room (R130, R131). -/
theorem bounds_arrive (packet : List Byte) : s.Bounds (s.arrive packet) := by
  have overruns := bounds_latch s .linkOverrun (by decide)
  rw [State.arrive]
  split
  · next r _ =>
    rw [State.arriveMemory]
    split
    · next room =>
      intro h
      obtain ⟨hdir, hmem, hlane, hinc, hlat⟩ := (State.bounded_iff s).mp h
      exact (State.bounded_iff _).mpr ⟨hdir, by simp; omega, hlane, hinc, hlat⟩
    · exact overruns
  · next d _ =>
    rw [State.arriveDirective]
    split
    · next room =>
      intro h
      obtain ⟨hdir, hmem, hlane, hinc, hlat⟩ := (State.bounded_iff s).mp h
      exact (State.bounded_iff _).mpr ⟨hdir, hmem, by simp; omega, hinc, hlat⟩
    · exact overruns
  · exact overruns

theorem bounds_popMemory : s.Bounds s.popMemory := by
  have leaves : s.Bounds { s with link := { s.link with memLane := s.link.memLane.drop 1 } } :=
    bounds_lanesShorter s _ rfl (by simp) (Nat.le_refl _) rfl rfl
  exact leaves.trans (bounds_returnCredit _ _)

theorem bounds_takeRead (r : ReadRequest) : s.Bounds (s.takeRead r) :=
  (bounds_popMemory s).trans (bounds_examineTag _ _ _ _ fun t => bounds_judgeRead t r)

theorem bounds_answerWrite (tag : Nat) (result : Result) : s.Bounds (s.answerWrite tag result) := bounds_respond s _ _

theorem bounds_protectWrite (w : WriteRequest) (region : Nat) : s.Bounds (s.protectWrite w region) :=
  ((bounds_answerWrite s _ _).trans (bounds_latch _ .protectedWrite (by decide))).trans (bounds_raise _ _)

theorem bounds_absorbHost (w : WriteRequest) : s.Bounds (s.absorbHost w) := by
  have absorbed := bounds_absorbWrite s (w.address / 256) (w.address % 256) w.data .host
  exact .ite _ (absorbed.trans (bounds_takeFence _ _ _ fun _ t => bounds_respond t _ _))
    (absorbed.trans (bounds_respond _ _ _))

theorem bounds_setHead (x : Option WriteRequest) : s.Bounds { s with link := { s.link with head := x } } :=
  .of_same _ rfl rfl rfl rfl rfl

theorem bounds_absorbOrWait (w : WriteRequest) : s.Bounds (s.absorbOrWait w) :=
  .ite _ (bounds_absorbHost s w) (bounds_setHead s _)

theorem bounds_judgeWrite (w : WriteRequest) : s.Bounds (s.judgeWrite w) := by
  have answered (result : Result) := bounds_answerWrite s w.tag result
  refine .ite _ (answered _) (.ite _ (answered _) (.ite _ (answered _) (.ite _ (answered _) (.ite _ (answered _)
    (.ite _ (answered _) ?_)))))
  split
  · exact bounds_protectWrite s w _
  · exact bounds_absorbOrWait s w

theorem bounds_takeWrite (w : WriteRequest) : s.Bounds (s.takeWrite w) :=
  (bounds_popMemory s).trans (bounds_examineTag _ _ _ _ fun t => bounds_judgeWrite t w)

theorem bounds_judgeWaiting (w : WriteRequest) : s.Bounds (s.judgeWaiting w) := by
  have emptied := bounds_setHead s none
  refine .ite _ (emptied.trans (bounds_answerWrite _ _ _)) ?_
  split
  · exact .ite _ (emptied.trans (bounds_protectWrite _ w _)) (.refl s)
  · exact emptied.trans (bounds_absorbOrWait _ w)

theorem bounds_sendFront : s.Bounds s.sendFront := by
  rw [State.sendFront]
  split
  · exact .of_same _ rfl rfl rfl rfl rfl
  · exact .refl s

/-! ### Lines -/

theorem bounds_hardReset : s.Bounds s.hardReset := fun _ =>
  (State.bounded_iff _).mpr ⟨rfl, Nat.zero_le _, Nat.zero_le _, Nat.zero_le _, by simp [State.hardReset, State.reset]⟩

theorem bounds_resetRelease : s.Bounds s.release := by
  have released : s.Bounds { s with pins := { s.pins with resetAsserted := false } } :=
    .of_same _ rfl rfl rfl rfl rfl
  exact (released.trans (bounds_fullGrants _)).trans (bounds_beginStartup _ _)

theorem bounds_powerWarn : s.Bounds s.powerWarn := by
  rw [State.powerWarn]
  split
  · exact bounds_control s _
  · exact bounds_beginDrain s _
  · exact bounds_beginDrain s _
  · split
    · exact bounds_control s _
    · exact .refl s
  · exact .refl s
  · exact .refl s
  · exact .refl s

/-! ### Scrubs -/

theorem bounds_endVisit (w : Walker) : s.Bounds (s.endVisit w) :=
  .ite _ ((bounds_region s _).trans (bounds_push _ _)) (bounds_region s _)

theorem bounds_visit (w : Walker) : s.Bounds (s.visit w) :=
  .ite _ (bounds_endVisit s _) (.ite _ ((bounds_absorbWrite s _ _ _ _).trans (bounds_endVisit _ _)) (.refl s))

/-! ### Timers -/

theorem bounds_atExpiry (t : Timer) : s.Bounds (s.atExpiry t) := .of_same _ rfl rfl rfl rfl rfl

theorem bounds_failAttempt (b : BankId) (phase : ProgramPhase) : s.Bounds (s.failAttempt b phase) := by
  rw [State.failAttempt]
  split
  · exact (bounds_setSlot s _ _).trans (bounds_setBank _ b _)
  · exact .refl s
  · exact .refl s
  · exact .refl s
  · exact .refl s
  · exact .refl s

theorem bounds_timeOutRead (b : BankId) : s.Bounds (s.timeOutRead b) := by
  rw [State.timeOutRead]
  split
  · exact .ite _ ((bounds_raise s _).trans (bounds_latch _ .bankTimeout (by decide))) (bounds_setBank s b _)
  · exact .refl s

theorem bounds_failCarried (bank : Bank) : s.Bounds (s.failCarried bank) := by
  have failed : s.Bounds (if bank.carriesRead then s.startupReadFailed else s) :=
    .ite _ (bounds_startupReadFailed s) (.refl s)
  rw [State.failCarried]
  split
  · exact failed.trans (bounds_metadataOutcome _ _)
  · exact failed
  · exact failed

theorem bounds_resetExpired (b : BankId) : s.Bounds (s.resetExpired b) :=
  .ite _ (.ite _ ((bounds_setBank s b _).trans (bounds_bankMarked _))
    ((bounds_setBank s b _).trans (bounds_failCarried _ _))) (bounds_enterFaulted s _)

/-! ### Commands -/

/-- The state that a command leads to. -/
theorem bounds_of_next {x t : State} (h : s.Bounds x)
    (e : (.next x : Host.Outcome State Fault Refusal) = .next t) : s.Bounds t := by
  cases e; exact h

/-- A command that acts only on what it finds due. -/
theorem bounds_of_due {α : Type} (due : Option α) (f : α → State) (t : State) (h : ∀ x, s.Bounds (f x))
    (e : (due.elim (.next s) (fun x => .next (f x)) : Host.Outcome State Fault Refusal) = .next t) : s.Bounds t := by
  cases due with
  | none => exact bounds_of_next s (.refl s) e
  | some x => exact bounds_of_next s (h x) e

theorem bounds_powerWarnAssert (t : State) (h : execPowerWarnAssert s = .next t) : s.Bounds t := by
  have risen : s.Bounds { s with pins := { s.pins with powerWarn := true } } := .of_same _ rfl rfl rfl rfl rfl
  rw [execPowerWarnAssert] at h
  split at h
  · exact bounds_of_next s (.refl s) h
  · exact bounds_of_next s (.ite _ risen ((risen.trans (bounds_powerWarn _)).trans (bounds_settle _))) h

/-- Every command keeps the bounds. -/
theorem bounds_exec (c : Instr) (t : State) (h : exec c s = .next t) : s.Bounds t := by
  cases c with
  | hostRequestArrival packet => exact bounds_of_next s (bounds_act s true _ (bounds_arrive s packet)) h
  | readTake =>
    refine bounds_of_due s s.readDue? (fun r => s.act true (s.takeRead r)) t
      (fun r => bounds_act s true _ (bounds_takeRead s r)) (Eq.trans ?_ h)
    rw [exec, execReadTake]; cases s.readDue? <;> rfl
  | writeTake =>
    refine bounds_of_due s s.writeDue? (fun w => s.act true (s.takeWrite w)) t
      (fun w => bounds_act s true _ (bounds_takeWrite s w)) (Eq.trans ?_ h)
    rw [exec, execWriteTake]; cases s.writeDue? <;> rfl
  | stalledWriteAbsorb =>
    refine bounds_of_due s s.link.head (fun w => s.act true (s.judgeWaiting w)) t
      (fun w => bounds_act s true _ (bounds_judgeWaiting s w)) (Eq.trans ?_ h)
    rw [exec, execStalledWriteAbsorb]; cases s.link.head <;> rfl
  | closeTimerExpiry slot =>
    exact bounds_of_next s (bounds_act s _ _ ((bounds_atExpiry s _).trans (bounds_closeSlot _ slot))) h
  | readDone bank tag outcome => exact bounds_of_next s (bounds_act s _ _ (bounds_takeReadDone s bank tag outcome)) h
  | readTimerExpiry bank =>
    exact bounds_of_next s (bounds_act s _ _ ((((bounds_atExpiry s _).trans (bounds_timeOutRead _ bank)).trans
      (bounds_failAttempt _ bank _)).trans (bounds_sendReset _ bank))) h
  | programDone bank tag outcome =>
    exact bounds_of_next s (bounds_act s _ _ (bounds_takeProgramDone s bank tag outcome)) h
  | programTimerExpiry bank =>
    exact bounds_of_next s (bounds_act s _ _ (((bounds_atExpiry s _).trans (bounds_failAttempt _ bank _)).trans
      (bounds_sendReset _ bank))) h
  | suspendAck bank tag answer => exact bounds_of_next s (bounds_act s _ _ (bounds_takeSuspendAck s bank tag answer)) h
  | resetDone bank => exact bounds_of_next s (bounds_act s _ _ (bounds_takeResetDone s bank)) h
  | resetTimerExpiry bank =>
    exact bounds_of_next s (bounds_act s _ _ ((bounds_atExpiry s _).trans (bounds_resetExpired _ bank))) h
  | metadataRequestJoin who =>
    cases who with
    | remapUnit =>
      refine bounds_of_due s (s.heldDue? .remapUnit) (fun r => s.act true (s.joinHeldRemap r)) t
        (fun r => bounds_act s true _ (bounds_joinHeldRemap s r)) (Eq.trans ?_ h)
      rw [exec, execMetadataRequestJoin]; cases s.heldDue? .remapUnit <;> rfl
    | regionUnit =>
      refine bounds_of_due s (s.heldDue? .regionUnit) (fun r => s.act true (s.joinHeldRegion r)) t
        (fun r => bounds_act s true _ (bounds_joinHeldRegion s r)) (Eq.trans ?_ h)
      rw [exec, execMetadataRequestJoin]; cases s.heldDue? .regionUnit <;> rfl
  | identifyDone bankCount exponent spares version =>
    exact bounds_of_next s (bounds_act s _ _ (bounds_takeIdentify s bankCount exponent spares version)) h
  | identifyTimerExpiry =>
    exact bounds_of_next s (bounds_act s _ _ ((bounds_atExpiry s _).trans (bounds_enterFaulted _ _))) h
  | resetNAssert => exact bounds_of_next s (bounds_hardReset s) h
  | resetNRelease =>
    exact bounds_of_next s (.ite _ ((bounds_resetRelease s).trans (bounds_settle _)) (.refl s)) h
  | powerWarnAssert => exact bounds_powerWarnAssert s t h
  | powerWarnDeassert =>
    have lowered : s.Bounds { s with pins := { s.pins with powerWarn := false } } := .of_same _ rfl rfl rfl rfl rfl
    exact bounds_of_next s lowered h
  | flush => exact bounds_execDirective s .flush flushBody t (fun d t => bounds_flush t d) h
  | rangeFirst => exact bounds_execDirective s .rangeFirst rangeFirstBody t (fun d t => bounds_rangeFirst t d) h
  | rangeLast => exact bounds_execDirective s .rangeLast rangeLastBody t (fun d t => bounds_rangeLast t d) h
  | rangeApply => exact bounds_execDirective s .rangeApply rangeApplyBody t (fun d t => bounds_rangeApply t d) h
  | rangeScrub => exact bounds_execDirective s .rangeScrub rangeScrubBody t (fun d t => bounds_rangeScrub t d) h
  | regionList => exact bounds_execDirective s .regionList regionListBody t (fun d t => bounds_regionList t d) h
  | release => exact bounds_execDirective s .release releaseBody t (fun d t => bounds_release t d) h
  | remapQuery => exact bounds_execDirective s .remapQuery remapQueryBody t (fun d t => bounds_remapQuery t d) h
  | restart => exact bounds_execDirective s .restart restartBody t (fun d t => bounds_restart t d) h
  | reformat => exact bounds_execDirective s .reformat reformatBody t (fun d t => bounds_reformat t d) h
  | statusFetch => exact bounds_execDirective s .statusFetch statusFetchBody t (fun d t => bounds_statusFetch t d) h
  | incidentTake => exact bounds_execDirective s .incidentTake incidentTakeBody t (fun d t => bounds_incidentTake t d) h
  | profile => exact bounds_execDirective s .profile profileBody t (fun d t => bounds_profile t d) h
  | unknownDirective =>
    refine bounds_of_due s s.unknownDue? (fun d =>
      s.act true (s.popDirective.examineTag .directive d.tag (fun t => t.answerUnknown d))) t
      (fun d => bounds_act s true _ ((bounds_popDirective s).trans
        (bounds_examineTag _ _ _ _ fun t => bounds_answerUnknown t d))) (Eq.trans ?_ h)
    rw [exec, execUnknownDirective]; cases s.unknownDue? <;> rfl
  | scrubVisit =>
    refine bounds_of_due s s.region.walker (fun w => s.act (s.control.state == .running) (s.visit w)) t
      (fun w => bounds_act s _ _ (bounds_visit s w)) (Eq.trans ?_ h)
    rw [exec, execScrubVisit]; cases s.region.walker <;> rfl
  | packetSend => exact bounds_of_next s (bounds_act s _ _ (bounds_sendFront s)) h

end

end Sys2Proof.Machine

namespace Sys2Proof

open Machine

/-- Settles O59: the step carries out one command, or lets the clock go on. -/
theorem everyStepKeepsTheBounds : Obligations.EveryStepKeepsTheBounds := by
  intro s t bounded h
  rw [step] at h
  split at h
  · next c rest _ =>
    have queued : State.Bounds s { s with pending := rest } := .of_same _ rfl rfl rfl rfl rfl
    exact (queued.trans (bounds_exec _ c t h)) bounded
  · have ticks : State.Bounds s s.tick := .of_same _ rfl rfl rfl rfl rfl
    exact bounds_of_next s ticks h bounded

end Sys2Proof
end

/-! ## The events of the epoch list -/

section
/-!
SUPPORT. What can happen to the epoch list, said once: a count changes, a drained head is removed, a fence is taken
while there is room, or the list begins anew. Each event keeps the law of the list.
-/

namespace Sys2Proof.Machine

/-- One event of the epoch list (R30, R32, R35, R36, R39). -/
inductive EpochTracker.Event : EpochTracker → EpochTracker → Prop
  | count (t : EpochTracker) (fence : Nat) (f : Epoch → Epoch)
      (stands : ∀ e, (f e).fence = e.fence ∧ (f e).state = e.state) :
      Event t { t with epochs := changeEpoch fence f t.epochs }
  | remove (t : EpochTracker) (e : Epoch) (rest : List Epoch) (head : t.epochs = e :: rest)
      (drained : e.state = .closed ∧ e.outstanding = 0) :
      Event t { t with epochs := rest, lastPersisted := e.fence }
  | fence (t : EpochTracker) (notify : Bool) (room : t.epochs.length < 8) : Event t (t.closeCurrent notify)
  | anew (t : EpochTracker) : Event t EpochTracker.afterReset

/-- The epoch list of the second state comes from that of the first by events. -/
structure State.EpochSteps (s t : State) : Prop where
  events : Relation.ReflTransGen EpochTracker.Event s.tracker t.tracker

/-! ### The law of the list (R28, R29) -/

theorem consecutive_iff (l : List Epoch) :
    consecutive l = true ↔ l.IsChain (fun a b => b.fence = nextFence a.fence) := by
  induction l with
  | nil => simp [consecutive]
  | cons a l ih => cases l <;> simp [consecutive, ih]

theorem nextFence_bounds (n : Nat) (h : n ≤ 65535) : 1 ≤ nextFence n ∧ nextFence n ≤ 65535 := by
  unfold nextFence; split <;> omega

/-- The law of the epoch list, told of the CLOSED entries and the newest. -/
structure EpochTracker.Lawful (t : EpochTracker) (older : List Epoch) (newest : Epoch) : Prop where
  epochs : t.epochs = older ++ [newest]
  room : older.length < 8
  chain : (older ++ [newest]).IsChain (fun a b => b.fence = nextFence a.fence)
  fences : ∀ e ∈ older ++ [newest], 1 ≤ e.fence ∧ e.fence ≤ 65535
  closed : ∀ e ∈ older, e.state = .closed
  opened : newest.state = .opened
  current : newest.fence = nextFence t.fenceCounter

theorem EpochTracker.lawful_iff (t : EpochTracker) : t.lawful = true ↔ ∃ older newest, t.Lawful older newest := by
  constructor
  · intro h
    simp only [EpochTracker.lawful, Bool.and_eq_true, decide_eq_true_eq, beq_iff_eq, List.all_eq_true,
      Option.map_eq_some_iff, Prod.mk.injEq, consecutive_iff] at h
    obtain ⟨⟨⟨⟨⟨-, room⟩, chain⟩, fences⟩, closed⟩, newest, last, opened, current⟩ := h
    obtain ⟨older, epochs⟩ := List.getLast?_eq_some_iff.mp last
    rw [epochs] at room chain fences closed
    rw [List.dropLast_concat] at closed
    exact ⟨older, newest, epochs, by simpa using room, chain, fences, closed, opened, current⟩
  · rintro ⟨older, newest, epochs, room, chain, fences, closed, opened, current⟩
    simp only [EpochTracker.lawful, Bool.and_eq_true, decide_eq_true_eq, beq_iff_eq, List.all_eq_true,
      consecutive_iff, epochs, List.dropLast_concat, List.getLast?_concat, Option.map_some, opened, current]
    exact ⟨⟨⟨⟨⟨by simp, by simpa using room⟩, chain⟩, fences⟩, closed⟩, trivial⟩

/-- Entries that keep their fence numbers stay in order and in range. -/
theorem fences_map (l : List Epoch) (g : Epoch → Epoch) (hg : ∀ e, (g e).fence = e.fence)
    (chain : l.IsChain (fun a b => b.fence = nextFence a.fence)) (fences : ∀ e ∈ l, 1 ≤ e.fence ∧ e.fence ≤ 65535) :
    (l.map g).IsChain (fun a b => b.fence = nextFence a.fence) ∧ ∀ e ∈ l.map g, 1 ≤ e.fence ∧ e.fence ≤ 65535 := by
  constructor
  · simpa only [List.isChain_map, hg] using chain
  · intro e he
    obtain ⟨x, hx, rfl⟩ := List.mem_map.mp he
    rw [hg]; exact fences x hx

theorem lawful_count (t : EpochTracker) (fence : Nat) (f : Epoch → Epoch)
    (stands : ∀ e, (f e).fence = e.fence ∧ (f e).state = e.state) (h : t.lawful = true) :
    EpochTracker.lawful { t with epochs := changeEpoch fence f t.epochs } = true := by
  obtain ⟨older, newest, law⟩ := t.lawful_iff.mp h
  let g (e : Epoch) : Epoch := if e.fence = fence then f e else e
  have same (e : Epoch) : (g e).fence = e.fence ∧ (g e).state = e.state := by
    simp only [g]; split
    · exact stands e
    · exact ⟨rfl, rfl⟩
  obtain ⟨chain, fences⟩ := fences_map _ g (fun e => (same e).1) law.chain law.fences
  rw [List.map_append] at chain fences
  refine (EpochTracker.lawful_iff _).mpr ⟨older.map g, g newest, ?_, by simpa using law.room, chain, fences, ?_,
    (same newest).2.trans law.opened, (same newest).1.trans law.current⟩
  · simp only [changeEpoch, law.epochs, List.map_append]; rfl
  · intro e he
    obtain ⟨x, hx, rfl⟩ := List.mem_map.mp he
    exact (same x).2.trans (law.closed x hx)

/-- A CLOSED head has the OPEN entry behind it, so that the list does not become empty. -/
theorem lawful_remove (t : EpochTracker) (e : Epoch) (rest : List Epoch) (head : t.epochs = e :: rest)
    (closed : e.state = .closed) (h : t.lawful = true) :
    EpochTracker.lawful { t with epochs := rest, lastPersisted := e.fence } = true := by
  obtain ⟨older, newest, law⟩ := t.lawful_iff.mp h
  have split := head.symm.trans law.epochs
  cases older with
  | nil =>
    obtain ⟨rfl, -⟩ := List.cons.inj split
    exact absurd (closed.symm.trans law.opened) (by simp)
  | cons x older =>
    obtain ⟨rfl, rfl⟩ := List.cons.inj split
    exact (EpochTracker.lawful_iff _).mpr ⟨older, newest, rfl, Nat.lt_of_succ_lt law.room, law.chain.tail,
      fun y hy => law.fences y (List.mem_cons_of_mem _ hy), fun y hy => law.closed y (List.mem_cons_of_mem _ hy),
      law.opened, law.current⟩

/-- The OPEN entry becomes CLOSED with its number, and the new OPEN entry follows it (R32). -/
theorem lawful_fence (t : EpochTracker) (notify : Bool) (room : t.epochs.length < 8) (h : t.lawful = true) :
    (t.closeCurrent notify).lawful = true := by
  obtain ⟨older, newest, law⟩ := t.lawful_iff.mp h
  let g (e : Epoch) : Epoch := if e.state = .opened then { e with state := .closed, notify := notify } else e
  have number (e : Epoch) : (g e).fence = e.fence := by simp only [g]; split <;> rfl
  have closes (e : Epoch) : (g e).state = .closed := by cases hs : e.state <;> simp [g, hs]
  obtain ⟨chain, fences⟩ := fences_map _ g number law.chain law.fences
  have range := nextFence_bounds newest.fence (law.fences newest (by simp)).2
  refine (EpochTracker.lawful_iff _).mpr ⟨t.epochs.map g, _, rfl, by simpa using room, ?_, ?_, ?_,
    rfl, rfl⟩
  · rw [law.epochs, List.isChain_append]
    refine ⟨chain, by simp, fun x hx y hy => ?_⟩
    simp only [List.map_append, List.map_cons, List.map_nil, List.getLast?_concat, Option.mem_def,
      Option.some.injEq, List.head?_cons] at hx hy
    rw [← hx, ← hy, number, law.current]
  · rw [law.epochs]
    simp only [List.mem_append, List.mem_singleton]
    rintro e (he | rfl)
    · exact fences e he
    · simpa only [law.current] using range
  · intro e he
    obtain ⟨x, -, rfl⟩ := List.mem_map.mp he
    exact closes x

/-- Every event keeps the law of the epoch list. -/
theorem EpochTracker.Event.lawful {t u : EpochTracker} (e : t.Event u) (h : t.lawful = true) : u.lawful = true := by
  cases e with
  | count fence f stands => exact lawful_count t fence f stands h
  | remove e rest head drained => exact lawful_remove t e rest head drained.1 h
  | fence notify room => exact lawful_fence t notify room h
  | anew => decide

/-- The law of the epoch list holds after any events. -/
theorem lawful_of_events {t u : EpochTracker} (events : Relation.ReflTransGen EpochTracker.Event t u)
    (h : t.lawful = true) : u.lawful = true := by
  induction events with
  | refl => exact h
  | tail _ e ih => exact e.lawful ih

namespace State.EpochSteps

theorem refl (s : State) : s.EpochSteps s := ⟨.refl⟩

theorem trans {s t u : State} (h : s.EpochSteps t) (k : t.EpochSteps u) : s.EpochSteps u :=
  ⟨h.events.trans k.events⟩

/-- An operation that leaves the epoch list alone. -/
theorem of_same {s t : State} (h : t.tracker = s.tracker) : s.EpochSteps t := ⟨by rw [h]⟩

theorem event {s t : State} (e : s.tracker.Event t.tracker) : s.EpochSteps t := ⟨.single e⟩

/-- An operation that leaves the epoch list alone, after others. -/
theorem still {s t u : State} (h : s.EpochSteps t) (e : u.tracker = t.tracker) : s.EpochSteps u := h.trans (of_same e)

theorem ite {s t u : State} (c : Prop) [Decidable c] (h : s.EpochSteps t) (k : s.EpochSteps u) :
    s.EpochSteps (if c then t else u) := by
  split
  · exact h
  · exact k

theorem foldl {α : Type} (f : State → α → State) (h : ∀ (t : State) (a : α), t.EpochSteps (f t a)) (l : List α)
    (s : State) : s.EpochSteps (l.foldl f s) := by
  induction l generalizing s with
  | nil => exact refl s
  | cons a l ih => exact (h s a).trans (ih (f s a))

theorem lawful {s t : State} (h : s.EpochSteps t) (law : s.tracker.lawful = true) : t.tracker.lawful = true :=
  lawful_of_events h.events law

end State.EpochSteps

end Sys2Proof.Machine
end

/-! ## What leaves the epoch list alone -/

section
/-!
SUPPORT. The operations that leave the epoch list as it is, one lemma for each, in the order of the blocks.
-/

namespace Sys2Proof.Machine

section
variable (s : State)

theorem foldl_tracker {α : Type} (f : State → α → State) (h : ∀ t a, (f t a).tracker = t.tracker) (l : List α) :
    (l.foldl f s).tracker = s.tracker := by
  induction l generalizing s with
  | nil => rfl
  | cons a l ih => exact (ih (f s a)).trans (h s a)

/-! ### The links and the Bank Scheduler -/

@[simp] theorem raise_tracker (i) : (s.raise i).tracker = s.tracker := by
  unfold State.raise; split <;> rfl
@[simp] theorem returnCredit_tracker (l) : (s.returnCredit l).tracker = s.tracker := by cases l <;> rfl
@[simp] theorem sendRead_tracker (b j) : (s.sendRead b j).tracker = s.tracker := rfl
@[simp] theorem sendProgram_tracker (b p i d) : (s.sendProgram b p i d).tracker = s.tracker := rfl
@[simp] theorem sendReset_tracker (b) : (s.sendReset b).tracker = s.tracker := rfl
@[simp] theorem suspendDecision_tracker (b) : (s.suspendDecision b).tracker = s.tracker := by
  unfold State.suspendDecision; split <;> rfl
@[simp] theorem dispatchSlot_tracker (b i) : (s.dispatchSlot b i).tracker = s.tracker := by
  simp [State.dispatchSlot, State.startProgram]
@[simp] theorem issueRead_tracker (b) : (s.issueRead b).tracker = s.tracker := by
  unfold State.issueRead; split <;> rfl
@[simp] theorem arbitrate_tracker (b) : (s.arbitrate b).tracker = s.tracker := by
  unfold State.arbitrate; repeat' split
  all_goals simp [State.dispatchMeta]
@[simp] theorem arbitrateAll_tracker : s.arbitrateAll.tracker = s.tracker := foldl_tracker s _ arbitrate_tracker _
@[simp] theorem joinRead_tracker (b j) : (s.joinRead b j).tracker = s.tracker := by
  unfold State.joinRead; split <;> simp
@[simp] theorem joinProgram_tracker (i) : (s.joinProgram i).tracker = s.tracker := by simp [State.joinProgram]
@[simp] theorem enterIdle_tracker (b) : (s.enterIdle b).tracker = s.tracker := by simp [State.enterIdle]
@[simp] theorem resume_tracker (b) : (s.resume b).tracker = s.tracker := by
  unfold State.resume; split <;> simp
@[simp] theorem serveSuspended_tracker (b) : (s.serveSuspended b).tracker = s.tracker := by
  unfold State.serveSuspended; split <;> simp
@[simp] theorem afterRead_tracker (b) : (s.afterRead b).tracker = s.tracker := by
  unfold State.afterRead; repeat' split
  all_goals simp
@[simp] theorem leaveProgram_tracker (b) : (s.leaveProgram b).tracker = s.tracker := by
  unfold State.leaveProgram; repeat' split
  all_goals simp
@[simp] theorem endProgram_tracker (b) : (s.endProgram b).tracker = s.tracker := by
  unfold State.endProgram; split <;> simp
@[simp] theorem stopProgramTimer_tracker (b) : (s.stopProgramTimer b).tracker = s.tracker := by
  unfold State.stopProgramTimer; split <;> rfl

/-! ### The Absorb Buffer -/

@[simp] theorem admitHead_tracker : s.admitHead.tracker = s.tracker := by
  unfold State.admitHead; split
  · exact foldl_tracker s _ joinProgram_tracker _
  · rfl
@[simp] theorem removeHead_tracker (e rest) :
    (s.removeHead e rest).tracker = { s.tracker with epochs := rest, lastPersisted := e.fence } := by
  simp only [State.removeHead, State.noteLossy, State.notePersisted]; repeat' split
  all_goals simp
@[simp] theorem enterQueued_tracker (i) : (s.enterQueued i).tracker = s.tracker := by
  unfold State.enterQueued; dsimp only; split <;> simp
@[simp] theorem closureDecision_tracker (i) : (s.closureDecision i).tracker = s.tracker := by
  unfold State.closureDecision; repeat' split
  all_goals simp [State.requestFill]
@[simp] theorem closeSlot_tracker (i) : (s.closeSlot i).tracker = s.tracker := by simp [State.closeSlot]
@[simp] theorem closeInAgeOrder_tracker (l) : (s.closeInAgeOrder l).tracker = s.tracker :=
  foldl_tracker s _ closeSlot_tracker _
@[simp] theorem lowWaterClosure_tracker : s.lowWaterClosure.tracker = s.tracker := by
  unfold State.lowWaterClosure; split
  · exact foldl_tracker s _ closeSlot_tracker _
  · rfl
@[simp] theorem reexamineSlot_tracker (i) : (s.reexamineSlot i).tracker = s.tracker := by
  unfold State.reexamineSlot; split <;> simp
@[simp] theorem reexamine_tracker (p) : (s.reexamine p).tracker = s.tracker :=
  foldl_tracker s _ reexamineSlot_tracker _
@[simp] theorem mergeInto_tracker (i o d) : (s.mergeInto i o d).tracker = s.tracker := by
  unfold State.mergeInto; dsimp only; repeat' split
  all_goals simp
@[simp] theorem freeSlot_tracker (i) : (s.freeSlot i).tracker = s.tracker := by
  simp only [State.freeSlot, foldl_setSlot, arbitrate_tracker, reexamine_tracker, State.changeDir_tracker]

/-! ### The Read Path -/

@[simp] theorem dropRecord_tracker (r) : (s.dropRecord r).tracker = s.tracker := by
  simp [State.dropRecord, State.unpin]
@[simp] theorem bindRead_tracker (r) : (s.bindRead r).tracker = s.tracker := by
  unfold State.bindRead; dsimp only; repeat' split
  all_goals simp [State.answerRead, State.makeRecord, State.pin]
@[simp] theorem judgeRead_tracker (r) : (s.judgeRead r).tracker = s.tracker := by
  unfold State.judgeRead; repeat' split
  all_goals simp [State.answerRead]
@[simp] theorem readComplete_tracker (t p) : (s.readComplete t p).tracker = s.tracker := by
  unfold State.readComplete; split <;> simp
@[simp] theorem readFailed_tracker (t o) : (s.readFailed t o).tracker = s.tracker := by
  unfold State.readFailed; dsimp only; repeat' split
  all_goals simp [State.answerRead]
@[simp] theorem endRecords_tracker (r) : (s.endRecords r).tracker = s.tracker :=
  foldl_tracker s _ (by intro t x; simp [State.answerRead]) _
@[simp] theorem fillComplete_tracker (i p) : (s.fillComplete i p).tracker = s.tracker := by
  unfold State.fillComplete; split <;> simp
@[simp] theorem fillFailed_tracker (i) : (s.fillFailed i).tracker = s.tracker := by
  unfold State.fillFailed; split <;> simp

/-! ### The Remap Unit and the directive that holds the engine -/

@[simp] theorem retireFailed_tracker (b i) : (s.retireFailed b i).tracker = s.tracker := by
  unfold State.retireFailed; repeat' split
  all_goals rfl
@[simp] theorem applyMap_tracker (p b k o) : (s.applyMap p b k o).tracker = s.tracker := by
  unfold State.applyMap; cases o <;> rfl
@[simp] theorem directiveFailed_tracker : s.directiveFailed.tracker = s.tracker := by
  unfold State.directiveFailed; split <;> rfl
@[simp] theorem regionPersisted_tracker (c) : (s.regionPersisted c).tracker = s.tracker := by
  unfold State.regionPersisted; split <;> rfl
@[simp] theorem noteOpenSession_tracker (p) : (s.noteOpenSession p).tracker = s.tracker := by
  unfold State.noteOpenSession; repeat' split
  all_goals rfl

/-! ### Bridge Control, start-up and lines -/

@[simp] theorem discardStaging_tracker : s.discardStaging.tracker = s.tracker := by
  unfold State.discardStaging; split <;> rfl
@[simp] theorem abandonScrub_tracker : s.abandonScrub.tracker = s.tracker := by
  unfold State.abandonScrub; split <;> rfl
@[simp] theorem haltHead_tracker : s.haltHead.tracker = s.tracker := by
  unfold State.haltHead; split <;> rfl
@[simp] theorem leaveRunning_tracker : s.leaveRunning.tracker = s.tracker := by simp [State.leaveRunning]
@[simp] theorem enterDormant_tracker : s.enterDormant.tracker = s.tracker := by simp [State.enterDormant]
@[simp] theorem faultBanks_tracker : s.faultBanks.tracker = s.tracker := by
  obtain ⟨banks, hb⟩ := faultBanks_eq s; rw [hb]
@[simp] theorem startReset_tracker (b) : (s.startReset b).tracker = s.tracker := by
  unfold State.startReset; dsimp only; split <;> simp
@[simp] theorem beginStartup_tracker (a) : (s.beginStartup a).tracker = s.tracker :=
  foldl_tracker _ _ startReset_tracker _
@[simp] theorem beginIdentify_tracker : s.beginIdentify.tracker = s.tracker := rfl
@[simp] theorem startupRead_tracker (p) : (s.startupRead p).tracker = s.tracker := by simp [State.startupRead]
@[simp] theorem beginReplay_tracker (h g) : (s.beginReplay h g).tracker = s.tracker := by simp [State.beginReplay]
@[simp] theorem beginChoice_tracker : s.beginChoice.tracker = s.tracker := by simp [State.beginChoice]
@[simp] theorem deriveFree_tracker (g) : (s.deriveFree g).tracker = s.tracker := by
  simp only [State.deriveFree]; exact foldl_tracker s _ (by intro t b; rfl) _
@[simp] theorem loadReplay_tracker (g r) : (s.loadReplay g r).tracker = s.tracker := by
  simp only [State.loadReplay, deriveFree_tracker]; exact foldl_tracker _ _ (by intro t x; rfl) _
@[simp] theorem popDirective_tracker : s.popDirective.tracker = s.tracker := by simp [State.popDirective]
@[simp] theorem popMemory_tracker : s.popMemory.tracker = s.tracker := by simp [State.popMemory]
@[simp] theorem failAttempt_tracker (b p) : (s.failAttempt b p).tracker = s.tracker := by
  unfold State.failAttempt; split <;> rfl
@[simp] theorem timeOutRead_tracker (b) : (s.timeOutRead b).tracker = s.tracker := by
  unfold State.timeOutRead; repeat' split
  all_goals simp [State.requeueRead]
@[simp] theorem endVisit_tracker (w) : (s.endVisit w).tracker = s.tracker := by
  unfold State.endVisit; split <;> rfl
@[simp] theorem arrive_tracker (packet) : (s.arrive packet).tracker = s.tracker := by
  unfold State.arrive State.arriveMemory State.arriveDirective; repeat' split
  all_goals rfl
@[simp] theorem sendFront_tracker : s.sendFront.tracker = s.tracker := by
  unfold State.sendFront; split <;> rfl
@[simp] theorem protectWrite_tracker (w r) : (s.protectWrite w r).tracker = s.tracker := by
  simp [State.protectWrite, State.answerWrite]
theorem examineTag_tracker (l t f) (h : ∀ u : State, (f u).tracker = u.tracker) :
    (s.examineTag l t f).tracker = s.tracker := by
  unfold State.examineTag; split <;> simp [h]
theorem answerMemStarting_tracker (r) : (s.answerMemStarting r).tracker = s.tracker := by
  cases r <;> exact examineTag_tracker s _ _ _ fun _ => rfl
theorem answerDirStarting_tracker (d) : (s.answerDirStarting d).tracker = s.tracker :=
  examineTag_tracker s _ _ _ fun _ => rfl
@[simp] theorem answerLanes_tracker : s.answerLanes.tracker = s.tracker :=
  (foldl_tracker _ _ answerDirStarting_tracker _).trans (foldl_tracker _ _ answerMemStarting_tracker _)

end

end Sys2Proof.Machine
end

/-! ## The events that the blocks bring about -/

section
/-!
SUPPORT. Every operation of the blocks below start-up changes the epoch list by events alone.
-/

namespace Sys2Proof.Machine

section
variable (s : State)

/-! ### The records of the other blocks -/

theorem epochs_control (x : BridgeControl) : s.EpochSteps { s with control := x } := .of_same rfl

theorem epochs_writer (x : Writer) : s.EpochSteps { s with writer := x } := .of_same rfl

theorem epochs_remap (x : RemapUnit) : s.EpochSteps { s with remap := x } := .of_same rfl

theorem epochs_link (x : HostLink) : s.EpochSteps { s with link := x } := .of_same rfl

theorem epochs_setSlot (i : SlotId) (x : Slot) : s.EpochSteps (s.setSlot i x) := .of_same rfl

theorem epochs_latch (c : Condition) : s.EpochSteps (s.latch c) := .of_same rfl

theorem epochs_raise (x : Incident) : s.EpochSteps (s.raise x) := .of_same (raise_tracker s x)

theorem epochs_setPendingMeta (p : Option PendingMeta) : s.EpochSteps (s.setPendingMeta p) := .of_same rfl

/-! ### The Epoch Tracker and the Absorb Buffer -/

theorem epochs_removeDrained (epochs : List Epoch) (h : s.tracker.epochs = epochs) :
    s.EpochSteps (removeDrained epochs s) := by
  induction epochs generalizing s with
  | nil => exact .refl s
  | cons e rest ih =>
    rw [removeDrained]
    split
    · next drained =>
      have removes : s.EpochSteps (s.removeHead e rest) :=
        .event (by rw [removeHead_tracker]; exact .remove s.tracker e rest h drained)
      exact removes.trans (ih _ (by rw [removeHead_tracker]))
    · exact .refl s

theorem epochs_judgeRemoval : s.EpochSteps s.judgeRemoval := by
  rw [State.judgeRemoval]
  split
  · exact .refl s
  · exact .ite _ ((epochs_removeDrained s _ rfl).still (admitHead_tracker _)) (.refl s)

theorem epochs_epochDown (fence : Nat) (stranded : Bool) : s.EpochSteps (s.epochDown fence stranded) := by
  let counted : State := { s with tracker := { s.tracker with
    epochs := changeEpoch fence
      (fun e => { e with outstanding := e.outstanding - 1, lossy := e.lossy || stranded }) s.tracker.epochs } }
  have counts : s.EpochSteps counted := .event (.count s.tracker fence _ fun _ => ⟨rfl, rfl⟩)
  exact counts.trans (epochs_judgeRemoval counted)

theorem epochs_placeSlot (i : SlotId) (x : Slot) : s.EpochSteps (s.placeSlot i x) :=
  .event (.count s.tracker x.epoch (fun e => { e with outstanding := e.outstanding + 1 }) fun _ => ⟨rfl, rfl⟩)

theorem openSlot_tracker (i : SlotId) (page offset : Nat) (data : List Byte) (origin : Origin) :
    (s.openSlot i page offset data origin).tracker
      = (s.placeSlot i (s.openedSlot page offset data origin)).tracker := by
  unfold State.openSlot; dsimp only; split <;> simp

/-- A write that is absorbed opens a slot in its epoch, or leaves the epoch list alone. -/
theorem absorbWrite_tracker_cases (page offset : Nat) (data : List Byte) (origin : Origin) :
    (s.absorbWrite page offset data origin).tracker = s.tracker
      ∨ ∃ i x, (s.absorbWrite page offset data origin).tracker = (s.placeSlot i x).tracker := by
  rw [State.absorbWrite]
  split
  · exact .inl (mergeInto_tracker s _ offset data)
  · split
    · exact .inr ⟨_, _, openSlot_tracker s _ page offset data origin⟩
    · exact .inl rfl

theorem epochs_absorbWrite (page offset : Nat) (data : List Byte) (origin : Origin) :
    s.EpochSteps (s.absorbWrite page offset data origin) := by
  rcases absorbWrite_tracker_cases s page offset data origin with same | ⟨i, x, opens⟩
  · exact .of_same same
  · exact (epochs_placeSlot s i x).still opens

theorem absorbWrite_length (page offset : Nat) (data : List Byte) (origin : Origin) :
    (s.absorbWrite page offset data origin).tracker.epochs.length = s.tracker.epochs.length := by
  rcases absorbWrite_tracker_cases s page offset data origin with same | ⟨i, x, opens⟩
  · rw [same]
  · rw [opens]; exact List.length_map _

/-- A fence is taken only while the epoch list has room (R33, R34). -/
theorem epochs_takeFence (notify : Bool) (respond : Nat → State → State) (room : s.tracker.epochs.length < 8)
    (h : ∀ fence (t : State), (respond fence t).tracker = t.tracker) : s.EpochSteps (s.takeFence notify respond) := by
  let closed : State := { s with tracker := s.tracker.closeCurrent notify }
  have closes : s.EpochSteps closed := .event (.fence s.tracker notify room)
  exact ((closes.still (closeInAgeOrder_tracker closed _)).still (h _ _)).trans (epochs_judgeRemoval _)

theorem epochs_freeReported (i : SlotId) : s.EpochSteps (s.freeReported i) :=
  (State.EpochSteps.of_same (freeSlot_tracker s i)).trans (epochs_epochDown _ _ _)

theorem epochs_examineTag (lane : Lane) (tag : Nat) (proceed : State → State)
    (h : ∀ t : State, t.EpochSteps (proceed t)) : s.EpochSteps (s.examineTag lane tag proceed) :=
  .ite _ ((epochs_latch s _).trans (epochs_raise _ _)) ((epochs_link s _).trans (h _))

/-! ### The Remap Unit -/

theorem epochs_strandSlot (i : SlotId) (spareOld : Option Nat) : s.EpochSteps (s.strandSlot i spareOld) :=
  (((((epochs_setSlot s i _).trans (epochs_epochDown _ _ _)).trans (epochs_raise _ _)).trans
    (epochs_latch _ _)).still (reexamine_tracker _ _)).still (arbitrate_tracker _ _)

theorem epochs_handoff (b : BankId) (i : SlotId) : s.EpochSteps (s.handoff b i) := by
  have retires : s.EpochSteps (s.retireFailed b i) := .of_same (retireFailed_tracker s b i)
  rw [State.handoff]
  refine .ite _ (retires.trans (epochs_strandSlot _ i _)) ?_
  split
  · exact retires.still rfl
  · exact retires.trans (epochs_strandSlot _ i _)

theorem epochs_freeRecorded (i : SlotId) (page : Nat) : s.EpochSteps (s.freeRecorded i page) :=
  .ite _ (epochs_freeReported s i) (.refl s)

theorem epochs_mapNotPersisted (refused : Bool) (i : SlotId) (bank spare : Nat) :
    s.EpochSteps (s.mapNotPersisted refused i bank spare) := by
  have unclaimed (b : BankId) : s.EpochSteps (if refused then s.setClaim b spare none
      else (s.dropFreeSpare b spare).addRetired b spare) := .of_same (by cases refused <;> rfl)
  have withdraws (t : State) : t.EpochSteps (t.withdrawUnlost i) := .of_same rfl
  exact ((unclaimed _).trans (withdraws _)).trans (epochs_strandSlot _ i _)

theorem epochs_requestNotPersisted (refused : Bool) (r : Request) :
    s.EpochSteps (s.requestNotPersisted refused r) := by
  refine .ite _ (.refl s) ?_
  split
  · exact epochs_mapNotPersisted s refused _ _ _
  · exact .refl s
  · exact (epochs_remap s _).trans (epochs_freeRecorded _ _ _)
  · exact epochs_remap s _
  · exact .of_same (directiveFailed_tracker s)
  · exact .of_same (directiveFailed_tracker s)
  · exact .of_same (noteOpenSession_tracker s false)
  · exact epochs_control s _

theorem epochs_answerRequests (refused : Bool) (voided : List SlotId) (requests : List Request) :
    s.EpochSteps (answerRequests refused voided requests s) := by
  induction requests generalizing s voided with
  | nil => exact .refl s
  | cons r rest ih => exact (epochs_requestNotPersisted s refused _).trans (ih _ _)

theorem epochs_joinRequest (r : Request) : s.EpochSteps (s.joinRequest r) :=
  .ite _ (epochs_requestNotPersisted s false r) (epochs_writer s _)

theorem epochs_handRequest (r : Request) : s.EpochSteps (s.handRequest r) :=
  .ite _ (epochs_remap s _) (epochs_joinRequest s r)

theorem epochs_handRetirement : s.EpochSteps s.handRetirement := (epochs_remap s _).trans (epochs_joinRequest _ _)

theorem epochs_handRetirements (n : Nat) : s.EpochSteps (State.handRetirements n s) := by
  induction n generalizing s with
  | zero => exact .refl s
  | succ n ih => exact .ite _ (.refl s) ((epochs_handRetirement s).trans (ih _))

theorem epochs_handOwn (kind : RequestKind) : s.EpochSteps (s.handOwn kind) :=
  (State.EpochSteps.ite (s.remap.held = []) (epochs_handRetirements s _) (.refl s)).trans (epochs_handRequest _ _)

theorem epochs_handHeld (r : Request) : s.EpochSteps (s.handHeld r) :=
  .ite _ ((epochs_remap s _).trans (epochs_joinRequest _ r)) (epochs_handRetirement s)

theorem epochs_recordOne (i : SlotId) (kind : RequestKind) : s.EpochSteps (s.recordOne i kind) :=
  .ite _ (.refl s) (.ite _ (epochs_requestNotPersisted s false _) (epochs_handOwn s kind))

theorem epochs_programmedOk (i : SlotId) : s.EpochSteps (s.programmedOk i) := by
  rw [State.programmedOk]
  split
  · exact epochs_freeReported s i
  · exact (State.EpochSteps.of_same (State.setSlot_tracker s i _)).trans
      (State.EpochSteps.foldl (State.recordOne i) (fun t => epochs_recordOne t i) _ _)

theorem epochs_mapPersisted (i : SlotId) (page bank spare : Nat) (old : Option Nat) :
    s.EpochSteps (s.mapPersisted i page bank spare old) := by
  have reported (x : Incident) :=
    ((State.EpochSteps.of_same (applyMap_tracker s page (Fin.ofNat 8 bank) spare old)).trans (epochs_raise _ x)).trans
      (epochs_latch _ .remapped)
  exact .ite _ (.ite _ (reported _) ((reported _).trans (epochs_handOwn _ _)))
    ((reported _).trans (epochs_freeReported _ i))

theorem epochs_lostPersisted : s.EpochSteps s.lostPersisted := by
  rw [State.lostPersisted]
  split
  · exact (State.EpochSteps.ite _ ((epochs_remap s _).still (freeSlot_tracker _ _)) (epochs_handOwn s _)).still
      (State.answerDirective_tracker _ _ _ _)
  · exact .refl s

theorem epochs_requestPersisted (r : Request) : s.EpochSteps (s.requestPersisted r) := by
  refine .ite _ (.refl s) ?_
  split
  · exact epochs_mapPersisted s _ _ _ _ _
  · exact .refl s
  · exact (epochs_remap s _).trans (epochs_freeRecorded _ _ _)
  · exact epochs_remap s _
  · exact epochs_lostPersisted s
  · exact .of_same (regionPersisted_tracker s _)
  · exact .of_same (noteOpenSession_tracker s true)
  · exact epochs_control s _

/-! ### The Metadata Writer -/

theorem epochs_stopWriter : s.EpochSteps s.stopWriter :=
  (((epochs_writer s _).trans (epochs_answerRequests _ _ _ _)).trans (epochs_writer _ _)).still
    (State.forbidRecord_tracker _)

theorem epochs_giveUp (page : Nat) : s.EpochSteps (s.giveUp page) :=
  ((epochs_latch s _).trans (epochs_raise _ _)).trans (epochs_stopWriter _)

theorem epochs_handProgram : s.EpochSteps s.handProgram := by
  rw [State.handProgram]
  split
  · exact .refl s
  · exact .ite _ (epochs_giveUp s _) (.of_same (arbitrate_tracker _ _))

theorem epochs_handImage (page : Nat) (image : List Record) : s.EpochSteps (s.handImage page image) :=
  (epochs_writer s _).trans (epochs_handProgram _)

theorem epochs_dropProgram (refused : Bool) : s.EpochSteps (s.dropProgram refused) :=
  (epochs_writer s _).trans (epochs_answerRequests _ _ _ _)

theorem epochs_listShutdown (r : Request) : s.EpochSteps (s.listShutdown r) :=
  ((epochs_writer s _).trans (epochs_answerRequests _ _ _ _)).trans (epochs_writer _ _)

theorem epochs_judgeEndListing : s.EpochSteps s.judgeEndListing := by
  rw [State.judgeEndListing]
  split
  · exact (epochs_control s _).trans (epochs_listShutdown _ _)
  · exact .refl s

theorem epochs_takeAppend : s.EpochSteps s.takeAppend :=
  .ite _ ((epochs_writer s _).trans (epochs_answerRequests _ _ _ _))
    (((epochs_writer s _).trans (epochs_answerRequests _ _ _ _)).trans (epochs_handProgram _))

theorem epochs_startAppend : s.EpochSteps s.startAppend :=
  (State.EpochSteps.ite _ (.refl s) (((epochs_writer s _).trans (epochs_answerRequests _ _ _ _)).trans
    (epochs_judgeEndListing _))).trans (epochs_takeAppend _)

theorem epochs_kick : s.EpochSteps s.kick := .ite _ (epochs_startAppend s) (.refl s)

theorem epochs_handShutdown (r : Request) : s.EpochSteps (s.handShutdown r) :=
  .ite _ (epochs_listShutdown s r) ((((epochs_listShutdown s r).trans (epochs_setPendingMeta _ _)).trans
    (epochs_dropProgram _ _)).trans (epochs_kick _))

theorem epochs_judgeEnd : s.EpochSteps s.judgeEnd := by
  rw [State.judgeEnd]
  split
  · exact (epochs_control s _).trans (epochs_handShutdown _ _)
  · exact .refl s

theorem epochs_beginCompaction (session : BitVec 32) (opensSession : Bool) :
    s.EpochSteps (s.beginCompaction session opensSession) := (epochs_writer s _).trans (epochs_handImage _ _ _)

theorem epochs_answerOpenSession : s.EpochSteps s.answerOpenSession := by
  rw [State.answerOpenSession]
  split
  · exact (epochs_writer s _).trans (epochs_requestPersisted _ _)
  · exact .refl s

theorem epochs_compactionDone (c : Compaction) : s.EpochSteps (s.compactionDone c) := by
  have switches (x : Writer) (y : RemapUnit) : s.EpochSteps { s with writer := x, remap := y } := .of_same rfl
  exact (State.EpochSteps.ite _ ((switches _ _).trans (epochs_answerOpenSession _)) (switches _ _)).trans
    (epochs_kick _)

theorem epochs_compactionOk : s.EpochSteps s.compactionOk := by
  rw [State.compactionOk]
  split
  · exact .refl s
  · exact .ite _ (epochs_compactionDone s _) ((epochs_writer s _).trans (epochs_handImage _ _ _))

theorem epochs_abandonCompaction : s.EpochSteps s.abandonCompaction :=
  .ite _ (((State.EpochSteps.ite _ (epochs_writer s _) ((epochs_writer s _).trans (epochs_setPendingMeta _ _))).trans
    (epochs_judgeEnd _)).trans (epochs_kick _)) (epochs_judgeEnd s)

theorem epochs_beginFormat (all : Bool) : s.EpochSteps (s.beginFormat all) :=
  (epochs_writer s _).trans (epochs_handImage _ _ _)

theorem epochs_formatOk (page : Nat) : s.EpochSteps (s.formatOk page) :=
  .ite _ ((epochs_writer s _).trans (epochs_kick _)) (epochs_handImage s _ _)

theorem epochs_answerCarried (carried : List Carried) : s.EpochSteps (answerCarried carried s) := by
  induction carried generalizing s with
  | nil => exact .refl s
  | cons c rest ih =>
    exact (State.EpochSteps.ite _ (((epochs_writer s _).trans (epochs_requestPersisted _ _)).trans
      (epochs_judgeEndListing _)) (epochs_writer s _)).trans (ih _)

theorem epochs_appendOk (p : WriterProgram) : s.EpochSteps (s.appendOk p) := by
  have ended (x : Writer) :=
    ((epochs_writer s { s.writer with used := s.writer.used + p.records, buffer := p.image }).trans
      (epochs_answerCarried _ p.carried)).trans (epochs_writer _ x)
  exact .ite _ ((ended _).trans (epochs_beginCompaction _ _ _)) ((ended _).trans (epochs_kick _))

theorem epochs_metaOk (p : WriterProgram) : s.EpochSteps (s.metaOk p) := by
  rw [State.metaOk]
  cases s.writer.state with
  | appending => exact epochs_appendOk s p
  | compacting => exact epochs_compactionOk s
  | formatting => exact epochs_formatOk s p.page
  | unloaded => exact .refl s
  | idle => exact .refl s
  | stopped => exact .refl s

theorem epochs_metaFailed (p : WriterProgram) : s.EpochSteps (s.metaFailed p) :=
  .ite _ ((epochs_dropProgram s _).trans (epochs_kick _)) (.ite _ (epochs_giveUp s _)
    (.ite _ (epochs_dropProgram s _) ((epochs_writer s _).trans (epochs_handProgram _))))

theorem epochs_writerOutcome (ok : Bool) : s.EpochSteps (s.writerOutcome ok) := by
  have cleared := epochs_setPendingMeta s none
  rw [State.writerOutcome]
  split
  · exact cleared.trans (epochs_kick _)
  · exact .ite _ (cleared.trans (epochs_metaOk _ _)) (cleared.trans (epochs_metaFailed _ _))

/-! ### Bridge Control -/

theorem epochs_metadataOutcome (ok : Bool) : s.EpochSteps (s.metadataOutcome ok) :=
  (epochs_writerOutcome s ok).trans (.ite _ (.of_same (by simp)) (.refl _))

theorem epochs_answerHolder : s.EpochSteps s.answerHolder := by
  have takes : s.EpochSteps s.holderTaken := .of_same rfl
  exact takes.trans (epochs_answerRequests _ _ _ _)

theorem epochs_enterFaulted (reason : FaultReason) : s.EpochSteps (s.enterFaulted reason) := by
  have faulted : s.EpochSteps { s.faultBanks with control := s.control.faulted reason } :=
    .of_same (faultBanks_tracker s)
  exact (((State.EpochSteps.ite _ (faulted.still (leaveRunning_tracker _)) faulted).still
    (endRecords_tracker _ _)).trans (epochs_stopWriter _)).trans (epochs_answerHolder _)

theorem epochs_beginDrain (kind : DrainKind) : s.EpochSteps (s.beginDrain kind) :=
  (((epochs_control s _).still (leaveRunning_tracker _)).trans (epochs_abandonCompaction _)).still
    (arbitrateAll_tracker _)

end

end Sys2Proof.Machine
end

/-! ## The events that the commands bring about -/

section
/-!
SUPPORT. Start-up, drains, completions, directives, writes, scrubs, timers and lines change the epoch list by events
alone, and the statement about every step.
-/

namespace Sys2Proof.Machine

section
variable (s : State)

/-! ### Start-up -/

/-- The epoch list begins anew (R30). -/
theorem epochs_anew (t : State) (h : t.tracker = EpochTracker.afterReset) : s.EpochSteps t :=
  .event (by rw [h]; exact .anew s.tracker)

theorem epochs_setStage (stage : Stage) : s.EpochSteps (s.setStage stage) := epochs_control s _

theorem epochs_endStage (next : State → State) (h : s.EpochSteps (next s)) : s.EpochSteps (s.endStage next) := by
  rw [State.endStage]
  split
  · exact .ite _ (.of_same (enterDormant_tracker s)) h
  · exact .refl s

theorem epochs_enterRunning : s.EpochSteps s.enterRunning :=
  .ite _ ((epochs_anew s _ rfl).trans (epochs_beginCompaction _ _ _)) (epochs_anew s _ rfl)

theorem epochs_beginOpenSession : s.EpochSteps s.beginOpenSession := by
  have hands := (epochs_setStage s (.openSession none)).trans
    (epochs_joinRequest _ (Request.of (.openSession (nextSession s.control.session))))
  exact .ite _ (hands.trans (epochs_beginCompaction _ _ _)) (hands.trans (epochs_kick _))

theorem epochs_takeOpenSession : s.EpochSteps s.takeOpenSession := by
  rw [State.takeOpenSession]
  split
  · exact (epochs_control s _).trans (epochs_endStage _ _ (epochs_enterRunning _))
  · exact epochs_enterFaulted s _
  · exact .refl s

theorem epochs_replayPage (built : Replay) (page : Nat) (records : List Record) :
    s.EpochSteps (s.replayPage built page records) := by
  rw [State.replayPage]
  split
  · exact .refl s
  · split
    · exact epochs_enterFaulted s _
    · exact (State.EpochSteps.of_same (loadReplay_tracker s _ _)).trans
        (epochs_endStage _ _ (epochs_beginOpenSession _))
    · exact (epochs_setStage s _).still (startupRead_tracker _ _)

theorem epochs_readRemaining (remaining : List Nat) (zero : Bool) :
    s.EpochSteps (s.readRemaining remaining zero) := by
  cases remaining with
  | cons page rest => exact (epochs_setStage s _).still (startupRead_tracker _ _)
  | nil => exact .ite _ ((epochs_setStage s _).trans (epochs_beginFormat _ _)) (epochs_enterFaulted s _)

theorem epochs_replays (half generation : Nat) :
    s.EpochSteps (s.endStage (fun t => t.beginReplay half generation)) :=
  epochs_endStage s _ (.of_same (beginReplay_tracker s half generation))

theorem epochs_chooseHalf (half0 half1 : HalfScan) : s.EpochSteps (s.chooseHalf half0 half1) := by
  rw [State.chooseHalf]
  split
  · exact .ite _ (epochs_enterFaulted s _) (.ite _ (epochs_replays s _ _) (epochs_replays s _ _))
  · exact epochs_replays s _ _
  · exact epochs_replays s _ _
  · exact epochs_readRemaining s _ _

theorem epochs_scanned (half0 half1 : HalfScan) (page : Nat) (done : Bool) :
    s.EpochSteps (s.scanned half0 half1 page done) := by
  have staged := epochs_setStage s (.choose half0 half1)
  exact .ite _ (staged.trans (epochs_chooseHalf _ _ _)) (.ite _ staged (staged.still (startupRead_tracker _ _)))

theorem epochs_startupPage (page : Nat) (data : PageData) : s.EpochSteps (s.startupPage page data) := by
  rw [State.startupPage]
  split
  · exact .ite _ (epochs_scanned s _ _ _ _) (epochs_scanned s _ _ _ _)
  · exact epochs_readRemaining s _ _
  · exact epochs_replayPage s _ _ _
  · exact .refl s

theorem epochs_startupReadFailed : s.EpochSteps s.startupReadFailed := by
  rw [State.startupReadFailed]
  split
  · exact epochs_enterFaulted s _
  · exact .refl s

theorem epochs_bankMarked : s.EpochSteps s.bankMarked := by
  rw [State.bankMarked]
  split
  · exact .ite _ (epochs_endStage s _ (.of_same (beginIdentify_tracker s))) (.refl s)
  · exact .ite _ ((epochs_setStage s _).trans (epochs_beginFormat _ _)) (.refl s)
  · exact .refl s

theorem epochs_takeIdentify (bankCount exponent spares version : Nat) :
    s.EpochSteps (s.takeIdentify bankCount exponent spares version) := by
  have stopped := epochs_control s { s.control with identifyTimer := .stopped }
  have known (t : State) (g : Option Geometry) : t.EpochSteps { t with geometry := g } := .of_same rfl
  exact .ite _ ((stopped.trans (known _ _)).trans (epochs_endStage _ _ (.of_same (beginChoice_tracker _))))
    (stopped.trans (epochs_enterFaulted _ _))

theorem epochs_takeReformat : s.EpochSteps s.takeReformat := by
  rw [State.takeReformat]
  split
  · exact ((epochs_control s _).still (deriveFree_tracker _ _)).trans (epochs_endStage _ _ (epochs_beginOpenSession _))
  · exact epochs_enterFaulted s _

theorem epochs_takeFormat : s.EpochSteps s.takeFormat := by
  rw [State.takeFormat]
  split
  · exact epochs_replays s _ _
  · exact epochs_enterFaulted s _
  · exact epochs_takeReformat s
  · exact epochs_enterFaulted s _
  · exact .refl s

theorem epochs_emptyForReplay : s.EpochSteps s.emptyForReplay := epochs_anew s _ rfl

theorem epochs_beginReformat : s.EpochSteps s.beginReformat :=
  ((epochs_emptyForReplay s).trans (epochs_control _ _)).still (foldl_tracker _ _ startReset_tracker _)

/-! ### Drains and the end of a command -/

theorem epochs_unloadWriter : s.EpochSteps s.unloadWriter := by
  have releases (t : State) : t.EpochSteps { t with
      remap := { t.remap with held := [] }, region := { t.region with held := none } } := .of_same rfl
  exact (((epochs_setPendingMeta s none).trans (epochs_writer _ _)).trans (releases _)).trans
    (epochs_answerRequests _ _ _ _)

theorem epochs_restartStartup : s.EpochSteps s.restartStartup :=
  (((((epochs_control s _).still (endRecords_tracker _ _)).still (answerLanes_tracker _)).trans
    (epochs_unloadWriter _)).trans (epochs_emptyForReplay _)).still (beginStartup_tracker _ _)

theorem epochs_endDrain (d : Drain) : s.EpochSteps (s.endDrain d) := by
  rw [State.endDrain]
  cases d.kind with
  | power => exact (State.EpochSteps.of_same (enterDormant_tracker s)).trans (epochs_answerHolder _)
  | restart => exact epochs_restartStartup s

theorem epochs_judgeDrain : s.EpochSteps s.judgeDrain := by
  have judged := epochs_judgeEnd s
  simp only [State.judgeDrain]
  split
  · exact judged
  · split
    · exact judged.trans (epochs_endDrain _ _)
    · exact judged
    · exact .ite _ (judged.trans (epochs_endDrain _ _)) judged

theorem epochs_settle : s.EpochSteps s.settle :=
  (((epochs_judgeDrain s).trans (epochs_takeFormat _)).trans (epochs_takeOpenSession _)).still
    (State.judgeAlert_tracker _)

theorem epochs_act (occasion : Bool) (t : State) (h : s.EpochSteps t) : s.EpochSteps (s.act occasion t) :=
  .ite _ (h.trans (epochs_settle t)) (.refl s)

/-! ### Completions of the array -/

theorem epochs_setBank (b : BankId) (x : Bank) : s.EpochSteps (s.setBank b x) := .of_same rfl

theorem epochs_jobComplete (job : ReadJob) (data : PageData) : s.EpochSteps (s.jobComplete job data) := by
  rw [State.jobComplete]
  split
  · exact .of_same (fillComplete_tracker s _ _)
  · exact .of_same (readComplete_tracker s _ _)
  · exact epochs_startupPage s _ _

theorem epochs_jobFailed (job : ReadJob) (timeout : Bool) : s.EpochSteps (s.jobFailed job timeout) := by
  rw [State.jobFailed]
  split
  · exact .of_same (fillFailed_tracker s _)
  · exact .of_same (readFailed_tracker s _ _)
  · exact epochs_startupReadFailed s

theorem epochs_takeRead? (b : BankId) (outcome : ReadOutcome) : s.EpochSteps (s.takeRead? b outcome) := by
  have cleared : s.EpochSteps (s.clearRead b) := epochs_setBank s b _
  rw [State.takeRead?]
  split
  · exact .refl s
  · split
    · exact (cleared.trans (epochs_jobComplete _ _ _)).still (afterRead_tracker _ b)
    · exact .ite _ ((cleared.trans (epochs_jobFailed _ _ _)).still (afterRead_tracker _ b))
        ((epochs_setBank s b _).still (afterRead_tracker _ b))

theorem epochs_takeReadDone (bank tag : Nat) (outcome : ReadOutcome) :
    s.EpochSteps (s.takeReadDone bank tag outcome) := by
  rw [State.takeReadDone]
  split
  · exact (epochs_setBank s _ _).trans (epochs_takeRead? _ _ _)
  · exact .refl s

theorem epochs_judgeAttempt (b : BankId) (i : SlotId) : s.EpochSteps (s.judgeAttempt b i) :=
  .ite _ ((epochs_setBank s b _).trans (epochs_setBank _ b _)) ((epochs_setBank s b _).trans (epochs_handoff _ b i))

theorem epochs_dataOutcome (b : BankId) (i : SlotId) (outcome : ProgramOutcome) :
    s.EpochSteps (s.dataOutcome b i outcome) := by
  cases outcome with
  | ok =>
    exact (((epochs_setBank s b _).trans (epochs_programmedOk _ i)).trans (epochs_judgeEnd _)).trans (epochs_kick _)
  | programFail => exact ((epochs_setSlot s i _).trans (epochs_judgeAttempt _ b i)).trans (epochs_judgeEnd _)

theorem epochs_takeProgramDone (bank tag : Nat) (outcome : ProgramOutcome) :
    s.EpochSteps (s.takeProgramDone bank tag outcome) := by
  rw [State.takeProgramDone]
  split
  · exact .refl s
  · next b _ =>
    have taken : s.EpochSteps ((s.untilTaken b (.programDone tag)).stopProgramTimer b) :=
      (epochs_setBank s b _).still (stopProgramTimer_tracker _ b)
    split
    · exact (taken.trans (epochs_dataOutcome _ b _ outcome)).still (endProgram_tracker _ b)
    · exact ((taken.trans (epochs_setBank _ b _)).trans (epochs_metadataOutcome _ _)).still (endProgram_tracker _ b)
    · exact taken

theorem epochs_takeSuspendAck (bank tag : Nat) (answer : SuspendAnswer) :
    s.EpochSteps (s.takeSuspendAck bank tag answer) := by
  rw [State.takeSuspendAck]
  split
  · exact .refl s
  · next b _ =>
    have taken : s.EpochSteps (s.untilTaken b (.suspendAck tag)) := epochs_setBank s b _
    split
    · exact taken.still (serveSuspended_tracker _ b)
    · exact taken
    · exact taken.still (endProgram_tracker _ b)

theorem epochs_interruptedProgram (b : BankId) : s.EpochSteps (s.interruptedProgram b) := by
  rw [State.interruptedProgram]
  split
  · exact epochs_judgeAttempt s b _
  · exact epochs_judgeAttempt s b _
  · exact .refl s
  · exact .refl s
  · exact (epochs_setBank s b _).trans (epochs_metadataOutcome _ _)
  · exact .refl s

theorem epochs_interruptedRead (b : BankId) : s.EpochSteps (s.interruptedRead b) := by
  rw [State.interruptedRead]
  split
  · exact (epochs_setBank s b _).trans (epochs_jobFailed _ _ _)
  · exact .refl s

theorem epochs_leaveReset (b : BankId) : s.EpochSteps (s.leaveReset b) := by
  have settled := ((epochs_interruptedProgram s b).trans (epochs_judgeEnd _)).trans (epochs_interruptedRead _ b)
  exact .ite _ (settled.still (leaveProgram_tracker _ b)) settled

theorem epochs_takeResetDone (bank : Nat) : s.EpochSteps (s.takeResetDone bank) := by
  rw [State.takeResetDone]
  split
  · exact .refl s
  · exact .ite _ ((epochs_setBank s _ _).trans (epochs_bankMarked _))
      ((epochs_setBank s _ _).trans (epochs_leaveReset _ _))

/-! ### Directives -/

theorem epochs_answerDirective (tag : Nat) (result : Result) (payload : List Byte) :
    s.EpochSteps (s.answerDirective tag result payload) := .of_same rfl

theorem epochs_judgeDirective (which : Directive) (d : DirRequest) (body : DirRequest → State → State)
    (h : ∀ t : State, t.EpochSteps (body d t)) : s.EpochSteps (s.judgeDirective which d body) := by
  have staged : s.EpochSteps (if which.exempt then s else s.discardStaging) :=
    .ite _ (.refl s) (.of_same (discardStaging_tracker s))
  exact .ite _ (staged.trans (epochs_answerDirective _ _ _ _))
    (.ite _ (staged.trans (epochs_answerDirective _ _ _ _)) (staged.trans (h _)))

/-- A fence is taken only while the epoch list has room (R34). -/
theorem epochs_flush (d : DirRequest) : s.EpochSteps (flushBody d s) := by
  rw [flushBody]
  split
  · next room => exact epochs_takeFence s _ _ room fun _ _ => rfl
  · exact epochs_answerDirective s _ _ _

theorem epochs_rangeApply (d : DirRequest) : s.EpochSteps (rangeApplyBody d s) := by
  have staged (t : State) (x : Staging) : t.EpochSteps (t.setStaging x) := .of_same rfl
  have holds (t : State) (x : DirectiveEngine) : t.EpochSteps { t with engine := x } := .of_same rfl
  have waits (t : State) (x : RegionUnit) : t.EpochSteps { t with region := x } := .of_same rfl
  have applies (t : State) (outcome : ApplyOutcome) : t.EpochSteps (t.takeApply d.tag outcome) := by
    cases outcome with
    | answer result entry => cases entry <;> exact epochs_answerDirective t _ _ _
    | change c => exact (holds t _).trans (.ite _ (waits _ _) ((epochs_joinRequest _ _).trans (epochs_kick _)))
  rw [rangeApplyBody]
  split
  · exact (staged s _).trans (applies _ _)
  · exact (staged s _).trans (epochs_answerDirective _ _ _ _)
  · exact (staged s _).trans (epochs_answerDirective _ _ _ _)

theorem epochs_releaseStranded (tag : Nat) (i : SlotId) : s.EpochSteps (s.releaseStranded tag i) := by
  have holds (x : DirectiveEngine) : s.EpochSteps { s with engine := x } := .of_same rfl
  exact .ite _ ((State.EpochSteps.of_same (freeSlot_tracker s i)).trans (epochs_answerDirective _ _ _ _))
    (.ite _ (epochs_answerDirective s _ _ _) (((holds _).trans (epochs_handOwn _ _)).trans (epochs_kick _)))

theorem epochs_release (d : DirRequest) : s.EpochSteps (releaseBody d s) := by
  rw [releaseBody]
  split
  · exact .ite _ (epochs_releaseStranded s _ _) (epochs_answerDirective s _ _ _)
  · exact epochs_answerDirective s _ _ _

theorem rangeFirstBody_tracker (d : DirRequest) : (rangeFirstBody d s).tracker = s.tracker := by
  unfold rangeFirstBody; repeat' split
  all_goals rfl

theorem rangeLastBody_tracker (d : DirRequest) : (rangeLastBody d s).tracker = s.tracker := by
  unfold rangeLastBody; repeat' split
  all_goals rfl

theorem rangeScrubBody_tracker (d : DirRequest) : (rangeScrubBody d s).tracker = s.tracker := by
  unfold rangeScrubBody; split <;> rfl

theorem regionListBody_tracker (d : DirRequest) : (regionListBody d s).tracker = s.tracker := by
  unfold regionListBody; split <;> rfl

theorem remapQueryBody_tracker (d : DirRequest) : (remapQueryBody d s).tracker = s.tracker := by
  unfold remapQueryBody; split <;> rfl

theorem statusFetchBody_tracker (d : DirRequest) : (statusFetchBody d s).tracker = s.tracker := by
  unfold statusFetchBody; repeat' split
  all_goals rfl

theorem profileBody_tracker (d : DirRequest) : (profileBody d s).tracker = s.tracker := by
  unfold profileBody State.probeProfile State.applyProfile; repeat' split
  all_goals simp

theorem answerUnknown_tracker (d : DirRequest) : (s.answerUnknown d).tracker = s.tracker := by
  simp [State.answerUnknown]

/-- A command of a directive changes the epoch list as the directive's body does. -/
theorem epochs_directive (which : Directive) (body : DirRequest → State → State) (t : State)
    (h : ∀ d (t : State), t.EpochSteps (body d t)) (ht : execDirective which body s = .next t) : s.EpochSteps t := by
  rw [execDirective] at ht
  split at ht
  · cases ht
    exact epochs_act s _ _ ((State.EpochSteps.of_same (popDirective_tracker s)).trans
      (epochs_examineTag _ _ _ _ fun u => epochs_judgeDirective u which _ body (h _)))
  · cases ht; exact .refl s

/-! ### Writes, lines, scrubs and timers -/

/-- A write that carries FENCE is absorbed only while the epoch list has room, and takes its fence then (R31, R33). -/
theorem epochs_absorbOrWait (w : WriteRequest) : s.EpochSteps (s.absorbOrWait w) := by
  rw [State.absorbOrWait]
  split
  · next absorbs =>
    have absorbed := epochs_absorbWrite s (w.address / 256) (w.address % 256) w.data .host
    rw [State.absorbHost]
    split
    · next fence =>
      have room : s.tracker.epochs.length < 8 := by
        simp only [State.canAbsorb, fence, Bool.not_true, Bool.false_or, Bool.and_eq_true, decide_eq_true_eq] at absorbs
        exact absorbs.1
      exact absorbed.trans (epochs_takeFence _ _ _ (by rwa [absorbWrite_length]) fun _ _ => rfl)
    · exact absorbed.still rfl
  · exact epochs_link s _

theorem epochs_judgeWrite (w : WriteRequest) : s.EpochSteps (s.judgeWrite w) := by
  have answered (result : Result) : s.EpochSteps (s.answerWrite w.tag result) := .of_same rfl
  refine .ite _ (answered _) (.ite _ (answered _) (.ite _ (answered _) (.ite _ (answered _) (.ite _ (answered _)
    (.ite _ (answered _) ?_)))))
  split
  · exact .of_same (protectWrite_tracker s w _)
  · exact epochs_absorbOrWait s w

theorem epochs_judgeWaiting (w : WriteRequest) : s.EpochSteps (s.judgeWaiting w) := by
  have emptied := epochs_link s { s.link with head := none }
  refine .ite _ (emptied.still rfl) ?_
  split
  · exact .ite _ (emptied.still (protectWrite_tracker _ w _)) (.refl s)
  · exact emptied.trans (epochs_absorbOrWait _ w)

theorem epochs_powerWarn : s.EpochSteps s.powerWarn := by
  rw [State.powerWarn]
  split
  · exact epochs_control s _
  · exact epochs_beginDrain s _
  · exact epochs_beginDrain s _
  · split
    · exact epochs_control s _
    · exact .refl s
  · exact .refl s
  · exact .refl s
  · exact .refl s

theorem epochs_resetRelease : s.EpochSteps s.release :=
  .of_same (beginStartup_tracker _ _)

theorem epochs_visit (w : Walker) : s.EpochSteps (s.visit w) :=
  .ite _ (.of_same (endVisit_tracker s _)) (.ite _ ((epochs_absorbWrite s _ _ _ _).still (endVisit_tracker _ _)) (.refl s))

theorem epochs_failCarried (bank : Bank) : s.EpochSteps (s.failCarried bank) := by
  have failed : s.EpochSteps (if bank.carriesRead then s.startupReadFailed else s) :=
    .ite _ (epochs_startupReadFailed s) (.refl s)
  rw [State.failCarried]
  split
  · exact failed.trans (epochs_metadataOutcome _ _)
  · exact failed
  · exact failed

theorem epochs_resetExpired (b : BankId) : s.EpochSteps (s.resetExpired b) :=
  .ite _ (.ite _ ((epochs_setBank s b _).trans (epochs_bankMarked _))
    ((epochs_setBank s b _).trans (epochs_failCarried _ _))) (epochs_enterFaulted s _)

theorem epochs_atExpiry (t : Timer) : s.EpochSteps (s.atExpiry t) := .of_same rfl

/-! ### Commands -/

/-- The state that a command leads to. -/
theorem epochs_of_next {x t : State} (h : s.EpochSteps x)
    (e : (.next x : Host.Outcome State Fault Refusal) = .next t) : s.EpochSteps t := by
  cases e; exact h

/-- Every command changes the epoch list by events alone. -/
theorem epochs_exec (c : Instr) (t : State) (h : exec c s = .next t) : s.EpochSteps t := by
  cases c with
  | hostRequestArrival packet => exact epochs_of_next s (epochs_act s true _ (.of_same (arrive_tracker s packet))) h
  | readTake =>
    rw [exec, execReadTake] at h
    split at h
    · exact epochs_of_next s (epochs_act s true _ (.of_same ((examineTag_tracker _ _ _ _ fun u =>
        judgeRead_tracker u _).trans (popMemory_tracker s)))) h
    · exact epochs_of_next s (.refl s) h
  | writeTake =>
    rw [exec, execWriteTake] at h
    split at h
    · exact epochs_of_next s (epochs_act s true _ ((State.EpochSteps.of_same (popMemory_tracker s)).trans
        (epochs_examineTag _ _ _ _ fun u => epochs_judgeWrite u _))) h
    · exact epochs_of_next s (.refl s) h
  | stalledWriteAbsorb =>
    rw [exec, execStalledWriteAbsorb] at h
    split at h
    · exact epochs_of_next s (epochs_act s true _ (epochs_judgeWaiting s _)) h
    · exact epochs_of_next s (.refl s) h
  | closeTimerExpiry slot =>
    exact epochs_of_next s (epochs_act s _ _ ((epochs_atExpiry s _).still (closeSlot_tracker _ slot))) h
  | readDone bank tag outcome => exact epochs_of_next s (epochs_act s _ _ (epochs_takeReadDone s bank tag outcome)) h
  | readTimerExpiry bank =>
    exact epochs_of_next s (epochs_act s _ _ ((((epochs_atExpiry s _).still (timeOutRead_tracker _ bank)).still
      (failAttempt_tracker _ bank _)).still (sendReset_tracker _ bank))) h
  | programDone bank tag outcome =>
    exact epochs_of_next s (epochs_act s _ _ (epochs_takeProgramDone s bank tag outcome)) h
  | programTimerExpiry bank =>
    exact epochs_of_next s (epochs_act s _ _ (((epochs_atExpiry s _).still (failAttempt_tracker _ bank _)).still
      (sendReset_tracker _ bank))) h
  | suspendAck bank tag answer => exact epochs_of_next s (epochs_act s _ _ (epochs_takeSuspendAck s bank tag answer)) h
  | resetDone bank => exact epochs_of_next s (epochs_act s _ _ (epochs_takeResetDone s bank)) h
  | resetTimerExpiry bank =>
    exact epochs_of_next s (epochs_act s _ _ ((epochs_atExpiry s _).trans (epochs_resetExpired _ bank))) h
  | metadataRequestJoin who =>
    have region (x : RegionUnit) : s.EpochSteps { s with region := x } := .of_same rfl
    rw [exec, execMetadataRequestJoin] at h
    split at h
    · cases who with
      | remapUnit => exact epochs_of_next s (epochs_act s true _ ((epochs_handHeld s _).trans (epochs_kick _))) h
      | regionUnit =>
        exact epochs_of_next s (epochs_act s true _ (((region _).trans (epochs_joinRequest _ _)).trans (epochs_kick _))) h
    · exact epochs_of_next s (.refl s) h
  | identifyDone bankCount exponent spares version =>
    exact epochs_of_next s (epochs_act s _ _ (epochs_takeIdentify s bankCount exponent spares version)) h
  | identifyTimerExpiry =>
    exact epochs_of_next s (epochs_act s _ _ ((epochs_atExpiry s _).trans (epochs_enterFaulted _ _))) h
  | resetNAssert => exact epochs_of_next s (epochs_anew s s.hardReset rfl) h
  | resetNRelease => exact epochs_of_next s (.ite _ ((epochs_resetRelease s).trans (epochs_settle _)) (.refl s)) h
  | powerWarnAssert =>
    have risen : s.EpochSteps { s with pins := { s.pins with powerWarn := true } } := .of_same rfl
    rw [exec, execPowerWarnAssert] at h
    split at h
    · exact epochs_of_next s (.refl s) h
    · exact epochs_of_next s (.ite _ risen ((risen.trans (epochs_powerWarn _)).trans (epochs_settle _))) h
  | powerWarnDeassert =>
    have lowered : s.EpochSteps { s with pins := { s.pins with powerWarn := false } } := .of_same rfl
    exact epochs_of_next s lowered h
  | flush => exact epochs_directive s .flush flushBody t (fun d t => epochs_flush t d) h
  | rangeFirst => exact epochs_directive s _ _ t (fun d t => .of_same (rangeFirstBody_tracker t d)) h
  | rangeLast => exact epochs_directive s _ _ t (fun d t => .of_same (rangeLastBody_tracker t d)) h
  | rangeApply => exact epochs_directive s _ _ t (fun d t => epochs_rangeApply t d) h
  | rangeScrub => exact epochs_directive s _ _ t (fun d t => .of_same (rangeScrubBody_tracker t d)) h
  | regionList => exact epochs_directive s _ _ t (fun d t => .of_same (regionListBody_tracker t d)) h
  | release => exact epochs_directive s _ _ t (fun d t => epochs_release t d) h
  | remapQuery => exact epochs_directive s _ _ t (fun d t => .of_same (remapQueryBody_tracker t d)) h
  | restart =>
    exact epochs_directive s _ _ t (fun _ t => (epochs_answerDirective t _ _ _).trans (epochs_beginDrain _ _)) h
  | reformat =>
    exact epochs_directive s _ _ t (fun _ t => (epochs_answerDirective t _ _ _).trans (epochs_beginReformat _)) h
  | statusFetch => exact epochs_directive s _ _ t (fun d t => .of_same (statusFetchBody_tracker t d)) h
  | incidentTake => exact epochs_directive s .incidentTake incidentTakeBody t (fun _ _ => .of_same rfl) h
  | profile => exact epochs_directive s _ _ t (fun d t => .of_same (profileBody_tracker t d)) h
  | unknownDirective =>
    rw [exec, execUnknownDirective] at h
    split at h
    · exact epochs_of_next s (epochs_act s true _ (.of_same ((examineTag_tracker _ _ _ _ fun u =>
        answerUnknown_tracker u _).trans (popDirective_tracker s)))) h
    · exact epochs_of_next s (.refl s) h
  | scrubVisit =>
    rw [exec, execScrubVisit] at h
    split at h
    · exact epochs_of_next s (epochs_act s _ _ (epochs_visit s _)) h
    · exact epochs_of_next s (.refl s) h
  | packetSend => exact epochs_of_next s (epochs_act s _ _ (.of_same (sendFront_tracker s))) h

end

end Sys2Proof.Machine

namespace Sys2Proof

open Machine

/-- Settles O58: a command, or the clock, changes the epoch list by events, and each of them keeps its law. -/
theorem everyStepKeepsTheEpochListLawful : Obligations.EveryStepKeepsTheEpochListLawful := by
  intro s t lawful h
  have steps : s.EpochSteps t := by
    rw [step] at h
    split at h
    · next c rest _ =>
      have queued : s.EpochSteps { s with pending := rest } := .of_same rfl
      exact queued.trans (epochs_exec _ c t h)
    · exact epochs_of_next s (.of_same (State.tick_tracker s)) h
  exact steps.lawful lawful

end Sys2Proof
end

/-! ## The reset state and the requests held for room -/

section
/-!
SUPPORT. What METADATA_REQUEST_JOIN does, with the statements about it and about the reset state.
-/

namespace Sys2Proof.Machine

section
variable (s : State)

theorem kick_of_appending (h : s.writer.state = .appending) : s.kick = s := by
  simp [State.kick, h]

theorem heldDue?_of_no_room (who : Requester) (h : 8 ≤ s.writer.list.length) : s.heldDue? who = none := by
  simp [State.heldDue?, Nat.not_lt.mpr h]

theorem heldDue?_of_ended (who : Requester) (h : s.control.state = .dormant ∨ s.control.state = .faulted) :
    s.heldDue? who = none := by
  rcases h with h | h <;> simp [State.heldDue?, h]

theorem heldDue?_of_room (who : Requester) (h : s.writer.list.length < 8) (hd : s.control.state ≠ .dormant)
    (hf : s.control.state ≠ .faulted) : s.heldDue? who
      = match who with
        | .remapUnit => s.remap.held.head?
        | .regionUnit => s.region.held := if_pos ⟨h, hd, hf⟩

theorem metadataRequestJoin_none (who : Requester) (h : s.heldDue? who = none) :
    exec (.metadataRequestJoin who) s = .next s := by
  rw [exec, execMetadataRequestJoin, h]

/-- A request joins an append in progress and waits: nothing becomes due. -/
theorem act_joined (x : RemapUnit) (y : RegionUnit) (r : Request) (hr : s.ready = true)
    (hw : s.writer.state = .appending) :
    s.act true (State.joinRequest { s with remap := x, region := y } r).kick = State.judgeAlert { s with
      remap := x, region := y, writer := { s.writer with list := s.writer.list ++ [r] } } := by
  let u : State := { s with remap := x, region := y, writer := { s.writer with list := s.writer.list ++ [r] } }
  have joins : State.joinRequest { s with remap := x, region := y } r = u :=
    joinRequest_of_working _ r (by simp [hw])
  rw [joins, kick_of_appending u hw]
  exact act_settled s u hr ((quiet_congr s u rfl rfl (fun _ => rfl) rfl rfl).trans (ready_quiet s hr))

/-- The Remap Unit, which holds a request, hands its next one. -/
theorem metadataRequestJoin_remap (r : Request) (rest : List Request) (hl : s.writer.list.length < 8)
    (hd : s.control.state ≠ .dormant) (hf : s.control.state ≠ .faulted) (h : s.remap.held = r :: rest) :
    exec (.metadataRequestJoin .remapUnit) s = .next (s.act true (s.handHeld r).kick) := by
  have due : s.heldDue? .remapUnit = some r := by rw [heldDue?_of_room s _ hl hd hf, h]; rfl
  rw [exec, execMetadataRequestJoin, due]; rfl

theorem metadataRequestJoin_region (r : Request) (hl : s.writer.list.length < 8)
    (hd : s.control.state ≠ .dormant) (hf : s.control.state ≠ .faulted) (h : s.region.held = some r) :
    exec (.metadataRequestJoin .regionUnit) s
      = .next (s.act true (({ s with region := { s.region with held := none } }).joinRequest r).kick) := by
  have due : s.heldDue? .regionUnit = some r := by rw [heldDue?_of_room s _ hl hd hf, h]
  rw [exec, execMetadataRequestJoin, due]; rfl

/-- The two oldest unrecorded retirements, or the last one, join ahead of the request that is held (R86, R88). -/
theorem metadataRequestJoin_retires (hr : s.ready = true) (hw : s.writer.state = .appending)
    (hl : s.writer.list.length < 8) (hd : s.control.state ≠ .dormant) (hf : s.control.state ≠ .faulted)
    (h : s.remap.held ≠ []) (hu : s.remap.unrecorded ≠ []) :
    exec (.metadataRequestJoin .remapUnit) s = .next (State.judgeAlert { s with
      remap := { s.remap with unrecorded := s.remap.unrecorded.drop 2 },
      writer := { s.writer with
        list := s.writer.list ++ [Request.of (.retire (s.remap.unrecorded.take 2))] } }) := by
  obtain ⟨r, rest, held⟩ := List.exists_cons_of_ne_nil h
  rw [metadataRequestJoin_remap s r rest hl hd hf held, handHeld_of_unrecorded s r hu, State.handRetirement]
  exact congrArg Host.Outcome.next (act_joined s _ s.region _ hr hw)

end

end Sys2Proof.Machine

namespace Sys2Proof

open Machine

/-- Settles O2: a check of one state. -/
theorem resetStateMeetsTheInvariants : Obligations.ResetStateMeetsTheInvariants := by
  refine ⟨?_, ?_, ?_⟩ <;> decide

/-- Settles O35, a lemma of the join for each clause. -/
theorem heldRequestJoinsTheList : Obligations.HeldRequestJoinsTheList := by
  refine ⟨fun s who ended => metadataRequestJoin_none s who (heldDue?_of_ended s who ended),
    fun s hr hw hd hf => ⟨?_, ?_, ?_, ?_, ?_⟩⟩
  · intro r rest room held recorded
    rw [metadataRequestJoin_remap s r rest room hd hf held, handHeld_of_recorded s r recorded, held]
    exact congrArg Host.Outcome.next (act_joined s _ s.region r hr hw)
  · intro x y more room held unrecorded
    rw [metadataRequestJoin_retires s hr hw room hd hf held (by simp [unrecorded]), unrecorded]
    rfl
  · intro x room held unrecorded
    rw [metadataRequestJoin_retires s hr hw room hd hf held (by simp [unrecorded]), unrecorded]
    rfl
  · intro r room held
    rw [metadataRequestJoin_region s r room hd hf held]
    exact congrArg Host.Outcome.next (act_joined s s.remap _ r hr hw)
  · intro who full
    exact metadataRequestJoin_none s who (heldDue?_of_no_room s who full)

end Sys2Proof
end

/-! ## The end of an append -/

section
/-!
SUPPORT. What the PROGRAM_DONE of a log page program does: the answers to the requests of the program, one lemma for
each kind, and around them the log and the bank.
-/

namespace Sys2Proof.Machine

section
variable (s : State)

/-! ### Where nothing waits for a bank -/

theorem noneWaits_iff (bank : Bank) :
    bank.noneWaits = true ↔ bank.programQueue = [] ∧ bank.readQueue = [] ∧ bank.batch = 0 := by
  simp [Bank.noneWaits, and_assoc]

/-- Nothing waits for any bank, and no metadata program is pending. -/
structure State.Calm (s : State) : Prop where
  banks : ∀ k, (s.bank k).noneWaits = true
  pendingMeta : s.sched.pendingMeta = none

variable {s} in
theorem State.Calm.arbitrate (h : s.Calm) (b : BankId) : s.arbitrate b = s := by
  obtain ⟨programs, reads, batch⟩ := (noneWaits_iff _).mp (h.banks b)
  exact arbitrate_of_nothing s b batch (metaFor?_of_none s b h.pendingMeta) programs reads

variable {s} in
theorem State.Calm.of_sched {t : State} (h : s.Calm) (hs : t.sched = s.sched) : t.Calm :=
  ⟨fun k => by rw [State.bank, hs]; exact h.banks k, by rw [hs]; exact h.pendingMeta⟩

variable {s} in
theorem State.Calm.arbitrateAll (h : s.Calm) : s.arbitrateAll = s := by
  have stays (l : List BankId) : l.foldl State.arbitrate s = s := by
    induction l with
    | nil => rfl
    | cons b l ih => rw [List.foldl_cons, h.arbitrate, ih]
  exact stays allBanks

/-! ### The append and its bank (R65, R104) -/

/-- A log page program in flight at a bank for which nothing waits, that leaves the active half 32 free positions. -/
structure State.LastAppend (s : State) (b : BankId) (q : Nat) (p : WriterProgram) : Prop where
  ready : s.ready = true
  named : s.namesBank b.val = true
  programming : (s.bank b).monitor = .programming
  metadata : (s.bank b).program = .metadata
  awaited : (s.bank b).awaited = [.programDone q]
  queues : (s.bank b).noneWaits = true
  appending : s.writer.state = .appending
  inHand : s.writer.program = some p
  room : s.writer.used + p.records + 32 ≤ 1024

variable {s} in
theorem lastAppend_of_inLastAppend {b : BankId} {q : Nat} {p : WriterProgram} (h : s.inLastAppend b q p = true) :
    s.LastAppend b q p ∧ (∀ k, (s.bank k).noneWaits = true) ∧ s.writer.list = [] ∧ s.remap.held = [] := by
  simp only [State.inLastAppend, Bool.and_eq_true, beq_iff_eq, Bool.or_eq_true, Option.isNone_iff_eq_none,
    decide_eq_true_eq, List.isEmpty_iff, List.all_eq_true] at h
  obtain ⟨⟨⟨⟨⟨⟨⟨⟨⟨⟨ready, known⟩, programming⟩, metadata⟩, awaited⟩, waits⟩, appending⟩, inHand⟩, list⟩, held⟩,
    room⟩ := h
  exact ⟨⟨ready, namesBank_of_known s b known, programming, metadata, awaited, waits b (mem_allBanks b), appending,
    inHand, room⟩, fun k => waits k (mem_allBanks k), list, held⟩

/-- The log page has persisted and its requests are about to be answered (R54, R65, R104). -/
def State.answering (s : State) (b : BankId) (p : WriterProgram) : State :=
  { s with
    sched := {
      banks := s.sched.banks.set b.val
        { s.bank b with program := .absent, programTimer := .stopped, awaited := [] },
      pendingMeta := none },
    writer := { s.writer with used := s.writer.used + p.records, buffer := p.image } }

theorem bank_answering (b : BankId) (p : WriterProgram) :
    (s.answering b p).bank b = { s.bank b with program := .absent, programTimer := .stopped, awaited := [] } := by
  simp [State.bank, State.answering]

theorem noneWaits_set (b k : BankId) (x : Bank) (t : State) (hb : t.sched.banks = s.sched.banks.set b.val x)
    (hx : x.noneWaits = (s.bank b).noneWaits) : (t.bank k).noneWaits = (s.bank k).noneWaits := by
  by_cases e : b = k
  · subst e; simp only [State.bank, hb, Vector.getElem_set_self]; exact hx
  · simp only [State.bank, hb]; rw [Vector.getElem_set_ne _ _ fun same => e (Fin.ext same)]

theorem calm_answering (b : BankId) (p : WriterProgram) (h : ∀ k, (s.bank k).noneWaits = true) :
    (s.answering b p).Calm :=
  ⟨fun k => (noneWaits_set s b k _ _ rfl (by rfl)).trans (h k), rfl⟩

theorem calm_appended (b : BankId) (p : WriterProgram) (h : ∀ k, (s.bank k).noneWaits = true) :
    (s.appended b p).Calm :=
  ⟨fun k => (noneWaits_set s b k _ _ rfl (by rfl)).trans (h k), rfl⟩

theorem bufferAfter_eq (used : Nat) (image : List Record) (h : used + 32 ≤ 1024) :
    bufferAfter used image = if used % 16 = 0 then List.replicate 16 Record.blank else image := by
  rw [bufferAfter, if_neg (by omega)]; rfl

/-- The writer's part: the log advances around the answers, and no append follows. -/
theorem metadataOutcome_appends (p : WriterProgram) (v : State) (y : Option WriterProgram)
    (hw : s.writer.state = .appending) (hp : s.writer.program = some p)
    (room : s.writer.used + p.records + 32 ≤ 1024)
    (hv : answerCarried p.carried { s.setPendingMeta none with
      writer := { s.writer with used := s.writer.used + p.records, buffer := p.image } } = v)
    (writer : v.writer = { s.writer with used := s.writer.used + p.records, buffer := p.image, program := y })
    (hk : s.writer.list = [] ∨ v.drainOver = true) : s.metadataOutcome true
      = { v with writer := { s.writer with
          state := .idle, used := s.writer.used + p.records, program := none,
          buffer := if (s.writer.used + p.records) % 16 = 0 then List.replicate 16 Record.blank else p.image } } := by
  let w : State := { v with writer := { s.writer with
    state := .idle, used := s.writer.used + p.records, program := none,
    buffer := if (s.writer.used + p.records) % 16 = 0 then List.replicate 16 Record.blank else p.image } }
  have ended : { v with writer := { v.writer with
      state := .idle, program := none, buffer := bufferAfter (s.writer.used + p.records) p.image } } = w := by
    rw [bufferAfter_eq _ _ room, writer]
  have kicked : w.kick = w := hk.elim (kick_of_empty w) (kick_of_drainOver w)
  have appends : (s.setPendingMeta none).appendOk p = w := by
    simp only [State.appendOk, State.setPendingMeta_writer, hv, ended, kicked]
    exact if_neg fun h => by omega
  have outcome : s.writerOutcome true = w := by
    simp only [State.writerOutcome, hp, if_true, State.metaOk, State.setPendingMeta_writer, hw, appends]
  rw [State.metadataOutcome, outcome]
  exact if_neg fun h => by simp [w] at h

/-- PROGRAM_DONE with OK, told by the state that the answers lead to. -/
theorem takeProgramDone_appends (b : BankId) (q : Nat) (p : WriterProgram) (v : State) (y : Option WriterProgram)
    (h : s.LastAppend b q p) (hv : answerCarried p.carried (s.answering b p) = v)
    (sched : v.sched = (s.answering b p).sched)
    (writer : v.writer = { (s.answering b p).writer with program := y })
    (hk : s.writer.list = [] ∨ v.drainOver = true) :
    s.takeProgramDone b.val q .ok
      = { v with sched := (s.appended b p).sched, writer := (s.appended b p).writer } := by
  let x : Bank := { s.bank b with program := .absent, programTimer := .stopped, awaited := [] }
  let w : State := { v with writer := (s.appended b p).writer }
  have taken : ((s.untilTaken b (.programDone q)).stopProgramTimer b).setProgram b .absent = s.setBank b x := by
    simp only [untilTaken_of_alone s b _ h.awaited, State.stopProgramTimer, State.setProgram, bank_setBank,
      h.programming, if_true, setBank_setBank, x]
  have outcome : (s.setBank b x).metadataOutcome true = w :=
    metadataOutcome_appends (s.setBank b x) p v y h.appending h.inHand h.room hv writer hk
  have bank : w.bank b = x := by simp only [w, State.bank, sched]; exact bank_answering s b p
  obtain ⟨programs, reads, batch⟩ := (noneWaits_iff _).mp h.queues
  have idle := enterIdle_of_nothing w b x bank programs reads batch (by simp [w, sched, State.answering])
  have leaves : w.endProgram b = w.enterIdle b := by
    rw [State.endProgram, if_pos (by simp [bank, x]), leaveProgram_of_absent w b (by rw [bank])]
  have takes : s.takeProgramDone b.val q .ok = ((s.setBank b x).metadataOutcome true).endProgram b := by
    simp only [State.takeProgramDone, takingBank?_of_awaited s b _ h.named (by simp [h.awaited] :
      Awaited.programDone q ∈ (s.bank b).awaited), h.metadata, taken]
    rfl
  rw [takes, outcome, leaves, idle]
  simp only [State.setBank, w, sched, State.answering, Vector.set_set, x]
  rfl

end

end Sys2Proof.Machine
end

/-! ## The answers of an append -/

section
/-!
SUPPORT. The requests that an append answers persisted, one lemma for each kind, and the first two clauses of the
statement.
-/

namespace Sys2Proof.Machine

section
variable (s : State)

/-- The program in hand with only these requests left to answer. -/
def State.carrying (s : State) (rest : List Carried) : State :=
  { s with writer := { s.writer with program := s.writer.program.map (fun p => { p with carried := rest }) } }

/-- A request whose last record is carried is answered, and the end point of a drain is judged. -/
theorem answerCarried_last (kind : RequestKind) (taken : Nat) (rest : List Carried) :
    answerCarried (.last kind taken :: rest) s = answerCarried rest
      (((s.carrying rest).requestPersisted { kind := kind, taken := taken, void := false }).judgeEndListing) := rfl

/-- The last answer of an append, outside a drain. -/
theorem answerCarried_of_one (kind : RequestKind) (taken : Nat) (v : State)
    (h : (s.carrying []).requestPersisted { kind := kind, taken := taken, void := false } = v)
    (hd : v.control.drain = none) : answerCarried [.last kind taken] s = v := by
  rw [answerCarried_last, h, judgeEndListing_of_none v (endingDrain?_of_none v hd)]
  rfl

/-- RETIRE changes nothing more (R104). -/
theorem answerCarried_of_retires (carried : List Carried)
    (h : ∀ c ∈ carried, ∃ spares, c.request.kind = .retire spares) (hd : s.control.drain = none) :
    ∃ y, answerCarried carried s = { s with writer := { s.writer with program := y } } := by
  induction carried generalizing s with
  | nil => exact ⟨s.writer.program, rfl⟩
  | cons c rest ih =>
    obtain ⟨spares, kind⟩ := h c List.mem_cons_self
    have persisted : (s.carrying rest).requestPersisted c.request = s.carrying rest := by
      simp [State.requestPersisted, kind]
    have answered : (if c.complete then ((s.carrying rest).requestPersisted c.request).judgeEndListing
        else s.carrying rest) = s.carrying rest := by
      rw [persisted, judgeEndListing_of_none _ (endingDrain?_of_none (s.carrying rest) hd), ite_self]
    obtain ⟨y, more⟩ := ih (s.carrying rest) (fun c' hc' => h c' (List.mem_cons_of_mem _ hc')) hd
    exact ⟨y, (congrArg (answerCarried rest) answered).trans more⟩

/-! ### The slot (R26, R35, R90) -/

/-- The state once the only slot of a page has become FREE, and its epoch counts it no more. -/
def State.freedAlone (s : State) (i : SlotId) (page : Nat) : State :=
  { s with absorb := s.absorb.freed page [i], tracker := s.tracker.lessOne (s.slot i).epoch }

/-- A slot in RECORDING that is its page's only one, in a lawful directory, with an OPEN head epoch. -/
structure State.RecordsAlone (s : State) (i : SlotId) (page : Nat) : Prop where
  recording : (s.slot i).state = .recording
  ofPage : (s.slot i).page = page
  alone : s.slotList page = [i]
  lawful : directoryLawful s.absorb.directory = true
  head : ∃ e rest, s.tracker.epochs = e :: rest ∧ e.state = .opened

theorem freeReported_alone (i : SlotId) (page : Nat) (h : s.RecordsAlone i page) (hc : s.Calm) :
    s.freeReported i = s.freedAlone i page := by
  let t := s.freedState page [i]
  have freed : s.freedWith i = [i] := by
    rw [State.freedWith, olderSlots_of_list s i [] [] (by rw [h.ofPage]; exact h.alone) (by simp)]
    rfl
  have none : t.reexamine page = t := by
    have list : t.slotList page = [] := by rw [slotList_freedState s page [i] h.lawful, h.alone]; simp
    rw [State.reexamine, list, List.foldl_nil]
  have calm : t.Calm := hc.of_sched rfl
  have frees : s.freeSlot i = (t.reexamine page).arbitrate (s.bankOfPage page) := by
    simp only [State.freeSlot, freed, foldl_setSlot, h.ofPage]
    rfl
  obtain ⟨e, rest, epochs, opened⟩ := h.head
  rw [State.freeReported, frees, none, calm.arbitrate]
  exact epochDown_stays t _ e rest epochs (.inl opened)

/-- UNLOST takes the page out of the lost set and frees its slot (R90). -/
theorem unlostPersisted_alone (i : SlotId) (page taken : Nat) (h : s.RecordsAlone i page) (hc : s.Calm)
    (hn : s.outstandingRequests.any (fun r => r.isMapOf i) = false) :
    s.requestPersisted { kind := .unlost (some i) page, taken := taken, void := false }
      = (s.leaveLost page).freedAlone i page := by
  have frees : s.requestPersisted { kind := .unlost (some i) page, taken := taken, void := false }
      = (s.leaveLost page).freeReported i := by
    refine Eq.trans (b := (s.leaveLost page).freeRecorded i page) rfl (if_pos ⟨h.recording, h.ofPage, hn⟩)
  rw [frees]
  exact freeReported_alone (s.leaveLost page) i page
    ⟨h.recording, h.ofPage, h.alone, h.lawful, h.head⟩ (hc.of_sched rfl)

/-! ### MAP (R89) -/

/-- The Remap Unit's tables and the report of a MAP that has persisted (R89). -/
def State.remapped (s : State) (i : SlotId) (page : Nat) (k : BankId) (spare : Nat) (old : Option Nat) : State :=
  { s with
    remap := { s.remap with
      table := installMap page spare s.remap.table,
      free := s.remap.free.set k.val (s.remap.free[k.val].filter (fun x => x.index != spare)),
      retired := match old with
        | some x => s.remap.retired.set k.val (insertNat x s.remap.retired[k.val])
        | none => s.remap.retired },
    engine := { s.engine with
      latched := s.engine.latched ||| 0x10#32,
      incidents := s.engine.incidents ++ [{ kind := .remapped, fence := s.tracker.fenceCounter,
                                            page := some page, bank := some k.val, slot := some i.val,
                                            spareOld := old, operation := some spare }] } }

theorem applyMap_reported (i : SlotId) (page : Nat) (k : BankId) (spare : Nat) (old : Option Nat)
    (hi : s.engine.incidents.length < 16) :
    ((s.applyMap page k spare old).raise
        { kind := .remapped, page := some page, bank := some k.val, slot := some i.val, spareOld := old,
          operation := some spare }).latch .remapped
      = s.remapped i page k spare old := by
  cases old with
  | none => exact congrArg (State.latch · .remapped) (raise_of_room (s.applyMap page k spare none) _ hi)
  | some x => exact congrArg (State.latch · .remapped) (raise_of_room (s.applyMap page k spare (some x)) _ hi)

/-- Once the tables have changed, the slot is FREE, or waits for the UNLOST that is outstanding. -/
theorem mapPersisted_eq (i : SlotId) (page : Nat) (k : BankId) (spare taken : Nat) (old : Option Nat)
    (hi : s.engine.incidents.length < 16)
    (hu : page ∈ s.remap.lost → s.outstandingRequests.any (fun r => r.isUnlostOf i) = true) :
    s.requestPersisted { kind := .map i page k.val spare old, taken := taken, void := false }
      = if page ∈ s.remap.lost then s.remapped i page k spare old
        else (s.remapped i page k spare old).freeReported i := by
  have bank : (Fin.ofNat 8 k.val : BankId) = k := Fin.ofNat_val_eq_self k
  have maps : s.requestPersisted { kind := .map i page k.val spare old, taken := taken, void := false }
      = s.mapPersisted i page k.val spare old := rfl
  simp only [maps, State.mapPersisted, bank, applyMap_reported s i page k spare old hi]
  have lost : (s.remapped i page k spare old).isLost page = decide (page ∈ s.remap.lost) := by
    simp [State.isLost, State.remapped]
  by_cases hl : page ∈ s.remap.lost
  · have waits : (s.remapped i page k spare old).outstandingRequests.any (fun r => r.isUnlostOf i) = true := hu hl
    simp [lost, hl, waits]
  · simp [lost, hl]

end

end Sys2Proof.Machine
end

/-! ## Appends outside a drain, and the end of start-up -/

section
/-!
SUPPORT. The PROGRAM_DONE of an append whose answers leave nothing due, and of the one that carries OPEN_SESSION.
-/

namespace Sys2Proof.Machine

section
variable (s : State)

/-- The command ends as the state after the answers settles. -/
theorem programDone_appends (b : BankId) (q : Nat) (p : WriterProgram) (v t : State) (y : Option WriterProgram)
    (h : s.LastAppend b q p) (hv : answerCarried p.carried (s.answering b p) = v)
    (sched : v.sched = (s.answering b p).sched)
    (writer : v.writer = { (s.answering b p).writer with program := y })
    (hk : s.writer.list = [] ∨ v.drainOver = true)
    (ht : State.settle { v with sched := (s.appended b p).sched, writer := (s.appended b p).writer } = t) :
    exec (.programDone b.val q .ok) s = .next t := by
  rw [programDone_taken s b q .ok h.ready h.named (by simp [h.awaited]),
    takeProgramDone_appends s b q p v y h hv sched writer hk, ht]

/-- Outside a drain and a start-up nothing is due when an append has ended. -/
theorem programDone_appends_calmly (b : BankId) (q : Nat) (p : WriterProgram) (v : State) (y : Option WriterProgram)
    (h : s.LastAppend b q p) (hl : s.writer.list = []) (hv : answerCarried p.carried (s.answering b p) = v)
    (sched : v.sched = (s.answering b p).sched)
    (writer : v.writer = { (s.answering b p).writer with program := y })
    (hd : v.control.drain = none) (hs : v.control.startup = none) :
    exec (.programDone b.val q .ok) s = .next (State.judgeAlert
      { v with sched := (s.appended b p).sched, writer := (s.appended b p).writer }) :=
  programDone_appends s b q p v _ y h hv sched writer (.inl hl) (settle_of_quiet _ (quiet_of_calm _ hd hs))

/-- What `endsAppend` says, in parts. -/
theorem lastAppend_of_endsAppend (b : BankId) (q : Nat) (p : WriterProgram) (h : s.endsAppend b q p = true) :
    s.LastAppend b q p ∧ (s.answering b p).Calm ∧ s.writer.list = [] ∧ s.remap.held = []
      ∧ s.control.drain = none ∧ s.control.startup = none := by
  simp only [State.endsAppend, Bool.and_eq_true, Option.isNone_iff_eq_none] at h
  obtain ⟨last, waits, list, held⟩ := lastAppend_of_inLastAppend h.1.1
  exact ⟨last, calm_answering s b p waits, list, held, h.1.2, h.2⟩

/-- An append of RETIRE alone (R104). -/
theorem programDone_retires (b : BankId) (q : Nat) (p : WriterProgram) (h : s.LastAppend b q p)
    (hl : s.writer.list = []) (hd : s.control.drain = none) (hs : s.control.startup = none)
    (hc : ∀ c ∈ p.carried, ∃ spares, c.request.kind = .retire spares) :
    exec (.programDone b.val q .ok) s = .next (s.appended b p).judgeAlert := by
  obtain ⟨y, answered⟩ := answerCarried_of_retires (s.answering b p) p.carried hc hd
  have ends := programDone_appends_calmly s b q p _ y h hl answered rfl rfl hd hs
  exact ends

/-- A slot of the state that records alone does so while its answers come. -/
theorem recordsAlone_of (t : State) (i : SlotId) (page : Nat) (h : s.RecordsAlone i page) (ha : t.absorb = s.absorb)
    (ht : t.tracker = s.tracker) : t.RecordsAlone i page where
  recording := by rw [State.slot, ha]; exact h.recording
  ofPage := by rw [State.slot, ha]; exact h.ofPage
  alone := by rw [State.slotList, State.dirEntry?, ha]; exact h.alone
  lawful := by rw [ha]; exact h.lawful
  head := by rw [ht]; exact h.head

/-- An append of a slot's UNLOST, where no other request is outstanding (R90). -/
theorem answerCarried_unlost (u : State) (i : SlotId) (page taken : Nat)
    (h : u.RecordsAlone i page) (hc : u.Calm) (hl : u.writer.list = []) (hh : u.remap.held = [])
    (hd : u.control.drain = none) :
    answerCarried [.last (.unlost (some i) page) taken] u
      = ((u.carrying []).leaveLost page).freedAlone i page := by
  have none : (u.carrying []).outstandingRequests.any (fun r => r.isMapOf i) = false := by
    cases hp : u.writer.program <;> simp [State.outstandingRequests, State.carrying, hl, hh, hp]
  exact answerCarried_of_one u _ taken _ (unlostPersisted_alone (u.carrying []) i page taken
    (recordsAlone_of u _ i page h rfl rfl) (hc.of_sched rfl) none) hd

theorem leaveLost_of_kept (page : Nat) (h : page ∉ s.remap.lost) : s.leaveLost page = s := by
  have lost : s.remap.lost.filter (fun x => x != page) = s.remap.lost :=
    List.filter_eq_self.mpr fun x hx => by simp only [bne_iff_ne]; rintro rfl; exact h hx
  rw [State.leaveLost, lost]

/-- An append of a slot's MAP, with the UNLOST behind it when its page is lost (R89). -/
theorem answerCarried_map (u : State) (p : WriterProgram) (i : SlotId) (page : Nat) (k : BankId) (spare taken : Nat)
    (old : Option Nat) (h : u.RecordsAlone i page) (hc : u.Calm) (hp : u.writer.program = some p)
    (hl : u.writer.list = []) (hh : u.remap.held = []) (hd : u.control.drain = none)
    (hi : u.engine.incidents.length < 16) :
    ∃ y, answerCarried (.last (.map i page k.val spare old) taken
        :: (if page ∈ u.remap.lost then [.last (.unlost (some i) page) 0] else [])) u
      = { ((u.remapped i page k spare old).leaveLost page).freedAlone i page with
          writer := { u.writer with program := y } } := by
  by_cases lost : page ∈ u.remap.lost
  · let w := u.carrying [.last (.unlost (some i) page) 0]
    have unlost : w.outstandingRequests.any (fun r => r.isUnlostOf i) = true := by
      simp [w, State.outstandingRequests, State.carrying, hp, Carried.last, Request.isUnlostOf]
    have maps := (mapPersisted_eq w i page k spare taken old hi fun _ => unlost).trans (if_pos lost)
    rw [if_pos lost, answerCarried_last, maps, judgeEndListing_of_none _ (endingDrain?_of_none (w.remapped ..) hd),
      answerCarried_unlost (w.remapped i page k spare old) i page 0 (recordsAlone_of u _ i page h rfl rfl)
        (hc.of_sched rfl) hl hh hd]
    exact ⟨_, rfl⟩
  · let w := u.carrying []
    have maps := (mapPersisted_eq w i page k spare taken old hi fun m => absurd m lost).trans (if_neg lost)
    rw [freeReported_alone (w.remapped i page k spare old) i page (recordsAlone_of u _ i page h rfl rfl)
      (hc.of_sched rfl)] at maps
    rw [if_neg lost, answerCarried_of_one u _ taken _ maps hd,
      leaveLost_of_kept (u.remapped i page k spare old) page lost]
    exact ⟨_, rfl⟩

end

end Sys2Proof.Machine
end

/-! ## The last append of a start-up and of a drain -/

section
/-!
SUPPORT. What a command ends with when the answer to OPEN_SESSION has ended start-up, or the answer to the SHUTDOWN a
drain.
-/

namespace Sys2Proof.Machine

section
variable (s : State)

theorem judgeDrain_of_none (h : s.control.drain = none) : s.judgeDrain = s := by
  simp only [State.judgeDrain, judgeEnd_of_none s (endingDrain?_of_none s h), h]

theorem advanceStartup_of_none (h : s.control.startup = none) : s.advanceStartup = s := by
  simp [State.advanceStartup, State.takeFormat, State.takeOpenSession, State.stage?, h]

/-- Stage 1 waits for the banks alone (R165). -/
theorem advanceStartup_of_resetBanks (stopAsked : Bool)
    (h : s.control.startup = some { stage := .resetBanks, stopAsked := stopAsked }) : s.advanceStartup = s := by
  simp [State.advanceStartup, State.takeFormat, State.takeOpenSession, State.stage?, h]

/-- The bridge enters DORMANT where nothing waits for a bank. -/
theorem enterDormant_of_calm (h : s.Calm) : s.enterDormant
    = { s with control := { s.control with state := .dormant, drain := none, startup := none } } := by
  let t : State := { s with control := { s.control with state := .dormant, drain := none, startup := none } }
  have calm : t.Calm := h.of_sched rfl
  exact calm.arbitrateAll

/-! ### OPEN_SESSION (R167, R168) -/

/-- The record of Bridge Control once start-up has ended in a state with the next session number. -/
def BridgeControl.startedUp (c : BridgeControl) (state : BridgeState) : BridgeControl :=
  { c with state := state, startup := none, session := nextSession c.session }

/-- The bridge RUNNING as start-up leaves it (R30, R167). -/
def State.started (s : State) : State :=
  { s with
    control := s.control.startedUp .running,
    absorb := State.reset.absorb, tracker := State.reset.tracker,
    region := { s.region with staging := .empty, walker := none } }

theorem settle_of_openSession (stopAsked : Bool) (hd : s.control.drain = none)
    (hu : s.control.startup = some { stage := .openSession (some true), stopAsked := stopAsked }) (hc : s.Calm)
    (room : s.writer.used + 32 ≤ 1024) : s.settle
      = State.judgeAlert (if stopAsked then { s with control := s.control.startedUp .dormant } else s.started) := by
  have format : s.takeFormat = s := by simp [State.takeFormat, State.stage?, hu]
  let numbered : State := { s with control := { s.control with session := nextSession s.control.session } }
  have stage : s.stage? = some (.openSession (some true)) := by simp [State.stage?, hu]
  have takes : s.takeOpenSession = if stopAsked then numbered.enterDormant else numbered.enterRunning := by
    rw [State.takeOpenSession, stage]
    simp only [State.endStage, hu, numbered]
  have running : numbered.enterRunning = s.started := if_neg fun h => by
    have used : 1024 < s.writer.used + 32 := h.2
    omega
  have dormant : numbered.enterDormant = { s with control := s.control.startedUp .dormant } := by
    have calm : numbered.Calm := hc.of_sched rfl
    rw [enterDormant_of_calm numbered calm]
    simp only [numbered, BridgeControl.startedUp, hd]
  rw [State.settle, judgeDrain_of_none s hd, State.advanceStartup, format, takes, running, dormant]

/-! ### SHUTDOWN in a POWER drain (R171) -/

/-- No end point comes once the SHUTDOWN has been handed. -/
theorem endingDrain?_of_handed (d : Drain) (h : s.control.drain = some d) (hd : d.shutdown ≠ .notHanded) :
    s.endingDrain? = none := by
  simp [State.endingDrain?, h, Option.filter, hd]

/-- The SHUTDOWN of a drain has been answered. -/
def State.shutDown (s : State) (d : Drain) : State :=
  { s with control := { s.control with drain := some { d with shutdown := .answered } } }

/-- A drain whose SHUTDOWN has been answered ends with the command. -/
theorem judgeDrain_shutDown (d : Drain) :
    (s.shutDown d).judgeDrain = (s.shutDown d).endDrain { d with shutdown := .answered } := by
  have judged : (s.shutDown d).judgeEnd = s.shutDown d :=
    judgeEnd_of_none _ (endingDrain?_of_handed (s.shutDown d) _ rfl (by simp))
  simp only [State.judgeDrain, judged]
  rfl

/-- The append of the SHUTDOWN answers it. -/
theorem answerCarried_shutdown (d : Drain) (session : BitVec 32) (outcome : ShutdownOutcome)
    (fence stranded taken : Nat) (hd : s.control.drain = some d) :
    answerCarried [.last (.shutdown session outcome fence stranded) taken] s = (s.carrying []).shutDown d := by
  have answered : (s.carrying []).noteShutdown = (s.carrying []).shutDown d := by
    have drain : (s.carrying []).control.drain = some d := hd
    rw [State.noteShutdown, drain]
    rfl
  have kind : (s.carrying []).requestPersisted
      { kind := .shutdown session outcome fence stranded, taken := taken, void := false }
      = (s.carrying []).noteShutdown := rfl
  rw [answerCarried_last, kind, answered,
    judgeEndListing_of_none _ (endingDrain?_of_handed ((s.carrying []).shutDown d) _ rfl (by simp))]
  rfl

/-- The bridge DORMANT after a POWER drain. -/
def State.drained (s : State) : State :=
  { s with control := { s.control with state := .dormant, drain := none } }

/-- A POWER drain ends in DORMANT, where a directive that holds the engine is answered. -/
theorem settle_of_powerDrain (d : Drain) (u : State) (hk : d.kind = .power) (hc : s.Calm)
    (hs : s.control.startup = none) (hu : s.drained.answerHolder = u) (hus : u.control.startup = none) :
    (s.shutDown d).settle = u.judgeAlert := by
  have dormant : (s.shutDown d).enterDormant = s.drained := by
    have calm : (s.shutDown d).Calm := hc.of_sched rfl
    rw [enterDormant_of_calm _ calm]
    simp only [State.shutDown, State.drained, hs]
  have ends : (s.shutDown d).endDrain { d with shutdown := .answered } = u := by
    simp only [State.endDrain, hk, dormant, hu]
  rw [State.settle, judgeDrain_shutDown, ends, advanceStartup_of_none u hus]

/-- The PROGRAM_DONE of the append that carries the SHUTDOWN. -/
theorem programDone_shutdown (b : BankId) (q : Nat) (p : WriterProgram) (d : Drain) (t : State) (session : BitVec 32)
    (outcome : ShutdownOutcome) (fence stranded : Nat) (h : s.LastAppend b q p)
    (hp : p.carried = [.last (.shutdown session outcome fence stranded) 0]) (hd : s.control.drain = some d)
    (ht : ((s.appended b p).shutDown d).settle = t) : exec (.programDone b.val q .ok) s = .next t := by
  have answered : answerCarried p.carried (s.answering b p) = ((s.answering b p).carrying []).shutDown d := by
    rw [hp]; exact answerCarried_shutdown _ d session outcome fence stranded 0 hd
  exact programDone_appends s b q p _ t _ h answered rfl rfl (.inr rfl) ht

end

end Sys2Proof.Machine
end

/-! ## The start-up of a RESTART -/

section
/-!
SUPPORT. What the end of a RESTART drain does with the reads, the lanes, the writer and the banks.
-/

namespace Sys2Proof.Machine

section
variable (s : State)

/-! ### The reads (R80) -/

/-- A record ends where nothing waits for a bank: the Absorb Buffer changes in its directory alone. -/
theorem endRecord_of_calm (r : ReadRecord) (result : Result) (h : s.Calm) :
    ∃ absorb, (s.answerRead r.tag result).dropRecord r = { s with
      absorb := absorb,
      reads := s.reads.filter (fun x => x.tag != r.tag),
      link := { s.link with
        tags := s.link.tags.filter (fun x => x != r.tag),
        responses := s.link.responses ++ [.readData r.tag result []] } } := by
  let t : State := { s with
    absorb := { s.absorb with
      directory := changeEntry r.page (fun e => { e with pins := e.pins - 1 }) s.absorb.directory },
    reads := s.reads.filter (fun x => x.tag != r.tag),
    link := { s.link with
      tags := s.link.tags.filter (fun x => x != r.tag),
      responses := s.link.responses ++ [.readData r.tag result []] } }
  have calm : t.Calm := h.of_sched rfl
  exact ⟨t.absorb, calm.arbitrate (s.bankOfPage r.page)⟩

/-- The state once records have ended. -/
def State.ended (s : State) (l : List ReadRecord) (result : Result) (absorb : AbsorbBuffer) : State :=
  { s with
    absorb := absorb,
    reads := s.reads.filter (fun x => l.all (fun r => r.tag != x.tag)),
    link := { s.link with
      tags := s.link.tags.filter (fun x => l.all (fun r => r.tag != x)),
      responses := s.link.responses ++ l.map (fun r => .readData r.tag result []) } }

theorem foldl_endRecord_of_calm (l : List ReadRecord) (result : Result) (h : s.Calm) :
    ∃ absorb, l.foldl (fun t r => (t.answerRead r.tag result).dropRecord r) s = s.ended l result absorb := by
  induction l generalizing s with
  | nil => exact ⟨s.absorb, by simp [State.ended]⟩
  | cons r l ih =>
    obtain ⟨first, one⟩ := endRecord_of_calm s r result h
    let t := (s.answerRead r.tag result).dropRecord r
    have sched : t.sched = s.sched := by simp only [t, one]
    have calm : t.Calm := h.of_sched sched
    obtain ⟨absorb, more⟩ := ih t calm
    refine ⟨absorb, ?_⟩
    have all (x : Nat) : (x != r.tag && l.all fun r => r.tag != x) = (r :: l).all fun r => r.tag != x := by
      rw [List.all_cons, bne_comm]
    have rest : t.ended l result absorb = s.ended (r :: l) result absorb := by
      simp only [t, one, State.ended, List.filter_filter, List.map_cons, List.append_assoc, List.singleton_append,
        ← all, Bool.and_comm]
    exact more.trans rest

/-- Every read that waits is answered, in ascending order of tag. -/
theorem endRecords_of_calm (result : Result) (h : s.Calm) : ∃ absorb, s.endRecords result = { s with
    absorb := absorb, reads := [],
    link := { s.link with
      tags := s.link.tags.filter (fun x => s.reads.all (fun r => r.tag != x)),
      responses := s.link.responses
        ++ (sortBy ReadRecord.tag s.reads).map (fun r => .readData r.tag result []) } } := by
  obtain ⟨absorb, ended⟩ := foldl_endRecord_of_calm s (sortBy ReadRecord.tag s.reads) result h
  refine ⟨absorb, ended.trans ?_⟩
  have all (x : Nat) : (sortBy ReadRecord.tag s.reads).all (fun r => r.tag != x) = s.reads.all fun r => r.tag != x :=
    (sortBy_perm _ _).all_eq
  have none : s.reads.filter (fun x => s.reads.all (fun r => r.tag != x.tag)) = [] :=
    List.filter_eq_nil_iff.mpr fun x hx => by
      simp only [List.all_eq_true, bne_iff_ne, not_forall]
      exact ⟨x, hx, fun ne => ne rfl⟩
  simp only [State.ended, all, none]

/-! ### The lanes (R141) -/

/-- Answers that only join the response queue, while the outstanding tags stay. -/
theorem foldl_push {α : Type} (f : State → α → State) (g : α → Packet) (l : List α)
    (h : ∀ (t : State), ∀ a ∈ l, t.link.tags = s.link.tags → f t a = t.push (g a)) :
    l.foldl f s = { s with link := { s.link with responses := s.link.responses ++ l.map g } } := by
  induction l generalizing s with
  | nil => simp
  | cons a l ih =>
    rw [List.foldl_cons, h s a List.mem_cons_self rfl,
      ih (s.push (g a)) fun t b hb => h t b (List.mem_cons_of_mem _ hb)]
    simp [State.push]

/-- A request with a fresh tag is taken and answered: its tag is outstanding no more. -/
theorem examineTag_respond (lane : Lane) (tag : Nat) (p : Packet) (h : tag ∉ s.link.tags) :
    s.examineTag lane tag (fun t => t.respond tag p) = s.push p := by
  rw [examineTag_fresh s lane tag _ h]
  simp [State.respond, State.push, insertNat_filter _ _ h]

/-- The answer to a request that a RESTART finds in the memory lane. -/
def MemRequest.startingAnswer : MemRequest → Packet
  | .read r => .readData r.tag .starting []
  | .write w => .writeDone w.tag .starting 0

/-- The answer to a request that a RESTART finds in the directive lane. -/
def DirRequest.startingAnswer (d : DirRequest) : Packet :=
  .directiveDone d.tag (if (directiveOf? d.code).isSome then .starting else .unknown) []

theorem answerMemStarting_fresh (r : MemRequest) (h : r.tag ∉ s.link.tags) :
    s.answerMemStarting r = s.push r.startingAnswer := by
  cases r with
  | read r => exact examineTag_respond s .memory r.tag _ h
  | write w => exact examineTag_respond s .memory w.tag _ h

theorem answerDirStarting_fresh (d : DirRequest) (h : d.tag ∉ s.link.tags) :
    s.answerDirStarting d = s.push d.startingAnswer := examineTag_respond s .directive d.tag _ h

/-- Both lanes answered and granted in full. -/
theorem answerLanes_fresh (hm : ∀ r ∈ s.link.memLane, r.tag ∉ s.link.tags)
    (hd : ∀ d ∈ s.link.dirLane, d.tag ∉ s.link.tags) : s.answerLanes = { s with
      link := { s.link with
        memLane := [], dirLane := [], memCredits := 16, dirCredits := 4,
        responses := s.link.responses ++ s.link.memLane.map MemRequest.startingAnswer
          ++ s.link.dirLane.map DirRequest.startingAnswer
          ++ [.credit .memory true 16, .credit .directive true 4] } } := by
  let emptied : State := { s with link := { s.link with memLane := [], dirLane := [] } }
  let answered : State := { emptied with link := { emptied.link with
    responses := s.link.responses ++ s.link.memLane.map MemRequest.startingAnswer } }
  have mems : s.link.memLane.foldl State.answerMemStarting emptied = answered :=
    foldl_push emptied _ _ _ fun t r hr ht => answerMemStarting_fresh t r (by rw [ht]; exact hm r hr)
  have dirs := foldl_push answered State.answerDirStarting DirRequest.startingAnswer s.link.dirLane fun t d hr ht =>
    answerDirStarting_fresh t d (by rw [ht]; exact hd d hr)
  have lanes : s.answerLanes = (s.link.dirLane.foldl State.answerDirStarting
    (s.link.memLane.foldl State.answerMemStarting emptied)).fullGrants := rfl
  rw [lanes, mems, dirs]
  simp [State.fullGrants, State.push, answered, emptied]

/-! ### The banks (R165) -/

theorem startReset_eq (b : BankId) (h : (s.bank b).monitor ≠ .resetting) : s.startReset b = { s with
    sched := { s.sched with banks := s.sched.banks.set b.val ((s.bank b).resetAt s.now) },
    arrayOut := s.arrayOut ++ [.bankReset b] } := by
  have sends : s.startReset b = (s.setBank b (s.bank b).unmarked).sendReset b := if_neg h
  rw [sends]
  simp only [State.sendReset, bank_setBank, setBank_setBank]
  rfl

/-- Banks that are not RESETTING are sent BANK_RESET one after another. -/
theorem foldl_startReset (l : List BankId) (nodup : l.Nodup) (h : ∀ b ∈ l, (s.bank b).monitor ≠ .resetting) :
    l.foldl State.startReset s = { s with
      sched := { s.sched with
        banks := l.foldl (fun v b => v.set b.val ((s.bank b).resetAt s.now)) s.sched.banks },
      arrayOut := s.arrayOut ++ l.map ArrayCommand.bankReset } := by
  induction l generalizing s with
  | nil => simp
  | cons b l ih =>
    obtain ⟨first, nodup⟩ := List.nodup_cons.mp nodup
    let t := s.startReset b
    have one : t = { s with
        sched := { s.sched with banks := s.sched.banks.set b.val ((s.bank b).resetAt s.now) },
        arrayOut := s.arrayOut ++ [.bankReset b] } := startReset_eq s b (h b List.mem_cons_self)
    have others (c : BankId) (hc : c ∈ l) : t.bank c = s.bank c := by
      rw [one]
      exact bank_setBank_ne s b c _ (by rintro rfl; exact first hc)
    have banks : l.foldl (fun v c => v.set c.val ((t.bank c).resetAt t.now)) t.sched.banks
        = (b :: l).foldl (fun v c => v.set c.val ((s.bank c).resetAt s.now)) s.sched.banks := by
      have head : t.sched.banks = s.sched.banks.set b.val ((s.bank b).resetAt s.now) := by rw [one]
      have now : t.now = s.now := by rw [one]
      rw [List.foldl_cons, head]
      exact List.foldl_ext _ _ _ fun v c hc => by rw [others c hc, now]
    rw [List.foldl_cons, ih t nodup fun c hc => by rw [others c hc]; exact h c (List.mem_cons_of_mem _ hc), banks]
    simp only [one, List.map_cons, List.append_assoc, List.singleton_append]

/-- Every bank reset, one after another. -/
theorem foldl_set_resetAt (now : Nat) : allBanks.foldl (fun v b => v.set b.val ((s.bank b).resetAt now)) s.sched.banks
    = s.sched.banks.map (fun x => x.resetAt now) := by
  have each (l : List BankId) (v : Vector Bank 8) (k : BankId) :
      (l.foldl (fun v b => v.set b.val ((s.bank b).resetAt now)) v)[k.val]
        = if k ∈ l then (s.bank k).resetAt now else v[k.val] := by
    induction l generalizing v with
    | nil => simp
    | cons b l ih =>
      rw [List.foldl_cons, ih]
      by_cases e : b = k
      · subst e; simp
      · rw [Vector.getElem_set_ne _ _ fun same => e (Fin.ext same)]
        simp [Ne.symm e]
  refine Vector.ext fun k hk => ?_
  rw [each allBanks s.sched.banks ⟨k, hk⟩, if_pos (mem_allBanks _), Vector.getElem_map]
  rfl

end

end Sys2Proof.Machine
end

/-! ## The end of a RESTART drain -/

section
/-!
SUPPORT. The start-up that a RESTART drain ends in.
-/

namespace Sys2Proof.Machine

section
variable (s : State)

/-- The bridge STARTING at stage 1 after a RESTART drain (R80, R141, R165, R173). -/
def State.restarted (s : State) : State :=
  { s with
    control := { s.control with
      state := .starting, drain := none,
      startup := some { stage := .resetBanks, stopAsked := false } },
    reads := [], link := s.link.restarted s.reads,
    writer := { s.writer.emptied with state := .unloaded },
    absorb := State.reset.absorb, tracker := State.reset.tracker, remap := State.reset.remap,
    region := { s.region with table := [] },
    sched := { banks := s.sched.banks.map (fun x => x.resetAt s.now), pendingMeta := none },
    arrayOut := s.arrayOut ++ allBanks.map ArrayCommand.bankReset }

/-- What a RESTART waits for: nothing waits for a bank or in the writer, no bank is RESETTING, and the tags of the
lanes' requests are fresh. -/
structure State.Restartable (s : State) : Prop where
  calm : s.Calm
  list : s.writer.list = []
  inHand : s.writer.program = none
  held : s.remap.held = []
  region : s.region.held = none
  banks : ∀ k, (s.bank k).monitor ≠ .resetting
  memTags : ∀ r ∈ s.link.memLane, r.tag ∉ s.link.tags
  dirTags : ∀ r ∈ s.link.dirLane, r.tag ∉ s.link.tags

/-- The link once the reads have ended and the lanes are answered. -/
theorem restarted_eq (l : HostLink) (reads : List ReadRecord) : l.restarted reads = { l with
    memLane := [], dirLane := [], memCredits := 16, dirCredits := 4,
    tags := l.tags.filter (fun x => reads.all (fun r => r.tag != x)),
    responses := l.responses ++ (sortBy ReadRecord.tag reads).map (fun r => .readData r.tag .starting [])
      ++ l.memLane.map MemRequest.startingAnswer ++ l.dirLane.map DirRequest.startingAnswer
      ++ [.credit .memory true 16, .credit .directive true 4] } := by
  have mems : l.memLane.map MemRequest.startingAnswer = l.memLane.map (fun r => match r with
      | .read x => .readData x.tag .starting []
      | .write w => .writeDone w.tag .starting 0) :=
    List.map_congr_left fun r _ => by cases r <;> rfl
  rw [mems]
  rfl

/-- The writer becomes UNLOADED with nothing to answer. -/
theorem unloadWriter_of_none (hl : s.writer.list = []) (hp : s.writer.program = none) (hh : s.remap.held = [])
    (hr : s.region.held = none) : s.unloadWriter
      = { s.setPendingMeta none with writer := { s.writer.emptied with state := .unloaded } } := by
  have answered : s.writer.unanswered = [] := by simp [Writer.unanswered, Writer.completing, hl, hp]
  rw [State.unloadWriter, answered]
  exact answerWaiting_of_none { s.setPendingMeta none with writer := { s.writer.emptied with state := .unloaded } }
    true hh hr

/-- Stage 1 sends BANK_RESET to every bank. -/
theorem beginStartup_of_none (stopAsked : Bool) (h : ∀ k, (s.bank k).monitor ≠ .resetting) :
    s.beginStartup stopAsked = { s with
      control := { s.control with startup := some { stage := .resetBanks, stopAsked := stopAsked } },
      sched := { s.sched with banks := s.sched.banks.map (fun x => x.resetAt s.now) },
      arrayOut := s.arrayOut ++ allBanks.map ArrayCommand.bankReset } := by
  let t : State :=
    { s with control := { s.control with startup := some { stage := .resetBanks, stopAsked := stopAsked } } }
  have resets := foldl_startReset t allBanks (by decide) fun b _ => h b
  rw [foldl_set_resetAt t t.now] at resets
  exact resets

theorem restartStartup_eq (h : s.Restartable) : s.restartStartup = s.restarted := by
  let entered : State := { s with control := { s.control with state := .starting, drain := none } }
  have calm : entered.Calm := h.calm.of_sched rfl
  obtain ⟨absorb, reads⟩ := endRecords_of_calm entered .starting calm
  let ended := entered.endRecords .starting
  let laned : State := { entered with absorb := absorb, reads := [], link := s.link.restarted s.reads }
  have lanes : ended.answerLanes = laned := by
    have fresh (x : Nat) (hx : x ∉ s.link.tags) : x ∉ ended.link.tags := by
      simp only [ended, reads]
      exact fun m => hx (List.mem_of_mem_filter m)
    have mem : ∀ r ∈ ended.link.memLane, r.tag ∉ ended.link.tags := by
      simp only [ended, reads] at fresh ⊢
      exact fun r hr => fresh _ (h.memTags r hr)
    have dir : ∀ d ∈ ended.link.dirLane, d.tag ∉ ended.link.tags := by
      simp only [ended, reads] at fresh ⊢
      exact fun d hd => fresh _ (h.dirTags d hd)
    rw [answerLanes_fresh ended mem dir]
    simp only [laned, restarted_eq, ended, reads, entered]
  let emptied : State := laned.unloadWriter.emptyForReplay
  have unloads := unloadWriter_of_none laned h.list h.inHand h.held h.region
  have empties : emptied = { laned with
      writer := { s.writer.emptied with state := .unloaded },
      absorb := State.reset.absorb, tracker := State.reset.tracker, remap := State.reset.remap,
      region := { s.region with table := [] },
      sched := { s.sched with pendingMeta := none } } := by
    have region : ({ s.region with table := [], held := none } : RegionUnit) = { s.region with table := [] } := by
      rw [← h.region]
    rw [← region]
    exact congrArg State.emptyForReplay unloads
  have banks (k : BankId) : (emptied.bank k).monitor ≠ .resetting := by rw [empties]; exact h.banks k
  have begins : s.restartStartup = ended.answerLanes.unloadWriter.emptyForReplay.beginStartup false := rfl
  rw [begins, lanes]
  refine (beginStartup_of_none emptied false banks).trans ?_
  rw [empties]
  rfl

/-- A RESTART drain ends with the start-up of the state. -/
theorem settle_of_restartDrain (d : Drain) (hk : d.kind = .restart) (h : s.Restartable) :
    (s.shutDown d).settle = s.restarted.judgeAlert := by
  have able : (s.shutDown d).Restartable :=
    ⟨h.calm.of_sched rfl, h.list, h.inHand, h.held, h.region, h.banks, h.memTags, h.dirTags⟩
  have ends : (s.shutDown d).endDrain { d with shutdown := .answered } = s.restarted := by
    simp only [State.endDrain, hk, restartStartup_eq _ able]
    rfl
  rw [State.settle, judgeDrain_shutDown, ends, advanceStartup_of_resetBanks s.restarted false rfl]

/-- A reset loses all that the end of a program has changed in its bank. -/
theorem restarted_appended (b : BankId) (p : WriterProgram) : (s.appended b p).restarted = { s.restarted with
    writer := { (s.appended b p).writer.emptied with state := .unloaded } } := by
  have banks : (s.appended b p).sched.banks.map (fun x => x.resetAt s.now)
      = s.sched.banks.map (fun x => x.resetAt s.now) := by
    simp only [State.appended, Vector.map_set]
    refine Vector.ext fun k hk => ?_
    rw [Vector.getElem_set]
    split
    · next e => subst e; simp [State.bank, Bank.resetAt]
    · rfl
  rw [State.restarted]
  exact banks ▸ rfl

end

end Sys2Proof.Machine
end

/-! ## The log page program answered OK, clause by clause -/

section
/-!
SUPPORT. The PROGRAM_DONE of an append of each kind, and O37.
-/

namespace Sys2Proof.Machine

section
variable (s : State) (b : BankId) (q : Nat) (p : WriterProgram)

theorem programDone_map (h : s.endsAppend b q p = true) (i : SlotId) (page : Nat) (k : BankId) (spare taken : Nat)
    (old : Option Nat) (hp : p.carried = .last (.map i page k.val spare old) taken
      :: (if page ∈ s.remap.lost then [.last (.unlost (some i) page) 0] else []))
    (hr : s.RecordsAlone i page) (hi : s.engine.incidents.length < 16) :
    exec (.programDone b.val q .ok) s = .next (State.judgeAlert
      (((s.appended b p).remapped i page k spare old).leaveLost page |>.freedAlone i page)) := by
  obtain ⟨last, calm, list, held, drain, startup⟩ := lastAppend_of_endsAppend s b q p h
  obtain ⟨y, answered⟩ := answerCarried_map (s.answering b p) p i page k spare taken old
    (recordsAlone_of s _ i page hr rfl rfl) calm last.inHand list held drain hi
  have ends := programDone_appends_calmly s b q p _ y last list ((congrArg (answerCarried · _) hp).trans answered)
    rfl rfl drain startup
  exact ends

theorem programDone_unlost (h : s.endsAppend b q p = true) (i : SlotId) (page : Nat)
    (hp : p.carried = [.last (.unlost (some i) page) 0]) (hr : s.RecordsAlone i page) :
    exec (.programDone b.val q .ok) s = .next (State.judgeAlert
      (((s.appended b p).leaveLost page).freedAlone i page)) := by
  obtain ⟨last, calm, list, held, drain, startup⟩ := lastAppend_of_endsAppend s b q p h
  have answered := answerCarried_unlost (s.answering b p) i page 0 (recordsAlone_of s _ i page hr rfl rfl) calm list
    held drain
  have ends := programDone_appends_calmly s b q p _ _ last list ((congrArg (answerCarried · _) hp).trans answered)
    rfl rfl drain startup
  exact ends

/-- An UNLOST without a slot takes the page out of the lost set (R90). -/
theorem programDone_unlost_none (h : s.endsAppend b q p = true) (page : Nat)
    (hp : p.carried = [.last (.unlost none page) 0]) :
    exec (.programDone b.val q .ok) s = .next ((s.appended b p).leaveLost page).judgeAlert := by
  obtain ⟨last, calm, list, held, drain, startup⟩ := lastAppend_of_endsAppend s b q p h
  have answered : answerCarried p.carried (s.answering b p) = ((s.answering b p).carrying []).leaveLost page := by
    rw [hp]; exact answerCarried_of_one (s.answering b p) _ 0 _ rfl drain
  have ends := programDone_appends_calmly s b q p _ _ last list answered rfl rfl drain startup
  exact ends

theorem programDone_openSession (h : s.inLastAppend b q p = true) (session : BitVec 32) (stopAsked : Bool)
    (hp : p.carried = [.last (.openSession session) 0]) (hd : s.control.drain = none)
    (hu : s.control.startup = some { stage := .openSession none, stopAsked := stopAsked }) :
    exec (.programDone b.val q .ok) s = .next (State.judgeAlert (if stopAsked
      then { s.appended b p with control := s.control.startedUp .dormant } else (s.appended b p).started)) := by
  obtain ⟨last, waits, list, held⟩ := lastAppend_of_inLastAppend h
  let noted (t : State) : State := { t with control := { s.control with
    startup := some { stage := .openSession (some true), stopAsked := stopAsked } } }
  have notes : ((s.answering b p).carrying []).noteOpenSession true = noted ((s.answering b p).carrying []) := by
    have startup : ((s.answering b p).carrying []).control.startup
      = some { stage := .openSession none, stopAsked := stopAsked } := hu
    rw [State.noteOpenSession, startup]
    rfl
  have answered : answerCarried p.carried (s.answering b p) = noted ((s.answering b p).carrying []) := by
    rw [hp]; exact answerCarried_of_one (s.answering b p) _ 0 _ notes hd
  have calm : (noted (s.appended b p)).Calm := (calm_appended s b p waits).of_sched rfl
  have settles := settle_of_openSession (noted (s.appended b p)) stopAsked hd rfl calm last.room
  have ends := programDone_appends s b q p _ _ _ last answered rfl rfl (.inl list) settles
  exact ends

/-- The SHUTDOWN of a POWER drain, where no directive holds the engine (R171). -/
theorem programDone_powerDrain (d : Drain) (session : BitVec 32) (outcome : ShutdownOutcome) (fence stranded : Nat)
    (h : s.LastAppend b q p) (hw : ∀ k, (s.bank k).noneWaits = true)
    (hp : p.carried = [.last (.shutdown session outcome fence stranded) 0]) (hu : s.control.startup = none)
    (hd : s.control.drain = some d) (hk : d.kind = .power) (hr : s.region.held = none)
    (hh : ∀ r ∈ s.writer.list ++ s.remap.held, r.holdsEngine = false) :
    exec (.programDone b.val q .ok) s = .next (s.appended b p).drained.judgeAlert := by
  have stays : (s.appended b p).drained.answerHolder = (s.appended b p).drained := answerHolder_of_none _ hh hr
  exact programDone_shutdown s b q p d _ session outcome fence stranded h hp hd
    (settle_of_powerDrain (s.appended b p) d _ hk (calm_appended s b p hw) hu stays hu)

/-- The SHUTDOWN of a POWER drain, where a RANGE_APPLY holds the engine (R151, R171). -/
theorem programDone_powerDrain_rangeApply (d : Drain) (session : BitVec 32) (outcome : ShutdownOutcome)
    (fence stranded tag : Nat) (change : RegionChange) (h : s.inLastAppend b q p = true)
    (hp : p.carried = [.last (.shutdown session outcome fence stranded) 0]) (hu : s.control.startup = none)
    (hd : s.control.drain = some d) (hk : d.kind = .power) (hc : s.engine.current = .rangeApply tag)
    (hr : s.region.held = some { kind := .region change, taken := 0, void := false }) :
    exec (.programDone b.val q .ok) s = .next (State.judgeAlert { (s.appended b p).drained with
      region := { s.region with held := none },
      engine := { s.engine with current := .absent },
      link := { s.link with
        tags := s.link.tags.filter (fun x => x != tag),
        responses := s.link.responses ++ [.directiveDone tag .failed []] } }) := by
  obtain ⟨last, waits, list, held⟩ := lastAppend_of_inLastAppend h
  let t : State := { (s.appended b p).drained with region := { s.region with held := none } }
  have failed : t.directiveFailed = t.answerDirective tag .failed [] := by
    have current : t.engine.current = .rangeApply tag := hc
    rw [State.directiveFailed, current]
  have none : ∀ r ∈ s.writer.list ++ s.remap.held, r.holdsEngine = false := by simp [list, held]
  have answers : (s.appended b p).drained.answerHolder = t.answerDirective tag .failed [] :=
    (answerHolder_of_region (s.appended b p).drained change none hr).trans failed
  exact programDone_shutdown s b q p d _ session outcome fence stranded last hp hd
    (settle_of_powerDrain (s.appended b p) d _ hk (calm_appended s b p waits) hu answers hu)

/-- The SHUTDOWN of a RESTART drain (R173). -/
theorem programDone_restartDrain (d : Drain) (session : BitVec 32) (outcome : ShutdownOutcome) (fence stranded : Nat)
    (h : s.inLastAppend b q p = true) (hp : p.carried = [.last (.shutdown session outcome fence stranded) 0])
    (hd : s.control.drain = some d) (hk : d.kind = .restart) (hr : s.region.held = none)
    (hb : ∀ k, (s.bank k).monitor ≠ .resetting) (hm : ∀ r ∈ s.link.memLane, r.tag ∉ s.link.tags)
    (hl : ∀ r ∈ s.link.dirLane, r.tag ∉ s.link.tags) :
    exec (.programDone b.val q .ok) s = .next (s.appended b p).restarted.judgeAlert := by
  obtain ⟨last, waits, list, held⟩ := lastAppend_of_inLastAppend h
  have banks (k : BankId) : ((s.appended b p).bank k).monitor ≠ .resetting := by
    by_cases e : b = k
    · subst e; simp [State.bank, State.appended]
    · have kept : (s.appended b p).bank k = s.bank k := bank_setBank_ne s b k _ e
      rw [kept]; exact hb k
  exact programDone_shutdown s b q p d _ session outcome fence stranded last hp hd
    (settle_of_restartDrain (s.appended b p) d hk
      ⟨calm_appended s b p waits, list, rfl, held, hr, banks, hm, hl⟩)

end

end Sys2Proof.Machine

namespace Sys2Proof

open Machine

/-- Settles O37: PROGRAM_DONE answers the requests of the append one after another, and what their answers leave due
settles as the command ends. -/
theorem persistedAppendAdvancesTheLog : Obligations.PersistedAppendAdvancesTheLog := by
  refine ⟨?retire, ?appends, ?openSession, ?power, ?shutdown⟩
  case retire =>
    intro s b q p ready drain startup known programming metadata awaited waits appending inHand list carried room
    have named : s.namesBank b.val = true := namesBank_of_known s b (by simpa using known)
    exact programDone_retires s b q p ⟨ready, named, programming, metadata, awaited, waits, appending, inHand, room⟩
      list drain startup carried
  case appends =>
    intro s b q p h
    refine ⟨fun i page k spare taken old e rest hp recording ofPage alone lawful epochs opened hi => ?_,
      fun i page e rest hp recording ofPage alone lawful epochs opened => ?_,
      fun page hp => programDone_unlost_none s b q p h page hp⟩
    · exact programDone_map s b q p h i page k spare taken old hp
        ⟨recording, ofPage, alone, lawful, e, rest, epochs, opened⟩ hi
    · exact programDone_unlost s b q p h i page hp ⟨recording, ofPage, alone, lawful, e, rest, epochs, opened⟩
  case openSession =>
    intro s b q p session stopAsked h hp _ drain startup next
    have ends := programDone_openSession s b q p h session stopAsked hp drain startup
    rw [next]
    exact ends
  case power =>
    intro s b q p d session outcome fence stranded h hp _ startup drain _ kind region others
    obtain ⟨last, waits, _, _⟩ := lastAppend_of_inLastAppend h
    have holders (r : Request) (hr : r ∈ s.writer.list ++ s.remap.held) : r.holdsEngine = false := by
      have other := others r hr
      rw [Request.holdsEngine]
      cases kind : r.kind with
      | lost _ | region _ => rw [kind] at other; exact other.elim
      | map | retire | unlost | openSession | shutdown => rfl
    exact programDone_powerDrain s b q p d session outcome fence stranded
      ⟨last.ready, last.named, last.programming, last.metadata, last.awaited, last.queues, last.appending,
        last.inHand, last.room⟩ waits hp startup drain kind region holders
  case shutdown =>
    intro s b q p d session outcome fence stranded h hp _ startup drain _
    obtain ⟨last, waits, list, held⟩ := lastAppend_of_inLastAppend h
    refine ⟨fun kind region => ?_, fun tag change kind current region => ?_, fun kind region banks mem dir => ?_⟩
    · exact programDone_powerDrain s b q p d session outcome fence stranded last waits hp startup drain kind region
        (by simp [list, held])
    · exact programDone_powerDrain_rangeApply s b q p d session outcome fence stranded tag change h hp startup drain
        kind current region
    · have ends := programDone_restartDrain s b q p d session outcome fence stranded h hp drain kind region banks mem
        dir
      have writer : (s.appended b p).writer.emptied = { (s.appended b p).writer with compaction := none } :=
        congrArg (fun l => { (s.appended b p).writer with list := l, compaction := none }) list.symm
      rw [restarted_appended, writer] at ends
      exact ends

end Sys2Proof
end

/-! ## Timers that expire in a program or a read -/

section
/-!
SUPPORT. What the expiry of a program timer or a read timer does to the bank and the attempt, and O30.
-/

namespace Sys2Proof.Machine

section
variable (s : State)

/-! ### When nothing is due -/

/-- Outside a drain a command that leaves Bridge Control and the writer as they are leaves nothing due. -/
theorem quiet_of_undrained (t : State) (h : s.quiet = true) (hd : s.control.drain = none)
    (hc : t.control = s.control) (hw : t.writer.state = s.writer.state) : t.quiet = true := by
  simp only [State.quiet, Bool.and_eq_true, State.stage?] at h ⊢
  rw [hc, hw]
  exact ⟨by rw [hd], h.2⟩

/-! ### A reset is sent (R64, R179) -/

/-- The record of a bank once BANK_RESET has been sent to it. -/
def Bank.resetSent (bank : Bank) (now : Nat) : Bank :=
  { bank with
    monitor := .resetting, programTimer := .stopped, readTimer := .stopped, resetTimer := .running (now + 1000),
    sequence := (bank.sequence + 1) % 16, awaited := [.resetDone] }

theorem sendReset_setBank (b : BankId) (x : Bank) : (s.setBank b x).sendReset b
    = { s.setBank b (x.resetSent s.now) with arrayOut := s.arrayOut ++ [.bankReset b] } := by
  simp only [State.sendReset, bank_setBank, setBank_setBank]
  rfl

/-! ### A failed attempt (R56, R61) -/

theorem failAttempt_inFlight (b : BankId) (i : SlotId) (phase : ProgramPhase)
    (h : (s.bank b).program = .data i .inFlight) : s.failAttempt b phase
      = (s.setSlot i { s.slot i with state := .programming, attempts := (s.slot i).attempts + 1 }).setBank b
          { s.bank b with program := .data i phase } := by
  simp only [State.failAttempt, h]

theorem failAttempt_of_absent (b : BankId) (phase : ProgramPhase) (h : (s.bank b).program = .absent) :
    s.failAttempt b phase = s := by
  simp only [State.failAttempt, h]

/-! ### The expiries -/

/-- A program timer that is due brings the clock to its deadline, fails the attempt and resets the bank. -/
theorem programTimerExpiry_due (b : BankId) (deadline : Nat) (t : State) (hr : s.ready = true)
    (ht : (s.bank b).programTimer = .running deadline)
    (h : (({ s with now := max s.now deadline } : State).failAttempt b .failed).sendReset b = t)
    (hq : t.quiet = true) : exec (.programTimerExpiry b) s = .next t.judgeAlert := by
  rw [exec, execProgramTimerExpiry, ht]
  exact congrArg Host.Outcome.next ((congrArg (s.act true) h).trans (act_settled s t hr hq))

/-- A read timer that is due brings the clock to its deadline, fails the read and a program suspended for it, and
resets the bank. -/
theorem readTimerExpiry_due (b : BankId) (deadline : Nat) (t : State) (hr : s.ready = true)
    (ht : (s.bank b).readTimer = .running deadline)
    (h : ((({ s with now := max s.now deadline } : State).timeOutRead b).failAttempt b .interrupted).sendReset b = t)
    (hq : t.quiet = true) : exec (.readTimerExpiry b) s = .next t.judgeAlert := by
  rw [exec, execReadTimerExpiry, ht]
  exact congrArg Host.Outcome.next ((congrArg (s.act true) h).trans (act_settled s t hr hq))

/-- The record of a bank whose read has failed for the first time: the job waits at the front of the queue with its
retry mark (R63). -/
def Bank.requeued (bank : Bank) (job : ReadJob) : Bank :=
  { bank with
    read := none, readTimer := .stopped, readQueue := { job with retried := true } :: bank.readQueue,
    batch := bank.batch + 1 }

theorem timeOutRead_first (b : BankId) (job : ReadJob) (hj : (s.bank b).read = some job)
    (hn : job.retried = false) : s.timeOutRead b = s.setBank b ((s.bank b).requeued job) := by
  simp only [State.timeOutRead, hj, hn, Bool.false_eq_true, if_false]
  rfl

/-- A second failure by an expiry raises BANK_TIMEOUT, while the incident queue has room (R63). -/
theorem timeOutRead_second (b : BankId) (job : ReadJob) (hj : (s.bank b).read = some job)
    (hn : job.retried = true) (hi : s.engine.incidents.length < 16) : s.timeOutRead b = { s with
      engine := { s.engine with
        latched := s.engine.latched ||| 0x400#32,
        incidents := s.engine.incidents ++ [{ kind := .bankTimeout, fence := s.tracker.fenceCounter,
                                              bank := some b.val, index := some job.index }] } } := by
  simp only [State.timeOutRead, hj, hn, if_true]
  exact congrArg (State.latch · .bankTimeout) (raise_of_room s _ hi)

end

end Sys2Proof.Machine

namespace Sys2Proof

open Machine

/-- Settles O30: the attempt fails, and BANK_RESET is sent. -/
theorem programTimeoutResetsTheBank : Obligations.ProgramTimeoutResetsTheBank := by
  refine ⟨fun s b i job deadline hr hd _ hprog hread hfirst ht => ?_, fun s b i deadline hr hmon hprog ht hs => ?_⟩
  · intro expired
    let u : State := { s with now := max s.now deadline }
    have fails : (u.timeOutRead b).failAttempt b .interrupted
        = (u.setSlot i { s.slot i with state := .programming, attempts := (s.slot i).attempts + 1 }).setBank b
            { (s.bank b).requeued job with program := .data i .interrupted } := by
      have carries : ((u.setBank b ((u.bank b).requeued job)).bank b).program = .data i .inFlight := by
        rw [bank_setBank]; exact hprog
      rw [timeOutRead_first u b job hread hfirst, failAttempt_inFlight _ b i .interrupted carries]
      simp only [slot_setBank, bank_setBank, setSlot_setBank, setBank_setBank]
      rfl
    have resets := (congrArg (State.sendReset · b) fails).trans (sendReset_setBank _ b _)
    exact ⟨readTimerExpiry_due s b deadline _ hr ht resets
      (quiet_of_undrained s _ (ready_quiet s hr) hd rfl rfl), rfl, rfl⟩
  · let u : State := { s with now := max s.now deadline }
    have slot : { s.slot i with state := .programming, attempts := (s.slot i).attempts + 1 }
        = { s.slot i with attempts := (s.slot i).attempts + 1 } := by rw [← hs]
    have fails : u.failAttempt b .failed
        = (u.setSlot i { s.slot i with attempts := (s.slot i).attempts + 1 }).setBank b
            { s.bank b with program := .data i .failed } := by
      rw [← slot]; exact failAttempt_inFlight u b i .failed hprog
    have resets := (congrArg (State.sendReset · b) fails).trans (sendReset_setBank _ b _)
    refine programTimerExpiry_due s b deadline _ hr ht resets ?_
    exact quiet_of_carrying s _ i _ (ready_quiet s hr) rfl rfl rfl (carries_setBank s b _ fun _ => rfl)
      (slot_setSlot s i _) (by simp [hs]) (by simp [hs])

end Sys2Proof
end

/-! ## A read job that fails -/

section
/-!
SUPPORT. What a READ_DONE that brings no page leads to, and O18.
-/

namespace Sys2Proof.Machine

section
variable (s : State)

theorem pageOf?_eq_none (outcome : ReadOutcome)
    (h : outcome = .readFail ∨ ∃ data : List Byte, outcome = .ok (.bytes data) ∧ data.length ≠ 256) :
    pageOf? outcome = none := by
  rcases h with rfl | ⟨data, rfl, short⟩
  · rfl
  · simp [pageOf?, PageData.whole, short]

/-- The first failure of a job by an answer: it returns to the front of the queue, and the bank goes on (R63). -/
theorem takeRead?_first (b : BankId) (job : ReadJob) (outcome : ReadOutcome) (hj : (s.bank b).read = some job)
    (hp : pageOf? outcome = none) (hn : job.retried = false) :
    s.takeRead? b outcome = (s.setBank b ((s.bank b).requeued job)).afterRead b := by
  simp only [State.takeRead?, hj, hp, hn, Bool.false_eq_true, if_false]
  rfl

/-- The second failure of a job by an answer: its owner gives the consequence, and the bank goes on (R63). -/
theorem takeRead?_second (b : BankId) (job : ReadJob) (hj : (s.bank b).read = some job) (hn : job.retried = true) :
    s.takeRead? b .readFail
      = ((s.setBank b { s.bank b with read := none, readTimer := .stopped }).jobFailed job false).afterRead b := by
  simp only [State.takeRead?, hj, pageOf?, hn, if_true]
  rfl

/-- A bank with nothing waiting is IDLE after its read (R51, R62). -/
theorem afterRead_of_nothing (b : BankId) (x : Bank) (hx : s.bank b = x) (hm : x.monitor = .reading)
    (hw : x.noneWaits = true) (hn : s.sched.pendingMeta = none) :
    s.afterRead b = s.setBank b { x with monitor := .idle } := by
  obtain ⟨programs, reads, batch⟩ := (noneWaits_iff x).mp hw
  let t := s.setBank b { x with monitor := .idle }
  have bank : t.bank b = { x with monitor := .idle } := bank_setBank ..
  rw [afterRead_of_reading s b (by rw [hx]; exact hm), hx]
  exact arbitrate_of_nothing t b (by rw [bank]; exact batch) (metaFor?_of_none t b hn) (by rw [bank]; exact programs)
    (by rw [bank]; exact reads)

/-- A record leaves with its pin at a bank that is not IDLE (R76). -/
theorem dropRecord_of_busy (r : ReadRecord) (b : BankId) (hb : s.bankOfPage r.page = b)
    (hm : (s.bank b).monitor ≠ .idle) : s.dropRecord r = { s with
      reads := s.reads.filter (fun x => x.tag != r.tag),
      absorb := { s.absorb with
        directory := changeEntry r.page (fun e => { e with pins := e.pins - 1 }) s.absorb.directory } } :=
  arbitrate_of_busy _ _ (by subst hb; exact hm)

/-- A failed read of a host, answered MEDIA_ERROR with an incident, at a bank that is not IDLE (R78). -/
theorem readFailed_of_answer (r : ReadRecord) (b : BankId) (hf : s.record? r.tag = some r)
    (hb : s.bankOfPage r.page = b) (hm : (s.bank b).monitor ≠ .idle) (hi : s.engine.incidents.length < 16) :
    s.readFailed r.tag false = { s with
      link := { s.link with
        tags := s.link.tags.filter (fun t => t != r.tag),
        responses := s.link.responses ++ [.readData r.tag .mediaError []] },
      reads := s.reads.filter (fun x => x.tag != r.tag),
      absorb := { s.absorb with
        directory := changeEntry r.page (fun e => { e with pins := e.pins - 1 }) s.absorb.directory },
      engine := { s.engine with
        latched := s.engine.latched ||| 0x8#32,
        incidents := s.engine.incidents ++ [{ kind := .readFailed, fence := s.tracker.fenceCounter,
                                              page := some r.page, bank := some r.bank.val, tag := some r.tag,
                                              operation := some 1 }] } } := by
  let failed : Incident := { kind := .readFailed, page := some r.page, bank := some r.bank.val, tag := some r.tag,
                             operation := some 1 }
  let answered := (s.answerRead r.tag .mediaError).latch .mediaError
  have ends : s.readFailed r.tag false = (answered.raise failed).dropRecord r := by
    rw [State.readFailed, hf]; rfl
  rw [ends, raise_of_room answered failed hi]
  exact dropRecord_of_busy _ r b hb hm

end

end Sys2Proof.Machine

namespace Sys2Proof

open Machine

/-- Settles O18: the two failures of a job, each by an answer and by an expiry. -/
theorem readJobIsRetriedOnce : Obligations.ReadJobIsRetriedOnce := by
  intro s b job hr hmon hread hprog
  have hq := ready_quiet s hr
  let x : Bank := { s.bank b with awaited := [] }
  let v := s.setBank b x
  let u (deadline : Nat) : State := { s with now := max s.now deadline }
  have bankV : v.bank b = x := bank_setBank ..
  have carries (y : Bank) (hy : y.program = (s.bank b).program) (k : BankId) :
      (s.bank k).carriesData = true → ((s.setBank b y).bank k).carriesData = true :=
    carries_setBank s b y (by rw [carriesData_congr y _ hy]; exact id) k
  refine ⟨fun q outcome hgeo hawait hfirst hpres hout => ?_, fun deadline ht hfirst => ?_,
    fun deadline ht hsecond hinc => ?_, fun q r hgeo hawait hsecond howner hrec hbank hwaits hmeta hinc => ?_⟩
  · let y : Bank := { x.requeued job with monitor := .idle }
    have bankY : (s.setBank b y).bank b = y := bank_setBank ..
    have again : v.takeRead? b outcome = (s.setBank b y).arbitrate b := by
      rw [takeRead?_first v b job outcome (by rw [bankV]; exact hread) (pageOf?_eq_none outcome hout) hfirst,
        bankV, setBank_setBank, afterRead_of_reading _ b (by rw [bank_setBank]; exact hmon), bank_setBank,
        setBank_setBank]
    have issues := arbitrate_of_batch (s.setBank b y) b { job with retried := true } (s.bank b).readQueue
      (by rw [bankY]) (by rw [bankY]; exact hpres) (by rw [bankY]; exact Nat.succ_pos _) (by rw [bankY]; rfl)
    refine readDone_taken s b q outcome _ hr (namesBank_of_known s b hgeo) hawait
      (again.trans (issues.trans ?_)) (quiet_of_busier s _ hq rfl rfl rfl id (carries _ rfl))
    rw [readSent_setBank, bankY]
    rfl
  · have fails : ((u deadline).timeOutRead b).failAttempt b .interrupted
        = (u deadline).setBank b ((s.bank b).requeued job) := by
      rw [timeOutRead_first (u deadline) b job hread hfirst]
      exact failAttempt_of_absent _ b _ (by rw [bank_setBank]; exact hprog)
    exact readTimerExpiry_due s b deadline _ hr ht
      ((congrArg (State.sendReset · b) fails).trans (sendReset_setBank _ b _))
      (quiet_of_busier s _ hq rfl rfl rfl id (carries _ rfl))
  · have fails := (congrArg (State.failAttempt · b .interrupted)
      (timeOutRead_second (u deadline) b job hread hsecond hinc)).trans (failAttempt_of_absent _ b _ hprog)
    exact readTimerExpiry_due s b deadline _ hr ht (congrArg (State.sendReset · b) fails)
      (quiet_of_busier s _ hq rfl rfl rfl id (carries _ rfl))
  · let w := s.setBank b { x with read := none, readTimer := .stopped }
    have bankW : w.bank b = { x with read := none, readTimer := .stopped } := bank_setBank ..
    have ends : v.takeRead? b .readFail = (w.readFailed r.tag false).afterRead b := by
      rw [takeRead?_second v b job (by rw [bankV]; exact hread) hsecond, bankV, setBank_setBank, State.jobFailed,
        howner]
    have fails := readFailed_of_answer w r b hrec hbank (by rw [bankW]; simp [x, hmon]) hinc
    refine readDone_taken s b q _ _ hr (namesBank_of_known s b hgeo) hawait
      (ends.trans ((congrArg (State.afterRead · b) fails).trans ?_))
      (quiet_of_busier s _ hq rfl rfl rfl id
        (carries { s.bank b with monitor := .idle, read := none, readTimer := .stopped, awaited := [] } rfl))
    rw [afterRead_of_nothing _ b { x with read := none, readTimer := .stopped } (by exact bankW) hmon hwaits
      (by exact hmeta)]
    simp only [State.setBank, w, Vector.set_set]
    rfl

end Sys2Proof
end

/-! ## IDENTIFY -/

section
/-!
SUPPORT. The figures of an IDENTIFY_DONE, the two reads that stage 3 begins with, and O34.
-/

namespace Sys2Proof.Machine

section
variable (s : State)

/-! ### A read job at an IDLE bank (R50, R51) -/

/-- The record of a bank once READ_PAGE has been sent to it as the bridge was idle there. -/
theorem bank_readSent (b : BankId) (job : ReadJob) (queue : List ReadJob) (batch : Nat) (monitor : Monitor) :
    (s.readSent b job queue batch monitor).bank b = { s.bank b with
      monitor := monitor, read := some job, readQueue := queue, batch := batch, readTimer := .running (s.now + 100),
      sequence := ((s.bank b).sequence + 1) % 16, readTag := ((s.bank b).sequence + 1) % 16,
      awaited := [.readDone (((s.bank b).sequence + 1) % 16)] } := bank_setBank ..

/-- A read job that joins an IDLE bank with nothing waiting is issued at once. -/
theorem joinRead_of_idle (b : BankId) (job : ReadJob) (hi : (s.bank b).monitor = .idle)
    (hp : (s.bank b).presence ≠ .absent) (hw : (s.bank b).noneWaits = true) (hn : s.sched.pendingMeta = none) :
    s.joinRead b job = s.readSent b job [] 0 .reading := by
  obtain ⟨programs, reads, batch⟩ := (noneWaits_iff _).mp hw
  let x : Bank := { s.bank b with readQueue := [job] }
  let t := s.setBank b x
  have bank : t.bank b = x := bank_setBank ..
  have joins : s.joinRead b job = t.arbitrate b := by
    have same : s.setBank b { s.bank b with readQueue := (s.bank b).readQueue ++ [job] } = t := by
      rw [reads]; rfl
    rw [State.joinRead, if_neg (by simp [hi]), same,
      suspendDecision_of_not t b (suspends_of_not_programming t b (by rw [bank]; simp [x, hi]))]
  have idle : (t.bank b).monitor = .idle := by rw [bank]; exact hi
  have present : (t.bank b).presence ≠ .absent := by rw [bank]; exact hp
  have chooses : t.arbitrate b = (t.setBank b { x with batch := 1 }).issueRead b := by
    rw [State.arbitrate, if_neg (by simp [idle, present]), metaFor?_of_none t b hn, bank]
    simp [x, programs, batch]
  rw [joins, chooses, setBank_setBank]
  simp only [State.issueRead, bank_setBank, setBank_setBank, State.sendRead, x, hi]
  rfl

/-! ### The figures (R178) -/

theorem figuresAccepted_iff (banks exponent spares version : Nat) :
    figuresAccepted banks exponent spares version = true ↔ banks ∈ [1, 2, 4, 8] ∧ 12 ≤ exponent ∧ exponent ≤ 22
      ∧ 16 ≤ spares ∧ spares ≤ 64 ∧ spares % 8 = 0 ∧ version = 1 := by
  simp [figuresAccepted, and_assoc, or_assoc]

/-- Whether an IDENTIFY_DONE is adopted: its figures are accepted and each of its banks was marked present. -/
def State.adopts (s : State) (banks exponent spares version : Nat) : Prop :=
  figuresAccepted banks exponent spares version = true ∧ ∀ b : BankId, b.val < banks → (s.bank b).presence = .present

theorem adopts_iff (banks exponent spares version : Nat) : (figuresAccepted banks exponent spares version
      && (allBanks.filter (fun b => decide (b.val < banks))).all (fun b => (s.bank b).presence == .present)) = true
    ↔ s.adopts banks exponent spares version := by
  simp only [State.adopts, Bool.and_eq_true, List.all_eq_true, List.mem_filter, mem_allBanks, true_and,
    decide_eq_true_eq, beq_iff_eq]

theorem takeIdentify_of_adopts (banks exponent spares version : Nat) (h : s.adopts banks exponent spares version) :
    s.takeIdentify banks exponent spares version = State.endStage { s with
      control := { s.control with identifyTimer := .stopped },
      geometry := some { banks := banks, pages := 2 ^ exponent, spares := spares } } State.beginChoice := by
  rw [State.takeIdentify, if_pos ((adopts_iff s ..).mpr h)]

theorem takeIdentify_of_not_adopts (banks exponent spares version : Nat)
    (h : ¬ s.adopts banks exponent spares version) : s.takeIdentify banks exponent spares version
      = State.enterFaulted { s with control := { s.control with identifyTimer := .stopped } } .geometry := by
  rw [State.takeIdentify, if_neg (mt (adopts_iff s ..).mp h)]

/-- In stage 2, while its timer runs, an IDENTIFY_DONE is taken. -/
theorem identifyDone_due (banks exponent spares version deadline : Nat) (hr : s.ready = true)
    (hs : s.control.startup = some { stage := .identify, stopAsked := false })
    (ht : s.control.identifyTimer = .running deadline) : exec (.identifyDone banks exponent spares version) s
      = .next (s.takeIdentify banks exponent spares version).settle := by
  have due : s.identifyDue = true := by simp [State.identifyDue, State.stage?, hs, ht, Timer.isRunning]
  rw [exec, execIdentifyDone, due, act_true s _ (ready_released s hr)]

/-! ### Stage 3 begins (R166) -/

/-- A page of the metadata that bank 0 holds. -/
theorem startupRead_eq (g : Geometry) (page : Nat) (hg : s.geometry = some g) (hp : page % g.banks = 0) :
    s.startupRead page = s.joinRead 0
      { index := g.pages - 128 / g.banks + page / g.banks, owner := .startup page, retried := false } := by
  have bank : s.metaBank page = 0 := by simp [State.metaBank, State.bankCount, hg, hp]
  simp only [State.startupRead, bank, State.metaIndex, hg]

/-- Both halves are read from their first page on, side by side at bank 0: its read in hand and its queue. -/
theorem beginChoice_eq (g : Geometry) (stopAsked : Bool) (stage : Stage) (hg : s.geometry = some g)
    (hb : g.banks ∈ [1, 2, 4, 8]) (hu : s.control.startup = some { stage := stage, stopAsked := stopAsked })
    (hi : (s.bank 0).monitor = .idle) (hp : (s.bank 0).presence ≠ .absent) (hw : (s.bank 0).noneWaits = true)
    (hn : s.sched.pendingMeta = none) : s.beginChoice = State.readSent
      { s with control := { s.control with
          startup := some { stage := .choose HalfScan.start HalfScan.start, stopAsked := stopAsked } } }
      0 { index := g.pages - 128 / g.banks, owner := .startup 0, retried := false }
      [{ index := g.pages - 128 / g.banks + 64 / g.banks, owner := .startup 64, retried := false }] 0 .reading := by
  let t := s.setStage (.choose HalfScan.start HalfScan.start)
  have staged : t = { s with control := { s.control with
      startup := some { stage := .choose HalfScan.start HalfScan.start, stopAsked := stopAsked } } } := by
    simp only [t, State.setStage, hu, Option.map_some]
  let first : ReadJob := { index := g.pages - 128 / g.banks, owner := .startup 0, retried := false }
  let u := t.readSent 0 first [] 0 .reading
  have half0 : t.startupRead 0 = u := by
    rw [startupRead_eq t g 0 hg (by simp), Nat.zero_div, Nat.add_zero]
    exact joinRead_of_idle t 0 first hi hp hw hn
  have there : 64 % g.banks = 0 := by
    revert hb; generalize g.banks = n; simp; rintro (rfl | rfl | rfl | rfl) <;> rfl
  have bank := bank_readSent t 0 first [] 0 .reading
  have half1 : u.startupRead 64 = u.setBank 0 { u.bank 0 with readQueue := (u.bank 0).readQueue
      ++ [{ index := g.pages - 128 / g.banks + 64 / g.banks, owner := .startup 64, retried := false }] } := by
    rw [startupRead_eq u g 64 hg there]
    exact joinRead_of_waiting u 0 _ (by rw [bank]; simp) (by rw [bank]; simp) (.inl (by rw [bank]; simp))
  have chosen : s.beginChoice = (t.startupRead 0).startupRead 64 := rfl
  rw [chosen, half0, half1, bank, ← staged]
  simp only [u, State.readSent, State.setBank, Vector.set_set]
  rfl

/-- A command that ends in the entry to FAULTED. -/
theorem enterFaulted_ends (reason : FaultReason) : ∃ t, (s.enterFaulted reason).settle = t
    ∧ t.inFault reason = true ∧ s.keptInFault t = true ∧ t.now = s.now := by
  obtain ⟨_, _, _, entry⟩ := enterFaulted_entry s reason
  generalize s.enterFaulted reason = t at entry
  exact ⟨_, entry.settle, entry.inFault, entry.kept, entry.now⟩

end

end Sys2Proof.Machine

namespace Sys2Proof

open Machine

/-- Settles O34. -/
theorem identifyAdoptsTheGeometryOrFaults : Obligations.IdentifyAdoptsTheGeometryOrFaults := by
  intro s deadline hr hd hs ht
  have due (banks exponent spares version : Nat) := identifyDone_due s banks exponent spares version deadline hr hs ht
  refine ⟨fun banks exponent spares hbanks h1 h2 h3 h4 h5 hpres hidle hwaits hmeta => ?_,
    fun banks exponent spares version _ hnot => ?_, fun _ => ?_⟩
  · have adopts : s.adopts banks exponent spares 1 :=
      ⟨(figuresAccepted_iff ..).mpr ⟨hbanks, h1, h2, h3, h4, h5, rfl⟩, hpres⟩
    have some0 : 0 < banks := by
      revert hbanks; simp; omega
    let g : Geometry := { banks := banks, pages := 2 ^ exponent, spares := spares }
    let u : State := { s with control := { s.control with identifyTimer := .stopped }, geometry := some g }
    have begins := beginChoice_eq u g false .identify rfl hbanks hs hidle
      (by rw [show u.bank 0 = s.bank 0 from rfl, hpres 0 some0]; simp) hwaits hmeta
    have taken : s.takeIdentify banks exponent spares 1 = u.beginChoice := by
      rw [takeIdentify_of_adopts s _ _ _ _ adopts]
      simp only [State.endStage, hs, u, g, Bool.false_eq_true, if_false]
    rw [due, taken, begins]
    refine congrArg Host.Outcome.next (settle_of_quiet _ ?_)
    simp [State.quiet, State.readSent, State.stage?, u, hd]
  · have refused : ¬ s.adopts banks exponent spares version := by
      rintro ⟨accepted, present⟩
      obtain ⟨hbanks, h1, h2, h3, h4, h5, h6⟩ := (figuresAccepted_iff ..).mp accepted
      rcases hnot with h | h | h | h | h | h | h | ⟨b, hb, h⟩
      · exact h hbanks
      · omega
      · omega
      · omega
      · omega
      · exact h h5
      · exact h h6
      · exact h (present b hb)
    obtain ⟨t, ends, inFault, kept, now⟩ :=
      enterFaulted_ends { s with control := { s.control with identifyTimer := .stopped } } .geometry
    exact ⟨t, by rw [due, takeIdentify_of_not_adopts s _ _ _ _ refused, ends], inFault, kept, now⟩
  · let u : State := { s with now := max s.now deadline }
    obtain ⟨t, ends, inFault, kept, now⟩ := enterFaulted_ends u .arrayUnresponsive
    refine ⟨t, ?_, inFault, kept, now⟩
    rw [exec, execIdentifyTimerExpiry, ht]
    exact congrArg Host.Outcome.next ((act_true s _ (ready_released s hr)).trans ends)

end Sys2Proof
end

/-! ## PROGRAM_DONE with PROGRAM_FAIL -/

section
/-!
SUPPORT. What a failed attempt leads to: the retry at the same target, the handoff to a spare, or stranding; with O28
and O29.
-/

namespace Sys2Proof.Machine

section
variable (s : State)

/-! ### A program sent again (R53, R55) -/

/-- The record of a bank once PROGRAM_PAGE has been sent to it for a slot that has left its program queue. -/
def Bank.programs (bank : Bank) (now : Nat) (i : SlotId) (queue : List SlotId) : Bank :=
  { bank with
    monitor := .programming, programQueue := queue, program := .data i .inFlight,
    programTimer := .running (now + 5000), sequence := (bank.sequence + 1) % 16,
    programTag := (bank.sequence + 1) % 16, awaited := [.programDone ((bank.sequence + 1) % 16)] }

/-- The state once a bank, whose record was `x`, has sent PROGRAM_PAGE again for a slot's image at a target. -/
def State.programsAgain (s : State) (b : BankId) (x : Bank) (i : SlotId) (queue : List SlotId) (target : Target) :
    State :=
  { s.setBank b (x.programs s.now i queue) with
    arrayOut := s.arrayOut ++ [.programPage b (s.targetIndex (s.slot i).page target) ((x.sequence + 1) % 16)
      (.bytes (s.slot i).image.toBytes)] }

/-- Whether no SUSPEND follows a program of a slot at a bank: no read waits, or the budget is spent (R58). -/
def State.notSuspending (s : State) (x : Bank) (i : SlotId) : Prop :=
  x.readQueue = [] ∨ s.engine.profile.suspendBudget ≤ (s.slot i).suspends

/-- The slot at the front of the queue is dispatched to the target it has (R53). -/
theorem dispatchSlot_again (b : BankId) (x : Bank) (i : SlotId) (queue : List SlotId) (target : Target)
    (hq : x.programQueue = i :: queue) (hi : i ∉ queue) (hd : s.control.drain = none)
    (hs : (s.slot i).state = .programming) (ht : (s.slot i).target = some target) (hn : s.notSuspending x i) :
    (s.setBank b x).dispatchSlot b i = s.programsAgain b x i queue target := by
  have others : x.programQueue.filter (fun j => j != i) = queue := by
    rw [hq, List.filter_cons_of_neg (by simp)]
    exact List.filter_eq_self.mpr fun j hj => by simpa using fun e : j = i => hi (e ▸ hj)
  have sent : (s.setBank b x).programSent b i target (s.targetIndex (s.slot i).page target)
      = s.programsAgain b x i queue target := by
    rw [programSent_again s b x i target _ hs ht, others]; rfl
  have bank : (s.programsAgain b x i queue target).bank b = x.programs s.now i queue := bank_setBank ..
  rw [dispatchSlot_eq (s.setBank b x) b i target _ hd (by rw [slot_setBank, ht]; rfl) rfl]
  refine (congrArg (State.suspendDecision · b) sent).trans (suspendDecision_of_not _ b ?_)
  exact hn.elim (fun empty => suspends_of_no_read _ b (by rw [bank]; exact empty))
    (fun spent => suspends_of_spent _ b i (by rw [bank]; rfl) spent)

/-- A slot that is its page's only one, on a page without a pin, PROGRAMMING at a target. -/
structure State.ProgramsAlone (s : State) (i : SlotId) (target : Target) : Prop where
  state : (s.slot i).state = .programming
  target : (s.slot i).target = some target
  alone : s.slotList (s.slot i).page = [i]
  unpinned : s.pinCount (s.slot i).page = 0

/-- A retry that is due is issued at once, ahead of every waiting read's turn (R55, R60). -/
theorem leaveProgram_again (b : BankId) (x : Bank) (i : SlotId) (queue : List SlotId) (target : Target)
    (hp : x.program = .data i .retryDue) (hq : x.programQueue = i :: queue) (hi : i ∉ queue)
    (hc : s.control.state = .running ∨ s.control.state = .degraded) (hd : s.control.drain = none)
    (ha : s.ProgramsAlone i target) (hn : s.notSuspending x i) :
    (s.setBank b x).leaveProgram b = s.programsAgain b x i queue target := by
  have ready : (s.setBank b x).dispatchable i = true := dispatchable_of_only _ i hc ha.alone ha.unpinned
  rw [leaveProgram_retries _ b i (by rw [bank_setBank]; exact hp) ready, bank_setBank, setBank_setBank]
  exact dispatchSlot_again s b { x with programTimer := .stopped } i queue target hq hi hd ha.state ha.target hn

/-- An IDLE bank with nothing before its program queue dispatches the slot at the front. -/
theorem arbitrate_of_front (b : BankId) (i : SlotId) (queue : List SlotId) (hi : (s.bank b).monitor = .idle)
    (hp : (s.bank b).presence ≠ .absent) (hb : (s.bank b).batch = 0) (hm : s.metaFor? b = none)
    (hq : (s.bank b).programQueue = i :: queue) (hd : s.dispatchable i = true) :
    s.arbitrate b = s.dispatchSlot b i := by
  simp [State.arbitrate, hi, hp, hb, hm, hq, hd]

/-- A bank that enters IDLE with no read waiting dispatches the slot at the front of its program queue (R50, R51). -/
theorem enterIdle_again (b : BankId) (x : Bank) (i : SlotId) (queue : List SlotId) (target : Target)
    (hr : x.readQueue = []) (hq : x.programQueue = i :: queue) (hi : i ∉ queue) (hp : x.presence ≠ .absent)
    (hm : ∀ p, s.sched.pendingMeta = some p → s.metaBank p.page ≠ b)
    (hc : s.control.state = .running ∨ s.control.state = .degraded) (hd : s.control.drain = none)
    (ha : s.ProgramsAlone i target) :
    (s.setBank b x).enterIdle b = s.programsAgain b { x with batch := 0 } i queue target := by
  let y : Bank := { x with
    monitor := .idle, program := .absent, programTimer := .stopped, awaited := [], batch := 0 }
  have ready : (s.setBank b y).dispatchable i = true := dispatchable_of_only _ i hc ha.alone ha.unpinned
  have enters : (s.setBank b x).enterIdle b = (s.setBank b y).arbitrate b := by
    simp only [State.enterIdle, bank_setBank, setBank_setBank, hr, List.length_nil, y]
  have bank : (s.setBank b y).bank b = y := bank_setBank ..
  rw [enters, arbitrate_of_front (s.setBank b y) b i queue (by rw [bank]) (by rw [bank]; exact hp) (by rw [bank])
    (metaFor?_of_elsewhere _ b hm) (by rw [bank]; exact hq) ready]
  exact dispatchSlot_again s b y i queue target hq hi hd ha.state ha.target (.inl hr)

/-! ### An attempt that has failed (R55) -/

/-- The record of a bank once the outcome of its program is taken. -/
def Bank.answered (bank : Bank) : Bank := { bank with awaited := [], programTimer := .stopped }

/-- PROGRAM_DONE with PROGRAM_FAIL, outside a drain and a start-up: the attempt counts and is judged, and then the bank
leaves its program. -/
theorem programDone_fails (b : BankId) (q : Nat) (i : SlotId) (u t : State) (hr : s.ready = true)
    (hn : s.namesBank b.val = true) (hm : (s.bank b).monitor = .programming)
    (hp : (s.bank b).program = .data i .inFlight) (ha : (s.bank b).awaited = [.programDone q])
    (hd : s.control.drain = none) (hs : s.control.startup = none)
    (hu : ((s.setSlot i { s.slot i with attempts := (s.slot i).attempts + 1 }).setBank b (s.bank b).answered
      ).judgeAttempt b i = u)
    (huc : u.control = s.control) (hua : (u.bank b).awaited = []) (ht : u.leaveProgram b = t)
    (htc : t.control = s.control) : exec (.programDone b.val q .programFail) s = .next t.judgeAlert := by
  have taken := takingBank?_of_awaited s b (.programDone q) hn (by simp [ha])
  have answered : (s.untilTaken b (.programDone q)).stopProgramTimer b = s.setBank b (s.bank b).answered := by
    rw [untilTaken_of_alone s b _ ha, State.stopProgramTimer, if_pos (by rw [bank_setBank]; exact hm), bank_setBank,
      setBank_setBank]
    rfl
  have judged : u.judgeEnd = u := judgeEnd_of_none u (endingDrain?_of_none u (by rw [huc, hd]))
  have counted : ((s.setBank b (s.bank b).answered).countAttempt i).judgeAttempt b i = u := hu
  have takes : s.takeProgramDone b.val q .programFail = t := by
    simp only [State.takeProgramDone, taken, hp, State.dataOutcome, answered, counted, judged]
    rw [State.endProgram, if_pos (by simp [hua]), ht]
  rw [programDone_taken s b q _ hr hn (by simp [ha]), takes,
    settle_of_quiet t (quiet_of_calm t (by rw [htc, hd]) (by rw [htc, hs]))]

/-! ### The handoff (R57, R85, R86) -/

/-- The target that has failed: a spare, or the page's own location. -/
def failedTarget (failed : Option Nat) : Target := failed.elim .own .spare

theorem failedTarget_spare? (failed : Option Nat) : (failedTarget failed).spare? = failed := by
  cases failed <;> rfl

/-- The state with a bank's free spares replaced, once a failed spare has been retired, unrecorded (R86). -/
def State.sparesAfter (s : State) (b : BankId) (failed : Option Nat) (spares : List FreeSpare) : State :=
  { s with remap := { s.remap with
      free := s.remap.free.set b.val spares,
      retired := failed.elim s.remap.retired fun x => s.remap.retired.set b.val (insertNat x s.remap.retired[b.val]),
      unrecorded := s.remap.unrecorded ++ failed.toList.map fun x => (b.val, x) } }

theorem sparesAfter_none (b : BankId) (spares : List FreeSpare) :
    s.sparesAfter b none spares = s.setFreeSpares b spares := by
  simp only [State.sparesAfter, State.setFreeSpares, Option.elim_none, Option.toList_none, List.map_nil,
    List.append_nil]

theorem sparesAfter_setClaim (b : BankId) (k : Nat) (i : SlotId) (failed : Option Nat)
    (claimed rest : List FreeSpare) (hk : ∀ x ∈ claimed ++ rest, x.index ≠ k) :
    (s.sparesAfter b failed (claimed ++ { index := k, claim := none } :: rest)).setClaim b k (some i)
      = s.sparesAfter b failed (claimed ++ { index := k, claim := some i } :: rest) := by
  rw [setClaim_of_sole _ b k none (some i) claimed rest hk (by simp [State.sparesAfter])]
  simp only [State.sparesAfter, State.setFreeSpares, Vector.set_set]

/-- A failed spare that carries the slot's claim leaves the free spares; a page's own location is not retired. -/
theorem retireFailed_eq (b : BankId) (i : SlotId) (failed : Option Nat) (claimed rest : List FreeSpare)
    (ht : (s.slot i).target = some (failedTarget failed))
    (hx : ∀ x ∈ claimed ++ rest, some x.index ≠ failed)
    (hf : s.remap.free[b.val]
      = claimed ++ (failed.toList.map fun x => { index := x, claim := some i }) ++ rest) :
    s.retireFailed b i = s.sparesAfter b failed (claimed ++ rest) := by
  cases failed with
  | none =>
    have same : s.remap.free.set b.val (claimed ++ rest) = s.remap.free := by
      have list : claimed ++ rest = s.remap.free[b.val] := by simp [hf]
      rw [list, Vector.set_getElem_self]
    simp [State.retireFailed, ht, failedTarget, Target.spare?, State.sparesAfter, same]
  | some x =>
    have claimedBy : s.claimedBy b x i = true := by simp [State.claimedBy, hf]
    have keep (l : List FreeSpare) (h : ∀ y ∈ l, y ∈ claimed ++ rest) : l.filter (fun e => e.index != x) = l :=
      List.filter_eq_self.mpr fun y hy => by simpa using fun e : y.index = x => hx y (h y hy) (by rw [e])
    have dropped : s.remap.free[b.val].filter (fun e => e.index != x) = claimed ++ rest := by
      rw [hf, List.filter_append, List.filter_append, keep claimed fun y hy => List.mem_append_left _ hy,
        keep rest fun y hy => List.mem_append_right _ hy]
      simp
    simp only [State.retireFailed, ht, failedTarget, Option.elim_some, Option.bind_some, Target.spare?, claimedBy,
      if_true, State.dropFreeSpare, dropped]
    rfl

/-- The handoff claims the lowest unclaimed spare for the slot, which goes to the front of the program queue. -/
theorem handoff_claims (b : BankId) (i : SlotId) (k : Nat) (failed : Option Nat) (claimed rest : List FreeSpare)
    (hs : s.control.state ≠ .degraded) (ht : (s.slot i).target = some (failedTarget failed))
    (hc : ∀ x ∈ claimed, x.claim.isSome = true)
    (hk : ∀ x ∈ claimed ++ rest, x.index ≠ k ∧ some x.index ≠ failed) (hfk : failed ≠ some k)
    (hf : s.remap.free[b.val] = claimed ++ (failed.toList.map fun x => { index := x, claim := some i })
      ++ { index := k, claim := none } :: rest) : s.handoff b i
      = ((s.sparesAfter b failed (claimed ++ { index := k, claim := some i } :: rest)).setSlot i
          { s.slot i with target := some (.spare k), attempts := 0 }).pushFront b i := by
  let retired := s.sparesAfter b failed (claimed ++ { index := k, claim := none } :: rest)
  have retires : s.retireFailed b i = retired := by
    refine retireFailed_eq s b i failed claimed _ ht (fun x hx => ?_) hf
    rcases List.mem_append.mp hx with hx | hx
    · exact (hk x (List.mem_append_left _ hx)).2
    · rcases List.mem_cons.mp hx with rfl | hx
      · exact hfk.symm
      · exact (hk x (List.mem_append_right _ hx)).2
  have spare : retired.unclaimedSpare? b = some k :=
    unclaimedSpare?_of_first retired b k claimed rest hc (by simp [retired, State.sparesAfter])
  have claims : retired.setClaim b k (some i) = _ :=
    sparesAfter_setClaim s b k i failed claimed rest fun x hx => (hk x hx).1
  simp only [State.handoff, retires, if_neg hs, spare, claims]

/-- Beyond RETRY_LIMIT the slot is handed to the lowest unclaimed spare, a failed one being retired, and stands at the
front of the program queue (R57, R85, R86). -/
theorem judgeAttempt_claims (b : BankId) (i : SlotId) (k : Nat) (failed : Option Nat) (claimed rest : List FreeSpare)
    (h : s.engine.profile.retryLimit < (s.slot i).attempts) (hs : s.control.state ≠ .degraded)
    (ht : (s.slot i).target = some (failedTarget failed)) (hc : ∀ x ∈ claimed, x.claim.isSome = true)
    (hk : ∀ x ∈ claimed ++ rest, x.index ≠ k ∧ some x.index ≠ failed) (hfk : failed ≠ some k)
    (hf : s.remap.free[b.val] = claimed ++ (failed.toList.map fun x => { index := x, claim := some i })
      ++ { index := k, claim := none } :: rest) : s.judgeAttempt b i
      = ((s.sparesAfter b failed (claimed ++ { index := k, claim := some i } :: rest)).setSlot i
          { s.slot i with target := some (.spare k), attempts := 0 }).setBank b { s.bank b with
            program := .absent, programQueue := i :: (s.bank b).programQueue } := by
  let u := s.setProgram b .absent
  have bank : u.bank b = { s.bank b with program := .absent } := bank_setBank ..
  have claims := handoff_claims u b i k failed claimed rest hs ht hc hk hfk hf
  rw [State.judgeAttempt, if_neg (Nat.not_le.mpr h)]
  refine claims.trans ?_
  rw [State.pushFront, bank_setSlot, show State.bank (u.sparesAfter _ _ _) b = u.bank b from rfl, bank]
  simp only [u, State.sparesAfter, State.setProgram, State.setSlot, State.setBank, Vector.set_set]
  rfl

/-! ### Stranding (R27, R85, R87) -/

/-- The handoff strands the slot in DEGRADED, or with no spare left unclaimed, where the failed target carries no claim
of the slot. -/
theorem handoff_strands (b : BankId) (i : SlotId) (failed : Option Nat)
    (h : s.control.state = .degraded ∨ ∀ x ∈ s.remap.free[b.val], x.claim.isSome = true)
    (ht : (s.slot i).target = some (failedTarget failed))
    (hf : ∀ k ∈ failed, ∀ x ∈ s.remap.free[b.val], x.index ≠ k) : s.handoff b i = s.strandSlot i failed := by
  have spare : (s.slot i).target.bind Target.spare? = failed := by
    rw [ht, Option.bind_some, failedTarget_spare?]
  have keeps : s.retireFailed b i = s := by
    rw [State.retireFailed, spare]
    cases failed with
    | none => rfl
    | some k =>
      have unclaimed : s.claimedBy b k i = false :=
        List.any_eq_false.mpr fun x hx => by simp [hf k rfl x hx]
      simp [unclaimed]
  simp only [State.handoff, keeps, spare]
  split
  · rfl
  · next normal =>
    have none : s.unclaimedSpare? b = none := by
      have all := h.resolve_left normal
      rw [State.unclaimedSpare?, List.find?_eq_none.mpr fun x hx => by
        simp [Option.isSome_iff_ne_none.mp (all x hx)]]
      rfl
    simp only [none]

/-- A slot that is its page's only one is stranded, with an OPEN head epoch and at a bank that is not IDLE. -/
theorem strandSlot_alone (b : BankId) (i : SlotId) (failed : Option Nat) (e : Epoch) (rest : List Epoch)
    (hb : s.bankOfPage (s.slot i).page = b) (hm : (s.bank b).monitor ≠ .idle)
    (hl : s.slotList (s.slot i).page = [i]) (he : s.tracker.epochs = e :: rest) (ho : e.state = .opened)
    (hi : s.engine.incidents.length < 16) : s.strandSlot i failed
      = { s.setSlot i { s.slot i with state := .stranded } with
          tracker := { s.tracker with
            epochs := s.tracker.epochs.map (fun x => if x.fence = (s.slot i).epoch then
              { x with outstanding := x.outstanding - 1, lossy := true } else x) },
          engine := { s.engine with
            latched := s.engine.latched ||| 0x20#32,
            incidents := s.engine.incidents ++ [{ kind := .stranded, fence := s.tracker.fenceCounter,
                                                  page := some (s.slot i).page, bank := some b.val,
                                                  slot := some i.val, spareOld := failed,
                                                  operation := some (s.slot i).origin.code }] } } := by
  let lost : State := { s.setSlot i { s.slot i with state := .stranded } with
    tracker := { s.tracker with
      epochs := s.tracker.epochs.map (fun x => if x.fence = (s.slot i).epoch then
        { x with outstanding := x.outstanding - 1, lossy := true } else x) } }
  have told : (s.setSlot i { s.slot i with state := .stranded }).epochDown (s.slot i).epoch true = lost := by
    have stays : lost.judgeRemoval = lost := by
      refine judgeRemoval_of_outstanding lost _ _ (by simp only [lost, he, List.map_cons]; rfl) (.inl ?_)
      split <;> exact ho
    rw [← stays]
    simp only [State.epochDown, changeEpoch, Bool.or_true]
    rfl
  let incident : Incident := { kind := .stranded, page := some (s.slot i).page, bank := some b.val,
                               slot := some i.val, spareOld := failed, operation := some (s.slot i).origin.code }
  let t := (lost.raise incident).latch .strandedNew
  have raised : lost.raise incident = _ := raise_of_room lost incident hi
  have absorb : t.absorb = lost.absorb := by simp only [t, raised]; rfl
  have list : t.slotList (s.slot i).page = [i] := by
    rw [State.slotList, State.dirEntry?, absorb]; exact hl
  have stranded : lost.slot i = { s.slot i with state := .stranded } := slot_setSlot ..
  have state : (t.slot i).state ≠ .held := by
    rw [State.slot, absorb, show lost.absorb.slots[i.val] = lost.slot i from rfl, stranded]; simp
  have judged : t.reexamine (s.slot i).page = t := by
    rw [State.reexamine, list]; exact if_neg state
  have strands : s.strandSlot i failed = (t.reexamine (s.slot i).page).arbitrate b := by
    simp only [State.strandSlot, told, hb]; rfl
  rw [strands, judged, arbitrate_of_busy t b (by simp only [t, raised]; exact hm)]
  simp only [t, raised]
  rfl

end

end Sys2Proof.Machine

namespace Sys2Proof

open Machine

/-- Settles O28. -/
theorem failedProgramIsRetriedAtOnce : Obligations.FailedProgramIsRetriedAtOnce := by
  intro s b q i target hr hd hup hgeo hc hmon hprog hawait hi hnone hstate htarget hwithin hlist hpin tag
  let u := s.setSlot i { s.slot i with attempts := (s.slot i).attempts + 1 }
  let x : Bank := { (s.bank b).answered with
    program := .data i .retryDue, programQueue := i :: (s.bank b).programQueue }
  have slot : u.slot i = { s.slot i with attempts := (s.slot i).attempts + 1 } := slot_setSlot ..
  have judged : (u.setBank b (s.bank b).answered).judgeAttempt b i = u.setBank b x := by
    rw [judgeAttempt_retries _ b i (by rw [slot_setBank, slot]; exact hwithin), bank_setBank, setBank_setBank]
    rfl
  have again := leaveProgram_again u b x i _ target rfl rfl hi hc hd
    ⟨by rw [slot]; exact hstate, by rw [slot]; exact htarget, by rw [slot]; exact hlist, by rw [slot]; exact hpin⟩
    (by rw [State.notSuspending, slot]; exact hnone)
  have ends := programDone_fails s b q i _ _ hr (namesBank_of_known s b hgeo) hmon hprog hawait hd hup judged rfl
    (by rw [bank_setBank]; rfl) again rfl
  rw [ends]
  simp only [State.programsAgain, Bank.programs, x, Bank.answered, slot, ← hmon, ← hprog]
  rfl

/-- Settles O29. -/
theorem handoffClaimsTheLowestFreeSpare : Obligations.HandoffClaimsTheLowestFreeSpare := by
  refine ⟨rfl, fun s b i claimed rest k hc hclaimed hk => ⟨fun hfree ht => ?_, fun failed hx hne ht hfree => ?_⟩,
    fun s b q k i g failed claimed rest hr hc hd hup hg hb hmon hprog hawait hpres hmeta hi hstate hbank hlist hpin
      hbeyond ht hclaimed hk hfk hfree => ?_,
    fun s b i failed e rest h ht hf hbank hmon hlist he ho hinc => ?_⟩
  · have claims := handoff_claims s b i k none claimed rest hc ht hclaimed (fun x hx => ⟨hk x hx, by simp⟩)
      (by simp)
      (by rw [hfree]; simp)
    rw [claims, sparesAfter_none]
  · have claims := handoff_claims s b i k (some failed) claimed rest hc ht hclaimed
      (fun x hmem => ⟨hk x hmem, by simpa using hx x hmem⟩) (by simpa using hne) (by rw [hfree]; simp)
    refine ⟨_, rfl, ?_⟩
    rw [claims]
    refine ⟨?_, ?_, ?_, ?_, ?_⟩
    · simp [State.pushFront, State.sparesAfter]
    · simp [State.pushFront, State.sparesAfter]
    · simp [State.pushFront, State.sparesAfter]
    · exact slot_setSlot ..
    · exact bank_setBank ..
  · intro handed tag
    let u := s.setSlot i { s.slot i with attempts := (s.slot i).attempts + 1 }
    let x : Bank := { (s.bank b).answered with program := .absent, programQueue := i :: (s.bank b).programQueue }
    have slot : u.slot i = { s.slot i with attempts := (s.slot i).attempts + 1 } := slot_setSlot ..
    have judged : (u.setBank b (s.bank b).answered).judgeAttempt b i = handed.setBank b x := by
      rw [judgeAttempt_claims _ b i k failed claimed rest (by rw [slot_setBank, slot]; exact hbeyond)
        (by rw [show (u.setBank b _).control.state = _ from hc]; simp)
        (by rw [slot_setBank, slot, ht]; cases failed <;> rfl) hclaimed hk hfk
        (by rw [show (u.setBank b _).remap = s.remap from rfl, hfree]; cases failed <;> rfl), slot_setBank, slot,
        bank_setBank]
      simp only [u, handed, x, State.sparesAfter, State.setSlot, State.setBank, Vector.set_set]
      cases failed <;> rfl
    have target : (handed.slot i) = { s.slot i with target := some (.spare k), attempts := 0 } := slot_setSlot ..
    have alone : handed.ProgramsAlone i (.spare k) :=
      ⟨by rw [target]; exact hstate, by rw [target], by rw [target]; exact hlist, by rw [target]; exact hpin⟩
    have ends (t : State) (ht : (handed.setBank b x).enterIdle b = t) (htc : t.control = s.control) :
        exec (.programDone b.val q .programFail) s = .next t.judgeAlert :=
      programDone_fails s b q i _ t hr (namesBank_of_known s b (.inr (by simpa [State.bankCount, hg] using hb))) hmon
        hprog hawait hd hup judged rfl (by rw [bank_setBank]; rfl)
        ((leaveProgram_of_absent _ b (by rw [bank_setBank])).trans ht) htc
    refine ⟨fun hnone => ?_, fun job jobs hjobs => ?_⟩
    · rw [ends _ (enterIdle_again handed b x i _ (.spare k) hnone rfl hi hpres hmeta (.inl hc) hd alone) rfl]
      simp only [State.programsAgain, target, State.targetIndex, State.spareIndex,
        show handed.geometry = some g from hg, Bank.programs, x, Bank.answered, ← hmon, ← hprog]
      rfl
    · rw [ends _ (enterIdle_of_reads _ b x job jobs (bank_setBank ..) hjobs hpres) rfl]
      simp only [setBank_setBank, readSent_setBank, x, Bank.answered]
  · have target : (s.slot i).target = some (failedTarget failed) := ht.trans (by cases failed <;> rfl)
    rw [handoff_strands s b i failed h target hf]
    exact strandSlot_alone s b i failed e rest hbank hmon hlist he ho hinc

end Sys2Proof
end

/-! ## A suspended program and its batch -/

section
/-!
SUPPORT. What a SUSPEND_ACK ends or begins, what a suspended bank does with its batch, and O31.
-/

namespace Sys2Proof.Machine

section
variable (s : State)

/-! ### SUSPEND_ACK (R59, R60) -/

/-- A SUSPEND_ACK that is taken. -/
theorem suspendAck_taken (b : BankId) (p : Nat) (answer : SuspendAnswer) (t : State) (hr : s.ready = true)
    (hn : s.namesBank b.val = true) (ha : .suspendAck p ∈ (s.bank b).awaited)
    (h : s.takeSuspendAck b.val p answer = t) (hq : t.quiet = true) :
    exec (.suspendAck b.val p answer) s = .next t.judgeAlert := by
  have takes : s.taking b.val (.suspendAck p) = true := by
    rw [State.taking, takingBank?_of_awaited s b _ hn ha]; rfl
  rw [exec, execSuspendAck, takes, h, act_settled s t hr hq]

/-- One of the two completions that a bank awaits after SUSPEND is taken: the other is still awaited. -/
theorem untilTaken_ack (b : BankId) (p : Nat) (h : (s.bank b).awaited = [.programDone p, .suspendAck p]) :
    s.untilTaken b (.suspendAck p) = s.setBank b { s.bank b with awaited := [.programDone p] } := by
  simp [State.untilTaken, h]

theorem untilTaken_done (b : BankId) (p : Nat) (h : (s.bank b).awaited = [.programDone p, .suspendAck p]) :
    s.untilTaken b (.programDone p) = s.setBank b { s.bank b with awaited := [.suspendAck p] } := by
  simp [State.untilTaken, h]

/-- SUSPEND_ACK with SUSPENDED before any outcome: the program is suspended. -/
theorem takeSuspendAck_suspends (b : BankId) (p : Nat) (i : SlotId) (hn : s.namesBank b.val = true)
    (ha : (s.bank b).awaited = [.programDone p, .suspendAck p]) (hp : (s.bank b).program = .data i .inFlight) :
    s.takeSuspendAck b.val p .suspended
      = (s.setBank b { s.bank b with awaited := [.programDone p] }).suspendProgram b i := by
  simp only [State.takeSuspendAck, takingBank?_of_awaited s b (.suspendAck p) hn (by simp [ha]), hp,
    untilTaken_ack s b p ha]

/-- SUSPEND_ACK with NOT_ACTIVE before any outcome: it is awaited no more. -/
theorem takeSuspendAck_notActive (b : BankId) (p : Nat) (i : SlotId) (hn : s.namesBank b.val = true)
    (ha : (s.bank b).awaited = [.programDone p, .suspendAck p]) (hp : (s.bank b).program = .data i .inFlight) :
    s.takeSuspendAck b.val p .notActive = s.setBank b { s.bank b with awaited := [.programDone p] } := by
  simp only [State.takeSuspendAck, takingBank?_of_awaited s b (.suspendAck p) hn (by simp [ha]), hp,
    untilTaken_ack s b p ha]

/-- SUSPEND_ACK after the outcome, with either answer: the bank leaves its program. -/
theorem takeSuspendAck_leaves (b : BankId) (p : Nat) (answer : SuspendAnswer) (hn : s.namesBank b.val = true)
    (ha : (s.bank b).awaited = [.suspendAck p]) (hp : ∀ i, (s.bank b).program ≠ .data i .inFlight) :
    s.takeSuspendAck b.val p answer = (s.setBank b { s.bank b with awaited := [] }).leaveProgram b := by
  have ends : (s.setBank b { s.bank b with awaited := [] }).endProgram b
      = (s.setBank b { s.bank b with awaited := [] }).leaveProgram b := by
    rw [State.endProgram, if_pos (by simp)]
  simp only [State.takeSuspendAck, takingBank?_of_awaited s b (.suspendAck p) hn (by simp [ha]),
    untilTaken_of_alone s b _ ha]
  split
  · next h => exact absurd h (hp _)
  · next h => exact absurd h (hp _)
  · exact ends

/-! ### The batch (R59, R62) -/

/-- A SUSPENDED bank with a batch issues the job at the front of its read queue. -/
theorem serveSuspended_of_batch (b : BankId) (job : ReadJob) (rest : List ReadJob)
    (hm : (s.bank b).monitor = .suspended) (hb : 0 < (s.bank b).batch) (hq : (s.bank b).readQueue = job :: rest) :
    s.serveSuspended b = s.readSent b job rest ((s.bank b).batch - 1) .suspendedReading := by
  simp [State.serveSuspended, hb, hq, State.issueRead, State.sendRead, State.readSent, hm, Bank.nextTag, State.emit]

/-- A program whose suspension has begun with a read waiting: the batch is fixed and its first job issued. -/
theorem suspendProgram_reads (b : BankId) (x : Bank) (i : SlotId) (deadline : Nat) (job : ReadJob)
    (rest : List ReadJob) (ht : x.programTimer = .running deadline) (hq : x.readQueue = job :: rest) :
    (s.setBank b x).suspendProgram b i
      = ((s.setSlot i { s.slot i with state := .suspended, suspends := (s.slot i).suspends + 1 }).setBank b
          { x with programTimer := .paused (deadline - s.now) }).readSent b job rest rest.length
            .suspendedReading := by
  let u := s.setSlot i { s.slot i with state := .suspended, suspends := (s.slot i).suspends + 1 }
  let y : Bank := { x with
    monitor := .suspended, programTimer := .paused (deadline - s.now), awaited := [], batch := rest.length + 1 }
  have begins : (s.setBank b x).suspendProgram b i = (u.setBank b y).serveSuspended b := by
    simp only [State.suspendProgram, slot_setBank, bank_setBank, ht, hq, Timer.pause, List.length_cons,
      setSlot_setBank, setBank_setBank, State.setBank_now, u, y]
  have bank : (u.setBank b y).bank b = y := bank_setBank ..
  rw [begins, serveSuspended_of_batch _ b job rest (by rw [bank]) (by rw [bank]; exact Nat.succ_pos _)
    (by rw [bank]; exact hq), bank]
  simp only [readSent_setBank, y, Nat.add_sub_cancel]
  rfl

/-- A bank that has ended its program, with a read waiting, fixes a batch and issues its first job (R50, R51). -/
theorem leaveProgram_reads (b : BankId) (x : Bank) (job : ReadJob) (rest : List ReadJob) (hp : x.program = .absent)
    (hq : x.readQueue = job :: rest) (hx : x.presence ≠ .absent) : (s.setBank b x).leaveProgram b
      = (s.setBank b { x with programTimer := .stopped }).readSent b job rest rest.length .reading := by
  rw [leaveProgram_of_absent _ b (by rw [bank_setBank]; exact hp),
    enterIdle_of_reads _ b x job rest (bank_setBank ..) hq hx, setBank_setBank, ← hp]

/-- The state once a bank, whose record was `x`, has sent RESUME for a slot's program (R59, R177). -/
def State.resumed (s : State) (b : BankId) (x : Bank) (i : SlotId) (remaining : Nat) : State :=
  { (s.setSlot i { s.slot i with state := .programming }).setBank b { x with
      monitor := .programming, programTimer := .running (s.now + remaining),
      awaited := [.programDone x.programTag] } with
    arrayOut := s.arrayOut ++ [.resume b x.programTag] }

/-- After the last read of its batch a suspended bank resumes the program and makes the suspend decision. -/
theorem afterRead_resumes (b : BankId) (x : Bank) (i : SlotId) (remaining : Nat)
    (hm : x.monitor = .suspendedReading) (hb : x.batch = 0) (hp : x.program = .data i .inFlight)
    (ht : x.programTimer = .paused remaining) :
    (s.setBank b x).afterRead b = (s.resumed b x i remaining).suspendDecision b := by
  let y : Bank := { x with monitor := .suspended }
  have serves : (s.setBank b x).afterRead b = (s.setBank b y).resume b := by
    rw [State.afterRead, if_neg (by rw [bank_setBank, hm]; decide), if_pos (by rw [bank_setBank]; exact hm),
      State.serveSuspended, bank_setBank, setBank_setBank, bank_setBank, if_neg (by simp [hb])]
  have inHand : ((s.setBank b y).bank b).program = .data i .inFlight := by rw [bank_setBank]; exact hp
  have continues : ((s.setBank b y).bank b).programTimer.continue s.now = .running (s.now + remaining) := by
    rw [bank_setBank, show y.programTimer = .paused remaining from ht]; rfl
  rw [serves]
  simp only [State.resume, inHand]
  rw [State.setBank_now, continues]
  simp only [bank_setBank, slot_setBank, setSlot_setBank, setBank_setBank, ← hp]
  rfl

/-- When SUSPEND is sent for the data program in flight at a bank (R58). -/
theorem suspends_iff (b : BankId) (i : SlotId) (h : (s.bank b).program = .data i .inFlight) :
    s.suspends b = true ↔ (s.bank b).monitor = .programming ∧ (s.bank b).readQueue ≠ []
      ∧ (s.slot i).suspends < s.engine.profile.suspendBudget
      ∧ (s.control.state = .running ∨ s.control.state = .degraded) := by
  simp [State.suspends, h, and_assoc, and_left_comm, and_comm]

theorem bank_resumed (b : BankId) (x : Bank) (i : SlotId) (remaining : Nat) :
    (s.resumed b x i remaining).bank b = { x with
      monitor := .programming, programTimer := .running (s.now + remaining),
      awaited := [.programDone x.programTag] } :=
  bank_setBank ..

theorem slot_resumed (b : BankId) (x : Bank) (i : SlotId) (remaining : Nat) :
    (s.resumed b x i remaining).slot i = { s.slot i with state := .programming } :=
  slot_setSlot ..

/-- A bank that has sent RESUME stays PROGRAMMING with no read waiting, or beyond the budget, or in another state. -/
theorem suspendDecision_resumed_of_not (b : BankId) (x : Bank) (i : SlotId) (remaining : Nat)
    (hp : x.program = .data i .inFlight) (h : ¬ (x.readQueue ≠ []
      ∧ (s.slot i).suspends < s.engine.profile.suspendBudget
      ∧ (s.control.state = .running ∨ s.control.state = .degraded))) :
    (s.resumed b x i remaining).suspendDecision b = s.resumed b x i remaining := by
  refine suspendDecision_of_not _ b (Bool.eq_false_iff.mpr fun sends => h ?_)
  obtain ⟨-, waits, budget, state⟩ := (suspends_iff _ b i (by rw [bank_resumed]; exact hp)).mp sends
  rw [bank_resumed] at waits
  rw [slot_resumed] at budget
  exact ⟨waits, budget, state⟩

/-- A bank that has sent RESUME sends SUSPEND again with a read waiting and the budget not used up. -/
theorem suspendDecision_resumed_sends (b : BankId) (x : Bank) (i : SlotId) (remaining : Nat)
    (hp : x.program = .data i .inFlight) (hr : x.readQueue ≠ [])
    (hs : (s.slot i).suspends < s.engine.profile.suspendBudget)
    (hc : s.control.state = .running ∨ s.control.state = .degraded) :
    (s.resumed b x i remaining).suspendDecision b
      = { (s.setSlot i { s.slot i with state := .programming }).setBank b { x with
            monitor := .suspendPending, programTimer := .running (s.now + remaining),
            awaited := [.programDone x.programTag, .suspendAck x.programTag] } with
          arrayOut := s.arrayOut ++ [.resume b x.programTag, .suspend b x.programTag] } := by
  rw [suspendDecision_sends _ b i _ (bank_resumed s b x i remaining) rfl hr hc hp (by rw [slot_resumed]; exact hs)]
  simp only [State.resumed, State.setBank, Vector.set_set, List.append_assoc, List.cons_append, List.nil_append]

/-! ### A host read that completes (R77) -/

theorem completeBytes_eq (page : List Byte) (first : Nat) (data : List (Option Byte)) :
    completeBytes page first data = data.mapIdx (fun k c => c.getD (page.getD (first + k) 0x00#8)) := by
  induction data generalizing first with
  | nil => rfl
  | cons c data ih =>
    have shift (k : Nat) : first + 1 + k = first + (k + 1) := by omega
    simp only [completeBytes, ih, List.mapIdx_cons, Nat.add_zero, shift]

/-- The state once a host read is answered from a page of array bytes, its record and pin having left (R77). -/
def State.readAnswered (s : State) (r : ReadRecord) (page : List Byte) : State := { s with
  link := { s.link with
    tags := s.link.tags.filter (fun t => t != r.tag),
    responses := s.link.responses ++ [.readData r.tag .ok (r.data.mapIdx (fun k c =>
      c.getD (page.getD (r.first + k) 0x00#8)))] },
  reads := s.reads.filter (fun x => x.tag != r.tag),
  absorb := { s.absorb with
    directory := changeEntry r.page (fun e => { e with pins := e.pins - 1 }) s.absorb.directory } }

/-- The array bytes of a host read arrive at a bank that is not IDLE. -/
theorem readComplete_of_busy (r : ReadRecord) (b : BankId) (page : List Byte) (hf : s.record? r.tag = some r)
    (hb : s.bankOfPage r.page = b) (hm : (s.bank b).monitor ≠ .idle) :
    s.readComplete r.tag page = s.readAnswered r page := by
  simp only [State.readComplete, hf, completeBytes_eq]
  exact dropRecord_of_busy _ r b hb hm

/-- A READ_DONE whose page is whole: its owner takes the page, and the bank goes on (R62). -/
theorem takeRead?_completes (b : BankId) (x : Bank) (job : ReadJob) (page : List Byte) (hj : x.read = some job)
    (hl : page.length = 256) : (s.setBank b x).takeRead? b (.ok (.bytes page))
      = ((s.setBank b { x with read := none, readTimer := .stopped }).jobComplete job (.bytes page)).afterRead b := by
  have whole : pageOf? (.ok (.bytes page)) = some (.bytes page) := by simp [pageOf?, PageData.whole, hl]
  simp only [State.takeRead?, bank_setBank, hj, whole, State.clearRead, setBank_setBank]

/-! ### PROGRAM_DONE before the SUSPEND_ACK (R54, R60) -/

/-- PROGRAM_DONE with OK at a bank in SUSPEND_PENDING: the outcome is taken at once, and the bank goes on unless the
answer to its SUSPEND is still awaited. The state `f` is the one in which the slot has been told. -/
theorem takeProgramDone_pending (b : BankId) (p : Nat) (i : SlotId) (acks : List Awaited) (f : State)
    (hn : s.namesBank b.val = true) (hm : (s.bank b).monitor = .suspendPending)
    (hp : (s.bank b).program = .data i .inFlight) (ha : .programDone p ∈ (s.bank b).awaited)
    (hu : s.untilTaken b (.programDone p) = s.setBank b { s.bank b with awaited := acks })
    (hf : (s.setBank b { s.bank b with program := .absent, awaited := acks }).programmedOk i = f)
    (hd : f.control.drain = none) (hw : f.writer.list = []) :
    s.takeProgramDone b.val p .ok = f.endProgram b := by
  have outcome : ((s.setBank b { s.bank b with awaited := acks }).stopProgramTimer b).setProgram b .absent
      = s.setBank b { s.bank b with program := .absent, awaited := acks } := by
    rw [State.stopProgramTimer, if_neg (by rw [bank_setBank]; simp [hm])]
    simp only [State.setProgram, bank_setBank, setBank_setBank]
  have judged : f.judgeEnd = f := judgeEnd_of_none f (endingDrain?_of_none f hd)
  have takes : s.takeProgramDone b.val p .ok
      = (((s.untilTaken b (.programDone p)).stopProgramTimer b).dataOutcome b i .ok).endProgram b := by
    simp only [State.takeProgramDone, takingBank?_of_awaited s b (.programDone p) hn ha, hp]
  rw [takes, hu]
  simp only [State.dataOutcome, outcome, hf, judged, kick_of_empty f hw]

/-- A PROGRAM_DONE that is taken and leaves nothing due. -/
theorem programDone_ends (b : BankId) (q : Nat) (outcome : ProgramOutcome) (t : State) (hr : s.ready = true)
    (hn : s.namesBank b.val = true) (ha : .programDone q ∈ (s.bank b).awaited)
    (h : s.takeProgramDone b.val q outcome = t) (hq : t.quiet = true) :
    exec (.programDone b.val q outcome) s = .next t.judgeAlert := by
  rw [programDone_taken s b q outcome hr hn ha, h, settle_of_quiet t hq]

/-- A slot programmed at its page's own location, the page's only one and not lost, becomes FREE, with an OPEN head
epoch and at a bank that is not IDLE. -/
theorem programmedOk_alone (i : SlotId) (b : BankId) (e : Epoch) (rest : List Epoch)
    (ht : (s.slot i).target = some .own) (hl : (s.slot i).page ∉ s.remap.lost)
    (ha : s.slotList (s.slot i).page = [i]) (hd : directoryLawful s.absorb.directory = true)
    (hb : s.bankOfPage (s.slot i).page = b) (hm : (s.bank b).monitor ≠ .idle) (he : s.tracker.epochs = e :: rest)
    (ho : e.state = .opened) : s.programmedOk i = s.freedAlone i (s.slot i).page := by
  have none : (s.freedState (s.slot i).page [i]).slotList (s.slot i).page = [] := by
    rw [slotList_freedState s _ _ hd, ha]; simp
  have freed : s.freeSlot i = s.freedState (s.slot i).page [i] := by
    refine freeSlot_eq s i [] [] _ ha (by simp) ?_ (by rw [hb]; exact hm)
    rw [State.reexamine, List.nil_append, none, List.foldl_nil]
  rw [programmedOk_frees s i ((recordingRequests_of_standing s i (.inl ht)).trans (if_neg hl)), State.freeReported,
    freed]
  exact epochDown_stays _ _ e rest he (.inl ho)

end

end Sys2Proof.Machine

namespace Sys2Proof

open Machine

/-- Settles O31, clause by clause in the order of the suspension: it begins, it serves its batch and resumes, and the
two orders in which NOT_ACTIVE and PROGRAM_DONE can end SUSPEND_PENDING. -/
theorem suspendedProgramServesABatch : Obligations.SuspendedProgramServesABatch := by
  intro s b i hr hgeo
  have hq := ready_quiet s hr
  have named := namesBank_of_known s b hgeo
  refine ⟨fun p deadline job rest hmon hprog ht hawait hqueue hstate => ?_,
    fun q remaining index retried page r hmon hprog ht hawait hread hbatch hstate hrec hbank hlen => ?_,
    fun p hmon hprog hawait => ?_,
    fun p e epochs hmon hprog hd hup hbank hlist htarget hlost halone hdir he ho => ?_,
    fun p answer hmon hawait hd => ⟨fun job rest hprog hqueue hpres => ?_,
      fun target queue hprog hc htarget hstate hqueue hi halone hpin hnone => ?_⟩⟩
  · have suspends := (takeSuspendAck_suspends s b p i named hawait hprog).trans
      (suspendProgram_reads s b { s.bank b with awaited := [.programDone p] } i deadline job rest ht hqueue)
    rw [readSent_setBank] at suspends ⊢
    exact suspendAck_taken s b p _ _ hr named (by simp [hawait]) suspends
      (quiet_of_carrying s _ i _ hq rfl rfl rfl (carries_setBank s b _ id) (slot_setSlot s i _) (by simp) (by simp))
  · intro resumed again
    let x : Bank := { s.bank b with read := none, readTimer := .stopped, awaited := [] }
    let answered := s.readAnswered r page
    let t := answered.resumed b x i remaining
    have completes : (s.setBank b x).readComplete r.tag page = answered.setBank b x :=
      readComplete_of_busy (s.setBank b x) r b page hrec hbank (by simp [x, hmon])
    have takes : (s.setBank b { s.bank b with awaited := [] }).takeRead? b (.ok (.bytes page))
        = t.suspendDecision b :=
      ((takeRead?_completes s b { s.bank b with awaited := [] } _ page hread hlen).trans
        (congrArg (State.afterRead · b) completes)).trans
        (afterRead_resumes answered b x i remaining hmon hbatch hprog ht)
    have slot := slot_resumed answered b x i remaining
    refine ⟨fun no => ?_, fun ⟨waits, budget, state⟩ => ?_⟩
    · exact readDone_taken s b q _ t hr named hawait
        (takes.trans (suspendDecision_resumed_of_not answered b x i remaining hprog no))
        (quiet_of_carrying s t i _ hq rfl rfl rfl (carries_setBank s b _ id) slot (by simp) (by simp))
    · exact readDone_taken s b q _ _ hr named hawait
        (takes.trans (suspendDecision_resumed_sends answered b x i remaining hprog waits budget state))
        (quiet_of_carrying s _ i _ hq rfl rfl rfl (carries_setBank s b _ id) slot (by simp) (by simp))
  · exact suspendAck_taken s b p _ _ hr named (by simp [hawait])
      (takeSuspendAck_notActive s b p i named hawait hprog)
      (quiet_of_busier s _ hq rfl rfl rfl id (carries_setBank s b _ id))
  · intro freed
    have due (t : State) (ha : .programDone p ∈ (s.bank b).awaited) :=
      programDone_ends s b p .ok t hr named ha
    have told (acks : List Awaited) :
        (s.setBank b { s.bank b with program := .absent, awaited := acks }).programmedOk i
          = freed { s.bank b with program := .absent, awaited := acks } :=
      programmedOk_alone _ i b e epochs htarget hlost halone hdir hbank (by simp [hmon]) he ho
    have bank (x : Bank) : (freed x).bank b = x := bank_setBank ..
    refine ⟨fun hawait => ?_, fun job rest hawait hqueue hpres => ?_⟩
    · have waits : s.takeProgramDone b.val p .ok
          = freed { s.bank b with program := .absent, awaited := [.suspendAck p] } := by
        rw [takeProgramDone_pending s b p i _ _ named hmon hprog (by simp [hawait]) (untilTaken_done s b p hawait)
          (told _) hd hlist, State.endProgram, bank]
        rfl
      exact due _ (by simp [hawait]) waits (quiet_of_undrained s _ hq hd rfl rfl)
    · let x : Bank := { s.bank b with program := .absent, awaited := [] }
      let u := s.freedAlone i (s.slot i).page
      have leaves : s.takeProgramDone b.val p .ok
          = (u.setBank b { x with programTimer := .stopped }).readSent b job rest rest.length .reading := by
        rw [takeProgramDone_pending s b p i _ _ named hmon hprog (by simp [hawait]) (untilTaken_of_alone s b _ hawait)
          (told _) hd hlist, State.endProgram, if_pos (by rw [bank]; rfl)]
        exact leaveProgram_reads u b x job rest rfl hqueue hpres
      change exec _ s = .next (State.judgeAlert ((u.setBank b
        { s.bank b with program := .absent, programTimer := .stopped }).readSent b job rest rest.length .reading))
      rw [readSent_setBank] at leaves ⊢
      exact due _ (by simp [hawait]) leaves (quiet_of_undrained s _ hq hd rfl rfl)
  · have leaves := (takeSuspendAck_leaves s b p answer named hawait (by simp [hprog])).trans
      (leaveProgram_reads s b { s.bank b with awaited := [] } job rest hprog hqueue hpres)
    rw [readSent_setBank] at leaves ⊢
    exact suspendAck_taken s b p _ _ hr named (by simp [hawait]) leaves (quiet_of_undrained s _ hq hd rfl rfl)
  · have leaves := (takeSuspendAck_leaves s b p answer named hawait (by simp [hprog])).trans
      (leaveProgram_again s b { s.bank b with awaited := [] } i queue target hprog hqueue hi hc hd
        ⟨hstate, htarget, halone, hpin⟩ hnone)
    exact suspendAck_taken s b p _ _ hr named (by simp [hawait]) leaves (quiet_of_undrained s _ hq hd rfl rfl)

end Sys2Proof
end

/-! ## The beginning of a drain -/

section
/-!
SUPPORT. A drain that begins with nothing to leave and nothing waiting, the SHUTDOWN that an IDLE writer appends at
once, and O7.
-/

namespace Sys2Proof.Machine

section
variable (s : State)

/-- With no OPEN slot, no staging, no scrub and no waiting write, leaving RUNNING changes nothing (R163). -/
theorem leaveRunning_of_nothing (ho : ∀ i, (s.slot i).state ≠ .opened) (hs : s.region.staging = .empty)
    (hw : s.region.walker = none) (hh : s.link.head = none) : s.leaveRunning = s := by
  have closed : s.closeInAgeOrder s.openSlots = s := by rw [openSlots_eq_nil s ho]; rfl
  have unstaged : s.discardStaging = s := if_pos hs
  rw [State.leaveRunning, closed, unstaged]
  simp only [State.abandonScrub, hw, State.haltHead, hh]

/-- Nothing that a drain would end as it begins, and nothing waiting for a bank. -/
structure State.Uncommitted (s : State) : Prop where
  noneOpen : ∀ i, (s.slot i).state ≠ .opened
  unstaged : s.region.staging = .empty
  noScrub : s.region.walker = none
  noHead : s.link.head = none
  notCompacting : s.writer.state ≠ .compacting
  calm : s.Calm

/-- The state with the drain record set, DRAINING (R169). -/
def State.drainSet (s : State) (kind : DrainKind) : State :=
  { s with control := { s.control with state := .draining, drain := some (s.drainRecord kind) } }

variable {s} in
/-- A drain that ends nothing as it begins comes to its end point's judgement at once (R169). -/
theorem State.Uncommitted.beginDrain (h : s.Uncommitted) (kind : DrainKind) :
    s.beginDrain kind = (s.drainSet kind).judgeEnd.arbitrateAll := by
  have left : (s.drainSet kind).leaveRunning = s.drainSet kind :=
    leaveRunning_of_nothing _ h.noneOpen h.unstaged h.noScrub h.noHead
  have kept : (s.drainSet kind).abandonCompaction = (s.drainSet kind).judgeEnd := if_neg h.notCompacting
  exact congrArg State.arbitrateAll ((congrArg State.abandonCompaction left).trans kept)

variable {s} in
/-- Without an end point that hands the SHUTDOWN, the record is all that a drain sets as it begins. -/
theorem State.Uncommitted.beginDrain_waits (h : s.Uncommitted) (kind : DrainKind)
    (hn : (s.drainSet kind).endingDrain? = none) : s.beginDrain kind = s.drainSet kind := by
  have calm : (s.drainSet kind).Calm := h.calm.of_sched rfl
  rw [h.beginDrain, judgeEnd_of_none _ hn, calm.arbitrateAll]

/-- Nothing becomes due in a drain whose SHUTDOWN is with the writer, or whose end point is still to come. -/
theorem quiet_of_drain (t : State) (d : Drain) (hq : s.quiet = true) (hd : t.control.drain = some d)
    (hs : d.shutdown = .handed ∨ d.shutdown = .notHanded ∧ t.drainAtEnd d = false)
    (hu : t.control.startup = s.control.startup)
    (hw : t.writer.state = s.writer.state ∨ t.writer.state = .appending) : t.quiet = true := by
  simp only [State.quiet, Bool.and_eq_true, State.stage?] at hq ⊢
  obtain ⟨-, stage⟩ := hq
  rw [hd, hu]
  refine ⟨?_, ?_⟩
  · rcases hs with hs | ⟨hs, hend⟩
    · simp [hs]
    · simp [hs, hend]
  · rcases hw with hw | hw
    · rwa [hw]
    · rw [hw]
      split
      · rfl
      · rfl
      · next answer h => simpa [h] using stage
      · rfl

/-- With a slot at work, and a budget of 2 programs or none at all, the end point of a new drain is still to come. -/
theorem drainAtEnd_drainSet (kind : DrainKind) (hr : s.slotsAtRest = false)
    (hb : ∀ n ∈ (s.drainRecord kind).budget, 2 ≤ n) :
    (s.drainSet kind).drainAtEnd (s.drainRecord kind) = false := by
  have rest : (s.drainSet kind).slotsAtRest = false := hr
  cases kind with
  | power =>
    have two : ¬ s.engine.profile.drainBudget ≤ 0 + 1 := by have := hb _ rfl; omega
    simp [State.drainAtEnd, rest, State.drainRecord, two]
  | restart => simp [State.drainAtEnd, rest, State.drainRecord]

variable {s} in
/-- A drain begins with a slot at work: nothing else becomes due. -/
theorem State.Uncommitted.beginDrain_quiet (h : s.Uncommitted) (kind : DrainKind) (hq : s.quiet = true)
    (hr : s.slotsAtRest = false) (hb : ∀ n ∈ (s.drainRecord kind).budget, 2 ≤ n) :
    s.beginDrain kind = s.drainSet kind ∧ (s.drainSet kind).quiet = true := by
  have waits := drainAtEnd_drainSet s kind hr hb
  have noEnd : (s.drainSet kind).endingDrain? = none := by
    rw [State.endingDrain?, show (s.drainSet kind).control.drain = some (s.drainRecord kind) from rfl]
    simp [waits]
  exact ⟨h.beginDrain_waits kind noEnd,
    quiet_of_drain s _ (s.drainRecord kind) hq rfl (.inr ⟨rfl, waits⟩) rfl (.inl rfl)⟩

variable {s} in
/-- A POWER drain that begins in DEGRADED with the slots at rest, where no request waits for the log, ends at once in
DORMANT (R169, R171). -/
theorem State.Uncommitted.beginDrain_ends (h : s.Uncommitted) (hc : s.control.state = .degraded)
    (hr : s.slotsAtRest = true) (hl : s.writer.list = []) (hm : s.remap.held = []) (hg : s.region.held = none) :
    (s.beginDrain .power).settle = State.judgeAlert
      { s with control := { s.control with state := .dormant, drain := none, startup := none } } := by
  let t := s.drainSet .power
  have noRecord : t.endingDrain? = none := by
    rw [State.endingDrain?, show t.control.drain = some (s.drainRecord .power) from rfl]
    simp [State.drainRecord, hc]
  have atEnd : t.drainAtEnd (s.drainRecord .power) = true := by
    rw [State.drainAtEnd, show t.slotsAtRest = true from hr, Bool.true_or]
  have calm : t.Calm := h.calm.of_sched rfl
  let dormant : State :=
    { s with control := { s.control with state := .dormant, drain := none, startup := none } }
  have silent : dormant.answerHolder = dormant :=
    answerHolder_of_none dormant (by simp [dormant, hl, hm]) hg
  have ends : t.endDrain (s.drainRecord .power) = dormant :=
    (congrArg State.answerHolder (enterDormant_of_calm t calm)).trans silent
  have judged : t.judgeDrain = dormant := by
    simp only [State.judgeDrain, judgeEnd_of_none t noRecord,
      show t.control.drain = some (s.drainRecord .power) from rfl, show (s.drainRecord .power).shutdown = .notHanded from rfl, atEnd, if_true, ends]
  rw [h.beginDrain_waits .power noRecord, State.settle, judged, advanceStartup_of_none dormant rfl]

/-! ### The SHUTDOWN is appended (R103, R106, R171) -/

/-- An append takes a SHUTDOWN that stands alone in the list of a half with a free position (R106). -/
theorem planAppend_of_shutdown (used free : Nat) (r : Request) (hs : r.isShutdown = true)
    (hl : r.remaining.length = 1) (hu : used < 1024) (hf : 0 < free) : planAppend true used free [r]
      = { records := r.remaining, carried := [{ request := r, complete := true }], rest := [], refused := [],
          kept := [r] } := by
  have roomy : roomRefused true used r = false := by simp [roomRefused, hs, hu]
  simp [planAppend, Nat.ne_of_gt hf, roomy, hl, Nat.one_le_iff_ne_zero]

/-- The writer's program that carries a request as the only one of its list. -/
def Writer.programFor (w : Writer) (r : Request) : WriterProgram :=
  { page := 64 * w.activeHalf + w.used / 16,
    image := (w.buffer.take (w.used % 16) ++ (r.remaining ++ List.replicate 16 Record.blank)).take 16,
    carried := [{ request := r, complete := true }], records := r.remaining.length, attempts := 0 }

/-- A writer at rest with a free position in its half. -/
structure State.WriterRests (s : State) : Prop where
  idle : s.writer.state = .idle
  list : s.writer.list = []
  program : s.writer.program = none
  room : s.writer.used < 1024
  pending : s.sched.pendingMeta = none
  noMeta : s.metaInFlight = false

variable {s} in
/-- A writer at rest that is handed the SHUTDOWN appends it at once (R103, R106). -/
theorem State.WriterRests.handShutdown (h : s.WriterRests) (r : Request) (hc : s.control.state = .draining)
    (ho : s.drainOver = false) (hs : r.isShutdown = true) (hl : r.remaining.length = 1) : s.handShutdown r
      = ({ s with writer := { s.writer with
          state := .appending, program := some (s.writer.programFor r) } } : State).handProgram := by
  obtain ⟨idle, list, program, room, pending, noMeta⟩ := h
  let listed : State := { s with writer := { s.writer with list := [r] } }
  have lists : s.listShutdown r = listed := by
    simp [State.listShutdown, Writer.splitRequest, program, list, answerRequests, listed]
  have unpended : listed.setPendingMeta none = listed := by
    simp only [State.setPendingMeta, listed, ← pending]
  have nothing : listed.dropProgram true = listed := by
    have same : ({ listed.writer with state := .idle, list := [r], program := none } : Writer) = listed.writer := by
      simp only [listed, ← idle, ← program]
    simp only [State.dropProgram, Writer.completing, Writer.splitRequest,
      show listed.writer.program = none from program, List.nil_append, List.length_nil, List.drop_zero, answerRequests]
    rw [show listed.writer.list = [r] from rfl, same]
  have plan : listed.appendPlan
      = { records := r.remaining, carried := [{ request := r, complete := true }], rest := [], refused := [],
          kept := [r] } := by
    rw [State.appendPlan, show (listed.control.state == .draining) = true by simp [listed, hc]]
    exact planAppend_of_shutdown _ _ r hs hl room (by omega)
  have kicks : listed.kick = listed.takeAppend := by
    rw [State.kick, if_pos ⟨idle, by simp [listed], pending, .inr hc, ho⟩,
      startAppend_of_room listed (by rw [plan])]
  have takes : listed.takeAppend = ({ s with writer := { s.writer with
      state := .appending, list := [], program := some (s.writer.programFor r) } } : State).handProgram := by
    simp only [State.takeAppend, plan, List.isEmpty_cons, Bool.false_eq_true, if_false, answerRequests,
      padBlank, List.append_assoc]
    rfl
  rw [State.handShutdown, lists, if_neg (by rw [show listed.metaInFlight = false from noMeta]; simp), unpended,
    nothing, kicks, takes, ← list]

/-! ### A metadata program is handed to an IDLE bank (R50, R65) -/

/-- The state once a bank has sent PROGRAM_PAGE for a metadata page (R65, R176, R177). -/
def State.metaSent (s : State) (b : BankId) (p : PendingMeta) : State :=
  { s with
    sched := {
      banks := s.sched.banks.set b.val { s.bank b with
        monitor := .programming, program := .metadata, programTimer := .running (s.now + 5000),
        sequence := (s.bank b).nextTag, programTag := (s.bank b).nextTag,
        awaited := [.programDone (s.bank b).nextTag] },
      pendingMeta := some p },
    arrayOut := s.arrayOut ++ [.programPage b (s.metaIndex p.page) (s.bank b).nextTag (.log p.image)] }

/-- The writer's program goes at once to an IDLE bank for which nothing waits, and counts (R65, R170). -/
theorem handProgram_sends (p : WriterProgram) (b : BankId) (hp : s.writer.program = some p)
    (hb : s.metaBank p.page = b) (hi : (s.bank b).monitor = .idle) (ha : (s.bank b).presence ≠ .absent)
    (hw : (s.bank b).noneWaits = true) (hm : s.metaAllowed = true) :
    s.handProgram = (s.metaSent b { page := p.page, image := p.image }).countProgram := by
  let q : PendingMeta := { page := p.page, image := p.image }
  let t := s.setPendingMeta (some q)
  obtain ⟨-, -, batch⟩ := (noneWaits_iff _).mp hw
  have forIt : t.metaFor? b = some q := if_pos ⟨hb, hm⟩
  have chooses : t.arbitrate b = t.dispatchMeta b q := by
    rw [State.arbitrate, show t.bank b = s.bank b from rfl, forIt]
    simp [hi, ha, batch]
  rw [State.handProgram, hp]
  simp only [hb, if_neg ha]
  exact chooses

theorem arbitrateAll_of_settled (h : ∀ b, s.arbitrate b = s) : s.arbitrateAll = s := by
  have stays (l : List BankId) : l.foldl State.arbitrate s = s := by
    induction l with
    | nil => rfl
    | cons b l ih => rw [List.foldl_cons, h, ih]
  exact stays allBanks

/-- Once the metadata program has been sent, no bank chooses anything. -/
theorem arbitrateAll_metaSent (b : BankId) (p : PendingMeta) (t : State) (hb : s.metaBank p.page = b)
    (hw : ∀ k, (s.bank k).noneWaits = true) (ht : t.sched = (s.metaSent b p).sched)
    (hg : t.geometry = s.geometry) : t.arbitrateAll = t := by
  refine arbitrateAll_of_settled t fun k => ?_
  by_cases e : b = k
  · subst e
    refine arbitrate_of_busy t b ?_
    rw [State.bank, ht]
    simp [State.metaSent]
  · have waits : (t.bank k).noneWaits = true :=
      (noneWaits_set s b k _ t (by rw [ht]; rfl) (by rfl)).trans (hw k)
    obtain ⟨programs, reads, batch⟩ := (noneWaits_iff _).mp waits
    refine arbitrate_of_nothing t k batch (metaFor?_of_elsewhere t k fun q hq => ?_) programs reads
    have same : p = q := Option.some.inj (by rw [← hq, ht]; rfl)
    have place : t.metaBank q.page = b := by
      rw [← same, ← hb]; simp only [State.metaBank, State.bankCount, hg]
    rw [place]; exact e

/-! ### The end point comes as the drain begins (R171) -/

theorem allSlots_eq_finRange : allSlots = List.finRange 32 := by decide

theorem strandedCount_eq :
    s.strandedCount = (allSlots.filter (fun i => (s.slot i).state == .stranded)).length := by
  have slots : s.absorb.slots.toList = allSlots.map s.slot := by
    refine List.ext_getElem (by simp [allSlots_eq_finRange]) fun k h1 h2 => ?_
    simp [allSlots_eq_finRange, State.slot]
  rw [State.strandedCount, slots, List.countP_map, List.countP_eq_length_filter]
  rfl

/-- The outcome of a drain whose end point comes with every slot at rest (R171). -/
def DrainKind.outcome : DrainKind → ShutdownOutcome
  | .power => .complete
  | .restart => .restart

/-- The SHUTDOWN of a drain that begins with every slot at rest. -/
def State.lastRequest (s : State) (kind : DrainKind) : Request :=
  Request.of (.shutdown s.control.session kind.outcome s.tracker.lastPersisted
    (allSlots.filter (fun i => (s.slot i).state == .stranded)).length)

/-- The drain record once the SHUTDOWN has been sent at the beginning of a drain. -/
def State.drainHanded (s : State) (kind : DrainKind) : Drain :=
  { s.drainRecord kind with count := 1, shutdown := .handed }

/-- The state once a drain has begun in RUNNING and has sent its SHUTDOWN to a bank. -/
def State.shutdownSent (s : State) (b : BankId) (kind : DrainKind) : State :=
  let p := s.writer.programFor (s.lastRequest kind)
  { s.metaSent b { page := p.page, image := p.image } with
    control := { s.control with state := .draining, drain := some (s.drainHanded kind) },
    writer := { s.writer with state := .appending, program := some p } }

/-- The same in the geometry's terms, for a drain that begins in RUNNING. -/
theorem shutdownSent_eq (b : BankId) (kind : DrainKind) (g : Geometry) (hg : s.geometry = some g)
    (hc : s.control.state = .running) :
    let p := s.writer.programFor (s.lastRequest kind)
    let tag := (s.bank b).nextTag
    s.shutdownSent b kind = { s with
      control := { s.control with
        state := .draining,
        drain := some { kind := kind, budget := (s.drainRecord kind).budget, count := 1, recordPermitted := true,
                        shutdown := .handed } },
      writer := { s.writer with state := .appending, program := some p },
      sched := {
        banks := s.sched.banks.set b.val { s.bank b with
          monitor := .programming, program := .metadata, programTimer := .running (s.now + 5000),
          sequence := tag, programTag := tag, awaited := [.programDone tag] },
        pendingMeta := some { page := p.page, image := p.image } },
      arrayOut := s.arrayOut
        ++ [.programPage b (g.pages - 128 / g.banks + p.page / g.banks) tag (.log p.image)] } := by
  simp only [State.shutdownSent, State.metaSent, State.metaIndex, hg, State.drainHanded, State.drainRecord, hc,
    beq_self_eq_true]

/-- Once the SHUTDOWN has been sent, nothing is due. -/
theorem quiet_shutdownSent (b : BankId) (kind : DrainKind) (h : s.quiet = true) :
    (s.shutdownSent b kind).quiet = true :=
  quiet_of_drain s _ (s.drainHanded kind) h rfl (.inl rfl) rfl (.inr rfl)

/-- The end point of a drain whose SHUTDOWN is permitted and still to be handed (R171). -/
theorem endingDrain?_of_end (d : Drain) (h : s.control.drain = some d) (hs : d.shutdown = .notHanded)
    (hp : d.recordPermitted = true) (he : s.drainAtEnd d = true) : s.endingDrain? = some d := by
  simp [State.endingDrain?, h, Option.filter, hs, hp, he]

variable {s} in
/-- A drain that begins in RUNNING with every slot at rest and a writer at rest sends its SHUTDOWN at once. -/
theorem State.Uncommitted.beginDrain_hands (h : s.Uncommitted) (w : s.WriterRests) (kind : DrainKind) (b : BankId)
    (hc : s.control.state = .running) (hr : s.slotsAtRest = true)
    (hb : s.metaBank (64 * s.writer.activeHalf + s.writer.used / 16) = b)
    (hi : (s.bank b).monitor = .idle) (ha : (s.bank b).presence ≠ .absent)
    (hn : ∀ n ∈ (s.drainRecord kind).budget, 0 < n) : s.beginDrain kind = s.shutdownSent b kind := by
  let d := s.drainRecord kind
  let t := (s.drainSet kind).markHanded d
  let r := s.lastRequest kind
  have ending : (s.drainSet kind).endingDrain? = some d := by
    have atEnd : (s.drainSet kind).drainAtEnd d = true := by
      rw [State.drainAtEnd, show (s.drainSet kind).slotsAtRest = true from hr, Bool.true_or]
    exact endingDrain?_of_end (s.drainSet kind) d rfl rfl (by simp [d, State.drainRecord, hc]) atEnd
  have request : (s.drainSet kind).shutdownRequest d = r := by
    have outcome : (s.drainSet kind).shutdownOutcome d = kind.outcome := by
      cases kind with
      | power =>
        have rest : (s.drainSet .power).slotsAtRest = true := hr
        simp [State.shutdownOutcome, d, State.drainRecord, rest, DrainKind.outcome]
      | restart => rfl
    rw [State.shutdownRequest, outcome, strandedCount_eq]
    rfl
  have rests : t.WriterRests := ⟨w.idle, w.list, w.program, w.room, w.pending, w.noMeta⟩
  have appends := rests.handShutdown r rfl rfl rfl rfl
  let a : State := { t with writer := { t.writer with state := .appending, program := some (t.writer.programFor r) } }
  have allowed : a.metaAllowed = true := by
    have carries : a.carriesShutdown = true := rfl
    simp only [State.metaAllowed, show a.control.state = .draining from rfl, carries, if_true, State.budgetAllows,
      show a.control.drain = some { d with shutdown := .handed } from rfl]
    split
    · next n hbudget => simpa [d, State.drainRecord] using hn n hbudget
    · rfl
  have sends := handProgram_sends a _ b rfl hb hi ha (h.calm.banks b) allowed
  have judged : (s.drainSet kind).judgeEnd = s.shutdownSent b kind := by
    rw [State.judgeEnd, ending]
    simp only [request]
    exact appends.trans sends
  rw [h.beginDrain, judged]
  exact arbitrateAll_metaSent s b _ _ hb h.calm.banks rfl rfl

end

/-! ### The commands -/

section
variable (s : State)

/-- POWER_WARN_ASSERT in RUNNING or DEGRADED begins a POWER drain (R168). -/
theorem powerWarnAssert_begins (hr : s.ready = true) (hp : s.pins.powerWarn = false)
    (hc : s.control.state = .running ∨ s.control.state = .degraded) : exec .powerWarnAssert s
      = .next (({ s with pins := { s.pins with powerWarn := true } } : State).beginDrain .power).settle := by
  have begins : ({ s with pins := { s.pins with powerWarn := true } } : State).powerWarn
      = ({ s with pins := { s.pins with powerWarn := true } } : State).beginDrain .power := by
    rcases hc with hc | hc <;> simp only [State.powerWarn, hc]
  rw [exec, execPowerWarnAssert, hp, ready_released s hr]
  simp only [Bool.false_eq_true, if_false, begins]

/-- RESTART in RUNNING or DEGRADED is answered STARTED and begins a RESTART drain (R172). -/
theorem restart_begins (d : DirRequest) (t : State) (h : s.offersDirective d = true) (hd : d.code = 0x30#8)
    (hl : d.payloadLength = 0) (hp : d.payload = []) (hs : s.region.staging = .empty)
    (hc : s.control.state = .running ∨ s.control.state = .degraded)
    (ht : ({ s with link := s.link.tookDirective [.directiveDone d.tag .started []] } : State).beginDrain .restart
      = t)
    (hq : t.quiet = true) : exec .restart s = .next t.judgeAlert := by
  obtain ⟨_, idle, _, _, fresh⟩ := offersDirective_cases s d h
  have admitted : s.admits .restart = true := by
    rcases hc with hc | hc <;> simp [State.admits, hc, Directive.inDegraded]
  refine directive_ends s .restart restartBody d t h (by rw [hd]; rfl) hs admitted
    (by simp [DirRequest.lengthOk, hl, hp, Directive.payloadLength]) ?_ hq
  rw [restartBody, answer_tookDirective s d.tag .started [] fresh idle, ht]

end

end Sys2Proof.Machine

namespace Sys2Proof

open Machine

/-- Settles O7: with a slot at work the record is all that is set, in DEGRADED at rest the drain ends at once, and in
RUNNING at rest it hands its SHUTDOWN at once, by POWER_WARN_ASSERT and by RESTART alike. -/
theorem drainBegins : Obligations.DrainBegins := by
  intro s hr hopen hstage hwalk hhead hcomp hwaits hmeta
  have hq := ready_quiet s hr
  have calm : s.Calm := ⟨hwaits, hmeta⟩
  have warned : ({ s with pins := { s.pins with powerWarn := true } } : State).Uncommitted :=
    ⟨hopen, hstage, hwalk, hhead, hcomp, calm.of_sched rfl⟩
  have asked (packets : List Packet) : ({ s with link := s.link.tookDirective packets } : State).Uncommitted :=
    ⟨hopen, hstage, hwalk, hhead, hcomp, calm.of_sched rfl⟩
  refine ⟨fun hp hc hrest hbudget => ?_, fun hp hc hrest hlist hheld hregion => ?_,
    fun b g hc hrest hidle hlist hprog hroom hg hb hbi hpres hnone => ?_,
    fun d ho hd hl hpay hc hrest => ?_⟩
  · obtain ⟨begins, quiet⟩ := warned.beginDrain_quiet .power hq hrest fun n hn => by
      obtain rfl : s.engine.profile.drainBudget = n := Option.some.inj hn
      omega
    rw [powerWarnAssert_begins s hr hp hc, begins, settle_of_quiet _ quiet]
    rfl
  · rw [powerWarnAssert_begins s hr hp (.inr hc), warned.beginDrain_ends hc hrest hlist hheld hregion]
  · intro page stranded tag handed
    have noMeta : s.metaInFlight = false := by
      rw [State.metaInFlight, List.any_eq_false]
      intro x hx
      obtain ⟨k, hk, rfl⟩ := List.getElem_of_mem hx
      simpa [State.bank] using hnone ⟨k, by simpa using hk⟩
    have place : s.metaBank page = b := by
      refine Fin.ext ?_
      rw [State.metaBank, State.bankCount, hg]
      simp [page, ← hb]
    refine ⟨fun hp hbudget => ?_, fun d ho hd hl hpay => ?_⟩
    · let u : State := { s with pins := { s.pins with powerWarn := true } }
      have begins : u.beginDrain .power = u.shutdownSent b .power :=
        warned.beginDrain_hands ⟨hidle, hlist, hprog, hroom, hmeta, noMeta⟩ .power b hc hrest place hbi hpres
          fun n hn => by
          obtain rfl : s.engine.profile.drainBudget = n := Option.some.inj hn
          omega
      rw [powerWarnAssert_begins s hr hp (.inl hc), begins, settle_of_quiet _ (quiet_shutdownSent u b .power hq),
        shutdownSent_eq u b .power g hg hc]
      rfl
    · let u : State := { s with link := s.link.tookDirective [.directiveDone d.tag .started []] }
      have begins : u.beginDrain .restart = u.shutdownSent b .restart :=
        (asked _).beginDrain_hands ⟨hidle, hlist, hprog, hroom, hmeta, noMeta⟩ .restart b hc hrest place hbi hpres
          fun n hn => by cases hn
      rw [restart_begins s d _ ho hd hl hpay hstage (.inl hc) begins (quiet_shutdownSent u b .restart hq),
        shutdownSent_eq u b .restart g hg hc]
      rfl
  · obtain ⟨begins, quiet⟩ := (asked _).beginDrain_quiet .restart hq hrest fun n hn => by cases hn
    exact restart_begins s d _ ho hd hl hpay hstage hc begins quiet

end Sys2Proof
end

/-! ## Reads that are taken -/

section
/-!
SUPPORT. The sources of a read's bytes, what the binding of a read leads to, and how READ_TAKE ends.
-/

namespace Sys2Proof.Machine

theorem find?_isSome_bind {α β : Type} (f : α → Option β) (xs : List α) :
    (xs.find? fun x => (f x).isSome).bind f = xs.findSome? f := by
  induction xs with
  | nil => rfl
  | cons x xs ih => cases hx : f x <;> simp [hx, ih]

section
variable (s : State)

/-! ### The sources of the bytes (R71 to R73) -/

/-- The search through a page's slots from the newest on finds the byte of the newest slot that holds the offset. -/
theorem slotByte?_eq_newestByte? (page offset : Nat) : s.slotByte? page offset = s.newestByte? page offset := by
  rw [State.newestByte?, List.getLast?_filter, find?_isSome_bind, State.slotByte?]

theorem boundBytes_eq (page first length : Nat) : s.boundBytes page first length
    = (List.range length).map fun k => s.newestByte? page (first + k) := by
  induction length generalizing first with
  | zero => rfl
  | succ n ih =>
    have shift (k : Nat) : first + 1 + k = first + (k + 1) := by omega
    simp [State.boundBytes, slotByte?_eq_newestByte?, ih, List.range_succ_eq_map, Function.comp_def, shift]

theorem boundBytes_of_slots (page first : Nat) (bytes : List Byte)
    (h : ∀ k, k < bytes.length → s.newestByte? page (first + k) = bytes[k]?) :
    s.boundBytes page first bytes.length = bytes.map some := by
  rw [boundBytes_eq]
  refine List.ext_getElem (by simp) fun k hk _ => ?_
  have inside : k < bytes.length := by simpa using hk
  simp [h k inside, inside]

theorem sourcedBytes_map_some (bytes : List Byte) : sourcedBytes (bytes.map some) = bytes := by
  simp [sourcedBytes]

/-- A read needs the array when no slot holds one of its offsets (R71). -/
theorem boundBytes_needs_array (page first length k : Nat) (hk : k < length)
    (h : s.newestByte? page (first + k) = none) : (s.boundBytes page first length).all Option.isSome = false := by
  rw [boundBytes_eq, List.all_eq_false]
  exact ⟨none, List.mem_map.mpr ⟨k, List.mem_range.mpr hk, h⟩, by simp⟩

/-! ### Binding (R73 to R75) -/

theorem bindRead_of_slots (r : ReadRequest) (bytes : List Byte) (hl : bytes.length = r.length)
    (h : ∀ k, k < r.length → s.newestByte? (r.address / 256) (r.address % 256 + k) = bytes[k]?) :
    s.bindRead r = s.respond r.tag (.readData r.tag .ok bytes) := by
  rw [← hl] at h
  have all : (bytes.map some).all Option.isSome = true := by simp
  rw [State.bindRead, ← hl, boundBytes_of_slots s _ _ bytes h, if_pos all, sourcedBytes_map_some]

theorem bindRead_of_lost (r : ReadRequest) (k : Nat) (hk : k < r.length)
    (h : s.newestByte? (r.address / 256) (r.address % 256 + k) = none) (hl : r.address / 256 ∈ s.remap.lost) :
    s.bindRead r = s.answerRead r.tag .lost := by
  rw [State.bindRead, if_neg (by simp [boundBytes_needs_array s _ _ _ k hk h]), if_pos (by simp [State.isLost, hl])]

/-- The state once a read of the array has its record and its pin, its job still to join the bank's queue (R75). -/
def State.readRecorded (s : State) (r : ReadRequest) (b : BankId) (index : Nat) : State := { s with
  reads := s.reads ++ [{ tag := r.tag, page := r.address / 256, first := r.address % 256, length := r.length,
                         data := (List.range r.length).map (fun k =>
                           s.newestByte? (r.address / 256) (r.address % 256 + k)),
                         bank := b, index := index }],
  absorb := { s.absorb with
    directory := changeEntry (r.address / 256) (fun e => { e with pins := e.pins + 1 }) s.absorb.directory } }

theorem bindRead_of_array (r : ReadRequest) (k : Nat) (b : BankId) (index : Nat) (hk : k < r.length)
    (h : s.newestByte? (r.address / 256) (r.address % 256 + k) = none) (hl : r.address / 256 ∉ s.remap.lost)
    (hb : s.bankOfPage (r.address / 256) = b)
    (hi : s.targetIndex (r.address / 256) (s.currentTarget (r.address / 256)) = index) :
    s.bindRead r = (s.readRecorded r b index).joinRead b
      { index := index, owner := .host r.tag, retried := false } := by
  rw [State.bindRead, if_neg (by simp [boundBytes_needs_array s _ _ _ k hk h]),
    if_neg (by simp [State.isLost, hl]), State.makeRecord, hb, hi, boundBytes_eq]
  rfl

/-! ### A read job at a bank that programs a slot (R58) -/

/-- A read job that joins a bank whose program has used up its suspensions waits at the end of the read queue. -/
theorem joinRead_of_spent (b : BankId) (i : SlotId) (job : ReadJob) (hm : (s.bank b).monitor = .programming)
    (hp : (s.bank b).program = .data i .inFlight) (hs : s.engine.profile.suspendBudget ≤ (s.slot i).suspends) :
    s.joinRead b job = s.setBank b { s.bank b with readQueue := (s.bank b).readQueue ++ [job] } := by
  let t := s.setBank b { s.bank b with readQueue := (s.bank b).readQueue ++ [job] }
  have bank : t.bank b = { s.bank b with readQueue := (s.bank b).readQueue ++ [job] } := bank_setBank ..
  have keeps : t.suspends b = false := Bool.eq_false_iff.mpr fun sends => by
    obtain ⟨-, -, budget, -⟩ := (suspends_iff t b i (by rw [bank]; exact hp)).mp sends
    exact Nat.not_lt.mpr hs budget
  rw [State.joinRead, if_neg (by simp [hm]), suspendDecision_of_not t b keeps,
    arbitrate_of_busy t b (by rw [bank]; simp [hm])]

/-- A read job that joins a bank whose program may be suspended has SUSPEND sent at once. -/
theorem joinRead_of_suspending (b : BankId) (i : SlotId) (job : ReadJob) (hm : (s.bank b).monitor = .programming)
    (hp : (s.bank b).program = .data i .inFlight) (hs : (s.slot i).suspends < s.engine.profile.suspendBudget)
    (hc : s.control.state = .running ∨ s.control.state = .degraded) :
    s.joinRead b job = { s.setBank b { s.bank b with
        monitor := .suspendPending, readQueue := (s.bank b).readQueue ++ [job],
        awaited := (s.bank b).awaited ++ [.suspendAck (s.bank b).programTag] } with
      arrayOut := s.arrayOut ++ [.suspend b (s.bank b).programTag] } := by
  let x : Bank := { s.bank b with readQueue := (s.bank b).readQueue ++ [job] }
  have sends := suspendDecision_sends (s.setBank b x) b i x (bank_setBank ..) hm (by simp [x]) hc hp hs
  rw [State.joinRead, if_neg (by simp [hm]), sends, setBank_setBank]
  exact arbitrate_of_busy _ b (by simp [State.bank])

/-! ### READ_TAKE (R69) -/

/-- A read just taken that is answered without data: the command ends with nothing due. -/
theorem settle_answered (r : ReadRequest) (result : Result) (h : s.offersMemory (.read r) = true) :
    ((s.tookMemory r.tag).answerRead r.tag result).settle
      = State.judgeAlert { s with link := s.link.tookMemory [.readData r.tag result []] } := by
  obtain ⟨hr, -, -, -, fresh⟩ := offersMemory_cases s _ h
  rw [State.answerRead, respond_tookMemory s r.tag _ fresh]
  exact settle_of_quiet _ (ready_quiet s hr)

/-- Whether a read passes every check (R69). -/
def State.readable (s : State) (r : ReadRequest) : Prop :=
  1 ≤ r.length ∧ r.length ≤ 64 ∧ r.extra = 0 ∧ r.address % 64 + r.length ≤ 64
    ∧ r.address < 256 * s.capacityPages
    ∧ (s.control.state = .running ∨ s.control.state = .degraded ∨ s.control.state = .draining)

theorem judgeRead_of_readable (r : ReadRequest) (h : s.readable r) : s.judgeRead r = s.bindRead r := by
  obtain ⟨hmin, hmax, hextra, haligned, hrange, hstate⟩ := h
  have awake : s.control.state ≠ .starting ∧ ¬ (s.control.state = .dormant ∨ s.control.state = .faulted) := by
    rcases hstate with hc | hc | hc <;> simp [hc]
  have inside : ¬ s.capacityBytes ≤ r.address := by rw [State.capacityBytes]; omega
  rw [State.judgeRead, if_neg (by omega), if_neg (by omega), if_neg awake.1, if_neg awake.2, if_neg inside]

/-- The host capacity of an array whose figures are known (R1). -/
theorem capacityPages_of_geometry (g : Geometry) (h : s.geometry = some g) :
    s.capacityPages = g.capacityPages := by
  simp only [State.capacityPages, h]

/-- A read that may be taken and passes every check is bound, and leaves nothing due. -/
theorem readTake_binds (r : ReadRequest) (t : State) (ho : s.offersMemory (.read r) = true) (h : s.readable r)
    (ht : (s.tookMemory r.tag).bindRead r = t) (hq : t.quiet = true) : exec .readTake s = .next t.judgeAlert := by
  rw [exec, readTake_offered s r ho, judgeRead_of_readable (s.tookMemory r.tag) r h, ht, settle_of_quiet t hq]

end

end Sys2Proof.Machine

namespace Sys2Proof

open Machine

/-- Settles O14: READ_TAKE judges the read just taken, and each refusal ends as `settle_answered` says. -/
theorem readsAreJudgedInOrder : Obligations.ReadsAreJudgedInOrder := by
  intro s r ho refused
  have ends (result : Result) : ((s.tookMemory r.tag).answerRead r.tag result).settle = refused result :=
    settle_answered s r result ho
  rw [exec, readTake_offered s r ho]
  unfold State.judgeRead
  simp only [apply_ite State.settle, ends]
  rfl

/-- Settles O15: the bytes of the slots, and the answer LOST. -/
theorem readsTakeTheNewestSlotBytes : Obligations.ReadsTakeTheNewestSlotBytes := by
  intro s r ho hmin hmax hextra haligned hrange hstate
  obtain ⟨hr, -, -, -, fresh⟩ := offersMemory_cases s _ ho
  have passes : s.readable r := ⟨hmin, hmax, hextra, haligned, hrange, hstate⟩
  refine ⟨fun bytes hlen hbytes => ?_, fun k hk hnone hlost => ?_⟩
  · have binds : (s.tookMemory r.tag).bindRead r = _ := bindRead_of_slots (s.tookMemory r.tag) r bytes hlen hbytes
    rw [respond_tookMemory s r.tag _ fresh] at binds
    exact readTake_binds s r _ ho passes binds (ready_quiet s hr)
  · have binds : (s.tookMemory r.tag).bindRead r = _ := bindRead_of_lost (s.tookMemory r.tag) r k hk hnone hlost
    rw [State.answerRead, respond_tookMemory s r.tag _ fresh] at binds
    exact readTake_binds s r _ ho passes binds (ready_quiet s hr)

/-- Settles O16: the read has its record and its pin, and its job joins the bank in one of three ways. -/
theorem arrayReadIsRecordedPinnedAndQueued : Obligations.ArrayReadIsRecordedPinnedAndQueued := by
  intro s r g b ho hmin hmax hextra haligned hg hrange hstate ⟨k, hk, hnone⟩ hlost hbank index job bound
  have hq := ready_quiet s (offersMemory_cases s _ ho).1
  have passes : s.readable r := ⟨hmin, hmax, hextra, haligned, by rwa [capacityPages_of_geometry s g hg], hstate⟩
  have binds : (s.tookMemory r.tag).bindRead r = bound.joinRead b job :=
    bindRead_of_array (s.tookMemory r.tag) r k b index hk hnone hlost (bankOfPage_of_geometry s g b _ hg hbank.symm)
      (targetIndex_currentTarget s g _ hg)
  have ends (t : State) (ht : bound.joinRead b job = t) (hq : t.quiet = true) :
      exec .readTake s = .next t.judgeAlert := readTake_binds s r t ho passes (binds.trans ht) hq
  have quiet (x : Bank) (sent : List ArrayCommand) (hx : x.program = (s.bank b).program) :
      ({ bound.setBank b x with arrayOut := sent } : State).quiet = true :=
    quiet_of_busier s _ hq rfl rfl rfl id (carries_setBank s b x (by rw [carriesData_congr x _ hx]; exact id))
  refine ⟨fun hbusy => ends _ ?_ (quiet _ _ rfl), fun hidle hpres hwaits hmeta => ?_,
    fun i hmon hprog hbudget hdrain => ?_⟩
  · rcases or_assoc.mpr hbusy with hmon | ⟨hmon, i, hprog, hbudget⟩
    · obtain ⟨working, busy, reads⟩ : (s.bank b).monitor ≠ .faulted ∧ (s.bank b).monitor ≠ .idle
          ∧ (s.bank b).monitor ≠ .programming := by rcases hmon with hmon | hmon <;> simp [hmon]
      exact joinRead_of_waiting bound b job working busy (.inl reads)
    · exact joinRead_of_spent bound b i job hmon hprog hbudget
  · exact ends _ (joinRead_of_idle bound b job hidle hpres hwaits hmeta) (quiet _ _ rfl)
  · have serving : s.control.state = .running ∨ s.control.state = .degraded :=
      hstate.imp_right fun h => h.resolve_right hdrain
    exact ends _ (joinRead_of_suspending bound b i job hmon hprog hbudget serving) (quiet _ _ rfl)

/-- Settles O17: the host takes its bytes, and the bank, with nothing else waiting, is IDLE. -/
theorem hostReadCompletesWithTheArrayBytes : Obligations.HostReadCompletesWithTheArrayBytes := by
  intro s b q index retried page r hr hgeo hmon hawait hread hrec hbank hlen hwaits hmeta
  let x : Bank := { s.bank b with read := none, readTimer := .stopped, awaited := [] }
  let answered := s.readAnswered r page
  have bank : (answered.setBank b x).bank b = x := bank_setBank ..
  have completes : (s.setBank b x).readComplete r.tag page = answered.setBank b x :=
    readComplete_of_busy (s.setBank b x) r b page hrec hbank (by simp [x, hmon])
  have rests : (answered.setBank b x).afterRead b = answered.setBank b { x with monitor := .idle } := by
    rw [afterRead_of_nothing _ b x bank hmon hwaits hmeta, setBank_setBank]
  have takes : (s.setBank b { s.bank b with awaited := [] }).takeRead? b (.ok (.bytes page))
      = answered.setBank b { x with monitor := .idle } :=
    (takeRead?_completes s b { s.bank b with awaited := [] } _ page hread hlen).trans
      ((congrArg (State.afterRead · b) completes).trans rests)
  exact readDone_taken s b q _ _ hr (namesBank_of_known s b hgeo) hawait takes
    (quiet_of_busier s _ (ready_quiet s hr) rfl rfl rfl id (carries_setBank s b _ id))

end Sys2Proof
end

/-! ## REMAP_QUERY -/

section
/-!
SUPPORT. Directives that are answered as they are taken, what REMAP_QUERY reports, and O49.
-/

namespace Sys2Proof.Machine

/-! ### Numbers in a payload (R142) -/

theorem leNat_leBytes (width n : Nat) : leNat (leBytes width n) = n % 256 ^ width := by
  induction width generalizing n with
  | zero => simp [leBytes, leNat, Nat.mod_one]
  | succ width ih =>
    rw [leBytes, leNat, ih, BitVec.toNat_ofNat, Nat.pow_succ' (m := 256)]
    exact Nat.mod_mul.symm

theorem length_leBytes (width n : Nat) : (leBytes width n).length = width := by
  induction width generalizing n with
  | zero => rfl
  | succ width ih => rw [leBytes, List.length_cons, ih]

/-- A payload of one number is read as that number. -/
theorem field_leBytes (d : DirRequest) (width n : Nat) (hp : d.payload = leBytes width n) (hn : n < 256 ^ width) :
    d.field 0 width = n := by
  rw [DirRequest.field, hp, List.drop_zero, List.take_of_length_le (length_leBytes width n).le, leNat_leBytes,
    Nat.mod_eq_of_lt hn]

section
variable (s : State)

/-! ### Directives answered as they are taken (R133, R149, R150) -/

/-- A directive just taken that is answered at once: the command ends with nothing due. -/
theorem settle_answeredDirective (d : DirRequest) (r : Result) (x : List Byte) (h : s.offersDirective d = true) :
    ((s.tookDirective d.tag).answerDirective d.tag r x).settle
      = State.judgeAlert { s with link := s.link.tookDirective [.directiveDone d.tag r x] } := by
  obtain ⟨ready, current, -, -, fresh⟩ := offersDirective_cases s d h
  rw [answer_tookDirective s d.tag r x fresh current]
  exact settle_of_quiet _ (ready_quiet s ready)

/-- A directive that leaves range staging alone is refused, or carried out where it is admitted (R120, R150). -/
theorem judgeDirective_of_exempt (which : Directive) (d : DirRequest) (body : DirRequest → State → State)
    (he : which.exempt = true) (hl : d.lengthOk which = true) : s.judgeDirective which d body
      = if s.admits which then body d s
        else s.answerDirective d.tag (if s.control.state = .starting then .starting else .halted) [] := by
  cases ha : s.admits which <;> simp [State.judgeDirective, he, hl, ha]

/-! ### The report (R96, R143) -/

/-- REMAP_QUERY is admitted in RUNNING and DEGRADED alone (R150). -/
theorem admits_remapQuery_iff :
    s.admits .remapQuery = true ↔ s.control.state = .running ∨ s.control.state = .degraded := by
  cases h : s.control.state <;> simp [State.admits, Directive.inDegraded, h]

/-- The report, a byte for each figure (R143). -/
theorem remapReport_eq (page : Nat) (b : BankId) (hb : b.val = page % s.bankCount) : s.remapReport page
    = [(match mapSpare? s.remap.table page with | some k => BitVec.ofNat 8 k | none => 0xFF#8),
        if page ∈ s.remap.lost then 0x01#8 else 0x00#8,
        BitVec.ofNat 8 (s.remap.free[b.val].filter (fun e => e.claim.isNone)).length,
        BitVec.ofNat 8 (s.slotList page).length]
      ++ (s.slotList page).flatMap (fun i => [BitVec.ofNat 8 i.val, BitVec.ofNat 8 (s.slot i).state.code]) := by
  have bank : s.bankOfPage page = b := by rw [State.bankOfPage, ← hb, Fin.ofNat_val_eq_self]
  have free : s.freeSpareCount b = (s.remap.free[b.val].filter (fun e => e.claim.isNone)).length :=
    List.countP_eq_length_filter
  have lost : leBytes 1 (if s.isLost page then 1 else 0) = [if page ∈ s.remap.lost then 0x01#8 else 0x00#8] := by
    by_cases h : page ∈ s.remap.lost <;> simp [State.isLost, h, leBytes]
  rw [State.remapReport, bank, free, lost]
  cases mapSpare? s.remap.table page <;> rfl

end

end Sys2Proof.Machine

namespace Sys2Proof

open Machine

/-- Settles O49: the directive is refused by the bridge state, or judged by the capacity and answered at once. -/
theorem remapQueryReportsThePage : Obligations.RemapQueryReportsThePage := by
  refine ⟨rfl, fun s d page b ho hcode hlen hpay hpage hb => ?_⟩
  have code : directiveOf? d.code = some .remapQuery := by rw [hcode]; rfl
  have length : d.lengthOk .remapQuery = true := by rw [DirRequest.lengthOk, hlen, hpay]; rfl
  have field : d.field 0 4 = page := field_leBytes d 4 page hpay hpage
  have judged := judgeDirective_of_exempt (s.tookDirective d.tag) .remapQuery d remapQueryBody rfl length
  have ends (r : Result) (x : List Byte) (h : (s.tookDirective d.tag).judgeDirective .remapQuery d remapQueryBody
      = (s.tookDirective d.tag).answerDirective d.tag r x) : exec .remapQuery s
        = .next (State.judgeAlert { s with link := s.link.tookDirective [.directiveDone d.tag r x] }) := by
    rw [exec, execRemapQuery, directive_offered s .remapQuery remapQueryBody d ho code, h,
      settle_answeredDirective s d r x ho]
  by_cases serving : s.control.state = .running ∨ s.control.state = .degraded
  · have started : s.control.state ≠ .starting := by rcases serving with h | h <;> simp [h]
    have carriedOut := judged.trans (if_pos ((admits_remapQuery_iff (s.tookDirective d.tag)).mpr serving))
    rw [remapQueryBody, field] at carriedOut
    rw [if_neg started, if_neg (not_not_intro serving)]
    by_cases inside : page < s.capacityPages
    · have report : (s.tookDirective d.tag).remapReport page = _ := remapReport_eq s page b hb
      rw [if_pos inside]
      exact ends .done _ (carriedOut.trans ((if_pos inside).trans (congrArg (State.answerDirective _ _ _) report)))
    · rw [if_neg inside]
      exact ends .badArgument [] (carriedOut.trans (if_neg inside))
  · have refused := judged.trans (if_neg fun admitted => serving ((admits_remapQuery_iff _).mp admitted))
    rw [if_pos serving]
    by_cases starting : s.control.state = .starting
    · rw [if_pos starting]
      exact ends .starting [] (refused.trans (congrArg (State.answerDirective _ _ · []) (if_pos starting)))
    · rw [if_neg starting]
      exact ends .halted [] (refused.trans (congrArg (State.answerDirective _ _ · []) (if_neg starting)))

end Sys2Proof
end

/-! ## RELEASE -/

section
/-!
SUPPORT. What RELEASE does with a STRANDED slot, and the PROGRAM_DONE of the append that carries its LOST record,
with O48.
-/

namespace Sys2Proof.Machine

section
variable (s : State)

/-! ### The slot and its older slots become FREE (R93) -/

/-- The newest slot of a page becomes FREE with all the others, where nothing waits for a bank. -/
theorem freeSlot_newest (i : SlotId) (page : Nat) (older : List SlotId) (hp : (s.slot i).page = page)
    (hl : s.slotList page = older ++ [i]) (hi : i ∉ older) (lawful : directoryLawful s.absorb.directory = true)
    (hc : s.Calm) : s.freeSlot i = s.freedState page (older ++ [i]) := by
  let t := s.freedState page (older ++ [i])
  have freed : s.freedWith i = older ++ [i] := by
    rw [State.freedWith, olderSlots_of_list s i older [] (by rw [hp, hl]) hi]
  have none : t.reexamine page = t := by
    have list : t.slotList page = [] := by
      rw [slotList_freedState s page _ lawful, hl]
      exact List.filter_eq_nil_iff.mpr fun j hj => by rw [List.contains_iff_mem.mpr hj]; simp
    rw [State.reexamine, list, List.foldl_nil]
  have calm : t.Calm := hc.of_sched rfl
  have frees : s.freeSlot i = (t.reexamine page).arbitrate (s.bankOfPage page) := by
    simp only [State.freeSlot, freed, foldl_setSlot, hp]
    rfl
  rw [frees, none, calm.arbitrate]

/-! ### The directive (R94) -/

theorem releaseBody_of_beyond (d : DirRequest) (h : 31 < d.field 0 1) :
    releaseBody d s = s.answerDirective d.tag .badArgument [] := dif_neg (by omega)

theorem releaseBody_of_slot (d : DirRequest) (i : SlotId) (h : i.val = d.field 0 1) : releaseBody d s
    = if (s.slot i).state = .stranded then s.releaseStranded d.tag i else s.answerDirective d.tag .noMatch [] := by
  have slot : (⟨d.field 0 1, h ▸ i.isLt⟩ : SlotId) = i := Fin.ext h.symm
  rw [releaseBody, dif_pos (h ▸ i.isLt), slot]

theorem releaseStranded_of_lost (tag : Nat) (i : SlotId) (h : (s.slot i).page ∈ s.remap.lost) :
    s.releaseStranded tag i = (s.freeSlot i).answerDirective tag .done (leBytes 4 (s.slot i).page) :=
  if_pos (List.contains_iff_mem.mpr h)

/-- The lost set holds 32 pages. -/
theorem releaseStranded_of_full (tag : Nat) (i : SlotId) (h : (s.slot i).page ∉ s.remap.lost)
    (hf : 32 ≤ s.remap.lost.length) : s.releaseStranded tag i = s.answerDirective tag .full [] :=
  (if_neg fun lost => h (List.contains_iff_mem.mp lost)).trans (if_pos hf)

/-- The LOST request joins the list of an append in progress, and the directive holds the engine (R94, R151). -/
theorem releaseStranded_requests (tag : Nat) (i : SlotId) (h : (s.slot i).page ∉ s.remap.lost)
    (hf : s.remap.lost.length < 32) (hu : s.remap.unrecorded = []) (hh : s.remap.held = [])
    (hw : s.writer.state = .appending) (hl : s.writer.list.length < 8) : s.releaseStranded tag i
      = { s with
          engine := { s.engine with current := .release tag i (s.slot i).age (s.slot i).page },
          writer := { s.writer with list := s.writer.list ++ [Request.of (.lost (s.slot i).page)] } } := by
  let holding : State := { s with
    engine := { s.engine with current := .release tag i (s.slot i).age (s.slot i).page } }
  have hands := (handOwn_of_room holding (.lost (s.slot i).page) hh hu hl).trans
    (joinRequest_of_working holding _ (by show s.writer.state ≠ _; simp [hw]))
  have requests : s.releaseStranded tag i = (holding.handOwn (.lost (s.slot i).page)).kick :=
    (if_neg fun lost => h (List.contains_iff_mem.mp lost)).trans (if_neg (Nat.not_le.mpr hf))
  rw [requests, hands]
  exact kick_of_appending _ hw

/-! ### The LOST record persists (R95) -/

theorem lostPersisted_of_stranded (tag : Nat) (i : SlotId) (age page : Nat)
    (hc : s.engine.current = .release tag i age page) (h : (s.slot i).state = .stranded ∧ (s.slot i).age = age) :
    s.lostPersisted = (State.freeSlot { s with remap := { s.remap with lost := insertNat page s.remap.lost } } i
      ).answerDirective tag .done (leBytes 4 page) := by
  rw [State.lostPersisted, hc]
  simp only [if_pos h]

theorem lostPersisted_of_left (tag : Nat) (i : SlotId) (age page : Nat)
    (hc : s.engine.current = .release tag i age page)
    (h : ¬ ((s.slot i).state = .stranded ∧ (s.slot i).age = age)) :
    s.lostPersisted = (s.handOwn (.unlost none page)).answerDirective tag .done (leBytes 4 page) := by
  rw [State.lostPersisted, hc]
  simp only [if_neg h]

/-- The slot is still STRANDED: it and its older slots become FREE and the page is lost. -/
theorem programDone_lost (b : BankId) (q tag age page : Nat) (p : WriterProgram) (i : SlotId) (older : List SlotId)
    (h : s.endsAppend b q p = true) (hp : p.carried = [.last (.lost page) 0])
    (hc : s.engine.current = .release tag i age page) (hs : (s.slot i).state = .stranded ∧ (s.slot i).age = age)
    (hpage : (s.slot i).page = page) (hl : s.slotList page = older ++ [i]) (hi : i ∉ older)
    (lawful : directoryLawful s.absorb.directory = true) : exec (.programDone b.val q .ok) s
      = .next (State.judgeAlert { s.appended b p with
          absorb := s.absorb.freed page (older ++ [i]),
          remap := { s.remap with lost := insertNat page s.remap.lost },
          engine := { s.engine with current := .absent },
          link := { s.link with
            tags := s.link.tags.filter (fun x => x != tag),
            responses := s.link.responses ++ [.directiveDone tag .done (leBytes 4 page)] } }) := by
  obtain ⟨last, calm, list, -, drain, startup⟩ := lastAppend_of_endsAppend s b q p h
  let u := (s.answering b p).carrying []
  let lost : State := { u with remap := { u.remap with lost := insertNat page u.remap.lost } }
  have frees : lost.freeSlot i = lost.freedState page (older ++ [i]) :=
    freeSlot_newest lost i page older hpage hl hi lawful (calm.of_sched rfl)
  have persists := (lostPersisted_of_stranded u tag i age page hc hs).trans
    (congrArg (State.answerDirective · tag .done (leBytes 4 page)) frees)
  have answered := answerCarried_of_one (s.answering b p) (.lost page) 0 _ persists drain
  exact programDone_appends_calmly s b q p _ _ last list ((congrArg (answerCarried · _) hp).trans answered) rfl rfl
    drain startup

/-! ### The append that follows at once (R103) -/

/-- An append takes one record that stands alone in the list, if the room check lets it pass (R103, R106). -/
theorem planAppend_of_record (draining : Bool) (used free : Nat) (r : Request) (hl : r.remaining.length = 1)
    (hr : roomRefused draining used r = false) (hf : 0 < free) : planAppend draining used free [r]
      = { records := r.remaining, carried := [{ request := r, complete := true }], rest := [], refused := [],
          kept := [r] } := by
  simp [planAppend, Nat.ne_of_gt hf, hr, hl, Nat.one_le_iff_ne_zero]

/-- An IDLE writer with one record in its list appends it at once. -/
theorem kick_of_record (r : Request) (hw : s.writer.state = .idle) (hl : s.writer.list = [r])
    (hr : r.remaining.length = 1) (room : s.writer.used + 1 < 1024) (hs : r.isShutdown = false)
    (hm : s.sched.pendingMeta = none) (hd : s.control.drain = none) : s.kick
      = ({ s with writer := { s.writer with
          state := .appending, list := [], program := some (s.writer.programFor r) } } : State).handProgram := by
  have passes : roomRefused (s.control.state == .draining) s.writer.used r = false := by
    simp only [roomRefused, hs, hr, Bool.false_eq_true, if_false, Bool.and_eq_false_iff, decide_eq_false_iff_not]
    exact .inr (by omega)
  have plan : s.appendPlan = _ := (congrArg (planAppend _ _ _) hl).trans
    (planAppend_of_record _ s.writer.used (16 - s.writer.used % 16) r hr passes (by omega))
  rw [State.kick, if_pos ⟨hw, by simp [hl], hm, .inl (by omega), drainOver_of_none s hd⟩,
    startAppend_of_room s (by rw [plan])]
  simp only [State.takeAppend, plan, List.isEmpty_cons, Bool.false_eq_true, if_false, answerRequests, padBlank,
    List.append_assoc]
  rfl

/-- Outside a drain a bank for which nothing waits sends the metadata program that is pending for it, or nothing. -/
theorem arbitrate_noneWaits (b : BankId) (hw : (s.bank b).noneWaits = true) (hd : s.control.drain = none) :
    ∃ x sent, s.arbitrate b = { s.setBank b x with arrayOut := sent } := by
  obtain ⟨programs, reads, batch⟩ := (noneWaits_iff _).mp hw
  have stays : s = { s.setBank b (s.bank b) with arrayOut := s.arrayOut } := by simp [State.setBank, State.bank]
  by_cases able : (s.bank b).monitor = .idle ∧ (s.bank b).presence ≠ .absent
  · cases hm : s.metaFor? b with
    | none => exact ⟨_, _, (arbitrate_of_nothing s b batch hm programs reads).trans stays⟩
    | some p =>
      have sends : s.arbitrate b = s.dispatchMeta b p := by
        rw [State.arbitrate, hm]
        simp [able, batch]
      exact ⟨_, _, sends.trans (countProgram_of_none _ hd)⟩
  · have idles : s.arbitrate b = s := if_pos (by tauto)
    exact ⟨_, _, idles.trans stays⟩

/-- The writer's program goes to a bank for which nothing waits. A bank that is not IDLE stays as it is. -/
theorem handProgram_noneWaits (b : BankId) (p : WriterProgram) (hp : s.writer.program = some p)
    (ha : (s.bank (s.metaBank p.page)).presence ≠ .absent) (hw : ∀ k, (s.bank k).noneWaits = true)
    (hb : (s.bank b).monitor ≠ .idle) (hd : s.control.drain = none) :
    ∃ x sent, s.handProgram = { s with sched := x, arrayOut := sent } ∧ x.banks[b.val] = s.bank b := by
  let t := s.setPendingMeta (some { page := p.page, image := p.image })
  have hands : s.handProgram = t.arbitrate (s.metaBank p.page) := by
    rw [State.handProgram, hp]
    exact if_neg ha
  by_cases same : s.metaBank p.page = b
  · rw [hands, same, arbitrate_of_busy t b hb]
    exact ⟨_, _, rfl, rfl⟩
  · obtain ⟨x, sent, chooses⟩ := arbitrate_noneWaits t (s.metaBank p.page) (hw _) hd
    exact ⟨_, _, hands.trans chooses, bank_setBank_ne t _ b x same⟩

/-- A bank that ends its program enters IDLE, and sends at most the metadata program that is pending for it. -/
theorem endProgram_noneWaits (b : BankId) (hw : (s.bank b).noneWaits = true) (hp : (s.bank b).program = .absent)
    (ha : (s.bank b).awaited = []) (hd : s.control.drain = none) :
    ∃ x sent, s.endProgram b = { s with sched := x, arrayOut := sent } := by
  obtain ⟨programs, reads, -⟩ := (noneWaits_iff _).mp hw
  let idle : Bank := { s.bank b with
    monitor := .idle, program := .absent, programTimer := .stopped, awaited := [],
    batch := (s.bank b).readQueue.length }
  have waits : ((s.setBank b idle).bank b).noneWaits = true := by
    rw [bank_setBank]
    exact (noneWaits_iff idle).mpr ⟨programs, reads, by simp [idle, reads]⟩
  have leaves : s.endProgram b = (s.setBank b idle).arbitrate b := by
    rw [State.endProgram, if_pos (by simp [ha]), leaveProgram_of_absent s b hp]
    rfl
  obtain ⟨x, sent, chooses⟩ := arbitrate_noneWaits (s.setBank b idle) b waits hd
  exact ⟨_, _, leaves.trans chooses⟩

/-- PROGRAM_DONE with OK for the log page program: the writer takes its outcome, and the bank ends its program. -/
theorem takeProgramDone_of_lastAppend (b : BankId) (q : Nat) (p : WriterProgram) (h : s.LastAppend b q p) :
    s.takeProgramDone b.val q .ok = ((s.setBank b { s.bank b with
      program := .absent, programTimer := .stopped, awaited := [] }).metadataOutcome true).endProgram b := by
  have taken : ((s.untilTaken b (.programDone q)).stopProgramTimer b).setProgram b .absent
      = s.setBank b { s.bank b with program := .absent, programTimer := .stopped, awaited := [] } := by
    simp only [untilTaken_of_alone s b _ h.awaited, State.stopProgramTimer, State.setProgram, bank_setBank,
      h.programming, if_true, setBank_setBank]
  simp only [State.takeProgramDone, takingBank?_of_awaited s b _ h.named (by simp [h.awaited] :
    Awaited.programDone q ∈ (s.bank b).awaited), h.metadata, taken]
  rfl

/-- The writer once the log has advanced and a request made by an answer is appended (R103, R104). -/
def State.appendsNext (s : State) (b : BankId) (p : WriterProgram) (r : Request) : Writer :=
  { (s.appended b p).writer with
    state := .appending, list := [], program := some ((s.appended b p).writer.programFor r) }

/-- Where an answer has left one request in the list, the next append takes it as this one ends. -/
theorem writerOutcome_appends_next (b : BankId) (p : WriterProgram) (v : State) (y : Option WriterProgram)
    (r : Request) (hw : s.writer.state = .appending) (hp : s.writer.program = some p)
    (room : s.writer.used + p.records + 32 ≤ 1024)
    (hv : answerCarried p.carried { s.setPendingMeta none with
      writer := { s.writer with used := s.writer.used + p.records, buffer := p.image } } = v)
    (writer : v.writer
      = { s.writer with used := s.writer.used + p.records, buffer := p.image, program := y, list := [r] })
    (hr : r.remaining.length = 1) (hs : r.isShutdown = false) (hm : v.sched.pendingMeta = none)
    (hd : v.control.drain = none) :
    s.writerOutcome true = ({ v with writer := s.appendsNext b p r } : State).handProgram := by
  let w : State := { v with writer := { (s.appended b p).writer with list := [r] } }
  have ended : { v with writer := { v.writer with
      state := .idle, program := none, buffer := bufferAfter (s.writer.used + p.records) p.image } } = w := by
    rw [bufferAfter_eq _ _ room, writer]
    rfl
  have kicked : w.kick = ({ v with writer := s.appendsNext b p r } : State).handProgram :=
    kick_of_record w r rfl rfl hr (by show s.writer.used + p.records + 1 < 1024; omega) hs hm hd
  have appends : (s.setPendingMeta none).appendOk p = w.kick := by
    simp only [State.appendOk, State.setPendingMeta_writer, hv, ended]
    exact if_neg fun h => absurd h.2 (by show ¬ 1024 < s.writer.used + p.records + 32; omega)
  simp only [State.writerOutcome, hp, if_true, State.metaOk, State.setPendingMeta_writer, hw, appends, kicked]

/-- PROGRAM_DONE with OK, where an answer has left one request in the list. -/
theorem takeProgramDone_appends_next (b : BankId) (q : Nat) (p : WriterProgram) (v : State)
    (y : Option WriterProgram) (r : Request) (h : s.LastAppend b q p) (hw : (s.answering b p).Calm)
    (ha : ∀ k, (s.bank k).presence ≠ .absent) (hv : answerCarried p.carried (s.answering b p) = v)
    (sched : v.sched = (s.answering b p).sched)
    (writer : v.writer = { (s.answering b p).writer with program := y, list := [r] })
    (hr : r.remaining.length = 1) (hs : r.isShutdown = false) (hd : v.control.drain = none) :
    ∃ x sent, s.takeProgramDone b.val q .ok
      = { v with sched := x, arrayOut := sent, writer := s.appendsNext b p r } := by
  let x : Bank := { s.bank b with program := .absent, programTimer := .stopped, awaited := [] }
  let u : State := { v with writer := s.appendsNext b p r }
  have banks (k : BankId) : u.bank k = (s.answering b p).bank k := by simp only [State.bank, u, sched]
  have present (k : BankId) : (u.bank k).presence ≠ .absent := by
    rw [banks]
    by_cases e : b = k
    · subst e; rw [bank_answering]; exact ha b
    · rw [show (s.answering b p).bank k = s.bank k from bank_setBank_ne s b k x e]; exact ha k
  have own : u.bank b = x := (banks b).trans (bank_answering s b p)
  have outcome : (s.setBank b x).writerOutcome true = u.handProgram :=
    writerOutcome_appends_next (s.setBank b x) b p v y r h.appending h.inHand h.room hv writer hr hs
      (by rw [sched]; rfl) hd
  obtain ⟨y₁, sent₁, hands, kept⟩ := handProgram_noneWaits u b _ rfl (present _)
    (fun k => by rw [banks]; exact hw.banks k) (by rw [own]; simp [x, h.programming]) hd
  let t : State := { u with sched := y₁, arrayOut := sent₁ }
  have bank : t.bank b = x := kept.trans own
  have working : t.degradeIfStopped = t := if_neg fun stopped => by simp [t, u, State.appendsNext] at stopped
  obtain ⟨y₂, sent₂, leaves⟩ := endProgram_noneWaits t b (by rw [bank]; exact h.queues) (by rw [bank])
    (by rw [bank]) hd
  refine ⟨y₂, sent₂, ?_⟩
  rw [takeProgramDone_of_lastAppend s b q p h, State.metadataOutcome, outcome, hands, working, leaves]

/-- The slot has left STRANDED: the lost set stays, and the UNLOST that undoes the record is appended at once. -/
theorem programDone_lost_left (b : BankId) (q tag age page : Nat) (p : WriterProgram) (i : SlotId)
    (h : s.endsAppend b q p = true) (hp : p.carried = [.last (.lost page) 0])
    (hc : s.engine.current = .release tag i age page)
    (hs : ¬ ((s.slot i).state = .stranded ∧ (s.slot i).age = age)) (hu : s.remap.unrecorded = [])
    (ha : ∀ k, (s.bank k).presence ≠ .absent) : ∃ x sent, exec (.programDone b.val q .ok) s
      = .next (State.judgeAlert { s with
          sched := x, arrayOut := sent,
          writer := s.appendsNext b p (Request.of (.unlost none page)),
          engine := { s.engine with current := .absent },
          link := { s.link with
            tags := s.link.tags.filter (fun x => x != tag),
            responses := s.link.responses ++ [.directiveDone tag .done (leBytes 4 page)] } }) := by
  obtain ⟨last, calm, list, held, drain, startup⟩ := lastAppend_of_endsAppend s b q p h
  let u := (s.answering b p).carrying []
  have hands : u.handOwn (.unlost none page)
      = { u with writer := { u.writer with list := [Request.of (.unlost none page)] } } := by
    have empty : u.writer.list = [] := list
    rw [handOwn_of_room u _ held hu (by simp [empty]), joinRequest_of_working u _ (by
      show s.writer.state ≠ _; simp [last.appending]), empty]
    rfl
  have persists := (lostPersisted_of_left u tag i age page hc hs).trans
    (congrArg (State.answerDirective · tag .done (leBytes 4 page)) hands)
  have answered := answerCarried_of_one (s.answering b p) (.lost page) 0 _ persists drain
  obtain ⟨x, sent, takes⟩ := takeProgramDone_appends_next s b q p _ _ (Request.of (.unlost none page)) last calm ha
    ((congrArg (answerCarried · _) hp).trans answered) rfl rfl rfl rfl drain
  refine ⟨x, sent, ?_⟩
  rw [programDone_taken s b q .ok last.ready last.named (by simp [last.awaited]), takes]
  exact congrArg Host.Outcome.next (settle_of_quiet _ (quiet_of_calm _ drain startup))

end

end Sys2Proof.Machine

namespace Sys2Proof

open Machine

/-- Settles O48: the judgements of the directive, and the two answers to its LOST record. -/
theorem releaseJudgesTheSlotInOrder : Obligations.ReleaseJudgesTheSlotInOrder := by
  refine ⟨fun s d arg ho hstate hstaging hcode hlen hpay => ?_,
    fun s b q tag page age p i h hp hc left hu ha => ?_,
    fun s b q tag page age p i older h hp hc stranded aged hpage hl hi lawful =>
      programDone_lost s b q tag age page p i older h hp hc ⟨stranded, aged⟩ hpage hl hi lawful⟩
  · have hq := ready_quiet s (offersDirective_cases s d ho).1
    have admitted : s.admits .release = true := by rw [State.admits, hstate]; rfl
    have length : d.lengthOk .release = true := by rw [DirRequest.lengthOk, hlen, hpay]; rfl
    have code : directiveOf? d.code = some .release := by rw [hcode]; rfl
    have field : d.field 0 1 = arg.toNat := field_byte d 0 arg (by rw [hpay]; rfl)
    have answered (t : State) (r : Result) (x : List Byte) :=
      directive_answered s .release releaseBody d t r x ho code hstaging admitted length
    refine ⟨fun beyond => ?_, fun i hi => ?_⟩
    · exact answered s .badArgument [] (releaseBody_of_beyond _ d (by rwa [field])) rfl rfl hq
    have body := releaseBody_of_slot (s.tookDirective d.tag) d i (hi.trans field.symm)
    refine ⟨fun other => ?_, fun older stranded lost hl hnew lawful waits pending drain => ?_,
      fun stranded kept full => ?_, fun stranded kept room hu hh hw hlist => ?_⟩
    · exact answered s .noMatch [] (body.trans (if_neg other)) rfl rfl hq
    · let t := s.freedState (s.slot i).page (older ++ [i])
      have frees : (s.tookDirective d.tag).freeSlot i = t.tookDirective d.tag :=
        freeSlot_newest (s.tookDirective d.tag) i _ older rfl hl hnew lawful ⟨waits, pending⟩
      have releases := releaseStranded_of_lost (s.tookDirective d.tag) d.tag i lost
      rw [frees] at releases
      exact answered t .done _ (body.trans ((if_pos stranded).trans releases)) rfl rfl
        (quiet_of_undrained s t hq drain rfl rfl)
    · exact answered s .full [] (body.trans ((if_pos stranded).trans
        (releaseStranded_of_full (s.tookDirective d.tag) d.tag i kept full))) rfl rfl hq
    · exact directive_ends s .release releaseBody d _ ho code hstaging admitted length
        (body.trans ((if_pos stranded).trans
          (releaseStranded_requests (s.tookDirective d.tag) d.tag i kept room hu hh hw hlist)))
        ((quiet_congr s _ rfl rfl (fun _ => rfl) rfl rfl).trans hq)
  · obtain ⟨x, sent, ends⟩ := programDone_lost_left s b q tag age page p i h hp hc left hu ha
    exact ⟨_, ends, rfl, rfl, rfl, rfl, rfl, rfl, rfl⟩

end Sys2Proof
end

/-! ## What an append takes, and the snapshot of a compaction -/

section
/-!
SUPPORT. The records that an append takes from the list, the page images of a compaction, and the replay of its
snapshot, with O36, O39 and O40.
-/

namespace Sys2Proof.Machine

/-! ### An append outside a drain (R103) -/

/-- A split request leaves the records behind those taken. -/
theorem remaining_split (r : Request) (n : Nat) :
    ({ r with taken := r.taken + n } : Request).remaining = r.remaining.drop n := by
  simp [Request.remaining, List.drop_drop]

/-- Outside a drain the room check refuses no request. -/
theorem roomRefused_outside (used : Nat) (r : Request) : roomRefused false used r = false := rfl

theorem planAppend_outside (used free : Nat) (list : List Request) :
    (planAppend false used free list).records = (list.flatMap Request.remaining).take free
    ∧ (planAppend false used free list).rest.flatMap Request.remaining
      = (list.flatMap Request.remaining).drop free
    ∧ (planAppend false used free list).refused = [] := by
  induction list generalizing used free with
  | nil => simp [planAppend]
  | cons r rest ih =>
    by_cases full : free = 0
    · simp [planAppend, full]
    · by_cases whole : r.remaining.length ≤ free
      · obtain ⟨records, left, refused⟩ := ih (used + r.remaining.length) (free - r.remaining.length)
        simp [planAppend, full, roomRefused_outside, whole, records, left, refused, List.take_append, List.drop_append,
          List.take_of_length_le whole, List.drop_of_length_le whole]
      · have front : free ≤ r.remaining.length := by omega
        simp [planAppend, full, roomRefused_outside, whole, remaining_split, List.take_append_of_le_length front,
          List.drop_append_of_le_length front]

/-! ### The images of a half (R107) -/

theorem length_padBlank (records : List Record) : (padBlank records).length = 16 := by simp [padBlank]

theorem padBlank_eq (records : List Record) (h : records.length ≤ 16) :
    padBlank records = records ++ List.replicate (16 - records.length) Record.blank := by
  rw [padBlank, List.take_append, List.take_of_length_le h, List.take_replicate, Nat.min_eq_left (by omega)]

/-- The images of a half hold the records from its first position, with BLANK behind them. -/
theorem flatten_pageImages (n : Nat) (records : List Record) (h : records.length ≤ 16 * n) :
    (pageImages n records).flatten = records ++ List.replicate (16 * n - records.length) Record.blank := by
  induction n generalizing records with
  | zero => simp [pageImages, List.length_eq_zero_iff.mp (by omega : records.length = 0)]
  | succ n ih =>
    have more := ih (records.drop 16) (by rw [List.length_drop]; omega)
    rw [pageImages, List.flatten_cons, more]
    by_cases one : records.length ≤ 16
    · rw [List.take_of_length_le one, List.drop_of_length_le one, padBlank_eq records one, List.nil_append,
        List.append_assoc, List.replicate_append_replicate, List.length_nil]
      congr 2
      omega
    · have page : padBlank (records.take 16) = records.take 16 := by
        rw [padBlank_eq _ (by simp), List.length_take, Nat.min_eq_left (by omega)]
        exact List.append_nil _
      rw [page, ← List.append_assoc, List.take_append_drop, List.length_drop]
      congr 2
      omega

theorem length_of_mem_pageImages (n : Nat) (records image : List Record) (h : image ∈ pageImages n records) :
    image.length = 16 := by
  induction n generalizing records with
  | zero => simp [pageImages] at h
  | succ n ih =>
    rcases List.mem_cons.mp h with rfl | later
    · exact length_padBlank _
    · exact ih (records.drop 16) later

/-! ### The snapshot is a valid half (R100, R107) -/

/-- The records up to the first SNAPSHOT_END, where none of them is a BLANK or another. -/
theorem snapshotOf_facts (facts rest : List Record) (count : Nat) (h : facts.all Record.inSnapshot = true) :
    snapshotOf (facts ++ .snapshotEnd count :: rest) = some (facts, count) := by
  induction facts with
  | nil => rfl
  | cons x facts ih =>
    simp only [List.all_cons, Bool.and_eq_true] at h
    have later := ih h.2
    cases x <;> simp_all [snapshotOf, Record.inSnapshot]

theorem snapshotFacts_inSnapshot (s : State) : s.snapshotFacts.all Record.inSnapshot = true := by
  simp [State.snapshotFacts, State.retireRecords, List.all_append, List.all_map, List.all_flatMap, Record.inSnapshot,
    Function.comp_def]

theorem validHalf_snapshot (s : State) (session : BitVec 32) :
    validHalf (s.snapshot session) = some (s.writer.generation + 1) := by
  simp only [State.snapshot, validHalf, snapshotOf_facts _ _ _ (snapshotFacts_inSnapshot s), snapshotFacts_inSnapshot,
    beq_self_eq_true, Bool.and_self, if_true]

end Sys2Proof.Machine

namespace Sys2Proof

open Machine

/-- Settles O36, by induction on the pending-append list. -/
theorem appendTakesRecordsInListOrder : Obligations.AppendTakesRecordsInListOrder := planAppend_outside

/-- Settles O39: the facts of a snapshot stand before its SNAPSHOT_END, and the images cut it into half pages. -/
theorem snapshotIsAValidHalf : Obligations.SnapshotIsAValidHalf := fun s session =>
  ⟨validHalf_snapshot s session, fun fits =>
    ⟨flatten_pageImages 64 (s.snapshot session) fits, length_of_mem_pageImages 64 (s.snapshot session)⟩⟩

end Sys2Proof
end

/-! ## Lists in order -/

section
/-!
SUPPORT. The laws of the region table and of the facts of the log as statements about pairs of entries, and what the
insertions of the model do with an entry that comes last.
-/

namespace Sys2Proof.Machine

/-! ### Ascending numbers (R82, R83) -/

theorem ascending_iff (l : List Nat) : ascending l = true ↔ l.Pairwise (· < ·) := by
  rw [← List.isChain_iff_pairwise]
  induction l with
  | nil => simp [ascending]
  | cons a l ih =>
    cases l with
    | nil => simp [ascending]
    | cons b l => simp [ascending, ih]

theorem insertNat_last (x : Nat) (l : List Nat) (h : ∀ y ∈ l, y < x) : insertNat x l = l ++ [x] := by
  induction l with
  | nil => rfl
  | cons y l ih =>
    have below := h y List.mem_cons_self
    rw [insertNat, if_neg (by omega), if_neg (by omega), ih fun z hz => h z (List.mem_cons_of_mem _ hz)]
    rfl

theorem installMap_last (page spare : Nat) (table : List MapEntry) (h : ∀ e ∈ table, e.page < page) :
    installMap page spare table = table ++ [{ page := page, spare := spare }] := by
  induction table with
  | nil => rfl
  | cons e table ih =>
    have below := h e List.mem_cons_self
    rw [installMap, if_neg (by omega), if_neg (by omega), ih fun x hx => h x (List.mem_cons_of_mem _ hx)]
    rfl

/-! ### The region table (R116) -/

theorem regionsLawful_iff (table : List Region) : regionsLawful table = true
    ↔ (∀ r ∈ table, r.first ≤ r.last) ∧ table.Pairwise (fun a b => a.last < b.first) := by
  induction table with
  | nil => simp [regionsLawful]
  | cons a table ih =>
    cases table with
    | nil => simp [regionsLawful]
    | cons b table =>
      simp only [regionsLawful, Bool.and_eq_true, decide_eq_true_eq, ih]
      constructor
      · rintro ⟨⟨ranged, apart⟩, all, pairs⟩
        refine ⟨List.forall_mem_cons.mpr ⟨ranged, all⟩, List.pairwise_cons.mpr ⟨fun c hc => ?_, pairs⟩⟩
        rcases List.mem_cons.mp hc with rfl | later
        · exact apart
        · have := (List.pairwise_cons.mp pairs).1 c later
          have := all b List.mem_cons_self
          omega
      · rintro ⟨all, pairs⟩
        exact ⟨⟨all a List.mem_cons_self, (List.pairwise_cons.mp pairs).1 b List.mem_cons_self⟩,
          fun r hr => all r (List.mem_cons_of_mem _ hr), (List.pairwise_cons.mp pairs).2⟩

theorem overlaps_iff (first last : Nat) (r : Region) :
    overlaps first last r = true ↔ first ≤ r.last ∧ r.first ≤ last := by simp [overlaps]

theorem insertRegion_last (r : Region) (table : List Region) (h : ∀ x ∈ table, x.first ≤ r.first) :
    insertRegion r table = table ++ [r] := by
  induction table with
  | nil => rfl
  | cons x table ih =>
    rw [insertRegion, if_neg (Nat.not_lt.mpr (h x List.mem_cons_self)), ih fun y hy => h y (List.mem_cons_of_mem _ hy)]
    rfl

theorem exactMatch?_eq_none_iff (first last : Nat) (table : List Region) :
    exactMatch? first last table = none ↔ ∀ r ∈ table, ¬ (r.first = first ∧ r.last = last) := by
  simp [exactMatch?]

end Sys2Proof.Machine
end

/-! ## Replay of a snapshot -/

section
/-!
SUPPORT. Replay takes the facts of a snapshot one kind after another and builds the tables they were made from, with
O40.
-/

namespace Sys2Proof.Machine

/-! ### The facts fit the geometry (R81 to R83, R114, R116) -/

/-- The retired spares with their banks, by bank and then by spare index. -/
def State.retiredSpares (s : State) : List (Nat × Nat) :=
  allBanks.flatMap (fun b => (s.remap.retired[b.val]).map (fun k => (b.val, k)))

/-- What `factsLawful` says, in parts. -/
structure State.FactsLawful (s : State) (g : Geometry) : Prop where
  pages : s.remap.table.Pairwise (fun e f => e.page < f.page)
  targets : ∀ e ∈ s.remap.table, e.page < g.capacityPages ∧ e.spare < g.spares
  apart : ∀ e ∈ s.remap.table, ∀ f ∈ s.remap.table,
    f.page = e.page ∨ f.spare ≠ e.spare ∨ f.page % g.banks ≠ e.page % g.banks
  spares : ∀ b : BankId, (s.remap.retired[b.val]).Pairwise (· < ·)
  retired : ∀ b : BankId, ∀ k ∈ s.remap.retired[b.val], k < g.spares ∧ b.val < g.banks
    ∧ ∀ e ∈ s.remap.table, e.spare ≠ k ∨ e.page % g.banks ≠ b.val
  lost : s.remap.lost.Pairwise (· < ·)
  lostPages : ∀ p ∈ s.remap.lost, p < g.capacityPages
  lostRoom : s.remap.lost.length ≤ 32
  ranges : ∀ r ∈ s.region.table, r.first ≤ r.last
  regions : s.region.table.Pairwise (fun a b => a.last < b.first)
  regionPages : ∀ r ∈ s.region.table, r.last < g.capacityPages
  regionRoom : s.region.table.length ≤ 16

variable {s : State} {g : Geometry}

theorem factsLawful_parts (h : s.factsLawful g = true) : s.FactsLawful g := by
  simp only [State.factsLawful, Bool.and_eq_true, List.all_eq_true, decide_eq_true_eq, Bool.or_eq_true, beq_iff_eq,
    bne_iff_ne, ascending_iff, regionsLawful_iff, List.pairwise_map, or_assoc] at h
  obtain ⟨⟨⟨⟨⟨⟨⟨⟨⟨pages, targets⟩, apart⟩, banks⟩, lost⟩, lostPages⟩, lostRoom⟩, ranges, regions⟩, regionPages⟩,
    regionRoom⟩ := h
  exact ⟨pages, targets, apart, fun b => (banks b (mem_allBanks b)).1,
    fun b k hk => (and_assoc.mp ((banks b (mem_allBanks b)).2 k hk)), lost, lostPages, lostRoom, ranges, regions,
    regionPages, regionRoom⟩

theorem mem_retiredSpares (x : Nat × Nat) :
    x ∈ s.retiredSpares ↔ ∃ b : BankId, x.1 = b.val ∧ x.2 ∈ s.remap.retired[b.val] := by
  obtain ⟨bank, spare⟩ := x
  simp only [State.retiredSpares, List.mem_flatMap, List.mem_map, Prod.mk.injEq, mem_allBanks, true_and]
  exact ⟨fun ⟨b, k, hk, hb, e⟩ => ⟨b, hb.symm, e ▸ hk⟩, fun ⟨b, hb, hk⟩ => ⟨b, spare, hk, hb.symm, rfl⟩⟩

theorem State.FactsLawful.nodup_retiredSpares (h : s.FactsLawful g) : s.retiredSpares.Nodup := by
  have banks : allBanks.Nodup := by decide
  refine List.nodup_flatMap.mpr ⟨fun b _ => ?_, banks.imp fun {a b} ne => ?_⟩
  · exact ((h.spares b).imp Nat.ne_of_lt).map _ fun x y ne same => ne (Prod.mk.inj same).2
  · intro x hx hy
    obtain ⟨_, _, rfl⟩ := List.mem_map.mp hx
    obtain ⟨_, _, same⟩ := List.mem_map.mp hy
    exact ne (Fin.ext (Prod.mk.inj same).1.symm)

/-! ### Replay, one kind of record after another (R113, R114) -/

theorem run_cons (g : Geometry) (x : Record) (rest : List Record) (r built : Replay) (hx : x ≠ .blank)
    (h : r.apply g x = some built) :
    Replay.run g (x :: rest) r = Replay.run g rest { built with used := r.used + 1 } := by
  rw [Replay.run, if_neg hx, h]

/-- Records of one kind are taken one after another, each extending what the ones before it have built. -/
theorem run_segment {α : Type} (g : Geometry) (record : α → Record) (build : List α → Replay) (l : List α)
    (rest : List Record) (r : Replay) (hb : build [] = r) (hr : ∀ x, record x ≠ .blank)
    (h : ∀ taken x later, l = taken ++ x :: later → ∃ built, (build taken).apply g (record x) = some built
      ∧ build (taken ++ [x]) = { built with used := (build taken).used + 1 }) :
    Replay.run g (l.map record ++ rest) r = Replay.run g rest (build l) := by
  have runs (later taken : List α) (hl : l = taken ++ later) :
      Replay.run g (later.map record ++ rest) (build taken) = Replay.run g rest (build l) := by
    induction later generalizing taken with
    | nil => rw [hl, List.append_nil]; rfl
    | cons x later ih =>
      obtain ⟨built, applies, grows⟩ := h taken x later hl
      rw [List.map_cons, List.cons_append, run_cons g _ _ _ built (hr x) applies, ← grows]
      exact ih (taken ++ [x]) (by rw [hl, List.append_assoc]; rfl)
  exact hb ▸ runs l [] rfl

/-- Elements before another in an ordered list are ordered before it. -/
theorem pairwise_before {α : Type} {R : α → α → Prop} {l taken later : List α} {x : α} (h : l.Pairwise R)
    (hl : l = taken ++ x :: later) : ∀ y ∈ taken, R y x := fun y hy =>
  (List.pairwise_append.mp (hl ▸ h)).2.2 y hy x List.mem_cons_self

theorem run_maps (h : s.FactsLawful g) (rest : List Record) (r : Replay) (hr : r.retired = []) (ht : r.table = []) :
    Replay.run g (s.remap.table.map (fun e => Record.map e.page e.spare) ++ rest) r
      = Replay.run g rest { r with table := s.remap.table, used := r.used + s.remap.table.length } := by
  refine run_segment g (fun e : MapEntry => Record.map e.page e.spare)
    (fun l => { r with table := l, used := r.used + l.length }) s.remap.table rest r
    (congrArg (fun l => { r with table := l }) ht.symm) (by simp) fun taken e later hl => ?_
  have inside (f : MapEntry) (hf : f ∈ taken ++ [e]) : f ∈ s.remap.table := by
    rw [hl]
    exact List.append_subset.mpr ⟨List.subset_append_left _ _, by simp⟩ hf
  have mem : e ∈ s.remap.table := inside e (by simp)
  obtain ⟨page, spare⟩ := h.targets e mem
  have free : ¬ ∃ f ∈ taken, (f.spare = e.spare ∧ f.page % g.banks = e.page % g.banks) ∧ f.page ≠ e.page := by
    rintro ⟨f, hf, ⟨sameSpare, sameBank⟩, other⟩
    rcases h.apart e mem f (inside f (List.mem_append_left _ hf)) with same | same | same
    · exact other same
    · exact same sameSpare
    · exact same sameBank
  refine ⟨{ r with table := taken ++ [e], used := r.used + taken.length }, ?_, by simp [Nat.add_assoc]⟩
  rw [Replay.apply, if_neg]
  · simp only [installMap_last e.page e.spare taken (pairwise_before h.pages hl)]
  · simpa [Replay.targetOfOther, hr, page, spare] using free

theorem run_retires (h : s.FactsLawful g) (rest : List Record) (r : Replay) (ht : r.table = s.remap.table)
    (hr : r.retired = []) :
    Replay.run g (s.retiredSpares.map (fun x => Record.retire x.1 x.2) ++ rest) r
      = Replay.run g rest { r with retired := s.retiredSpares, used := r.used + s.retiredSpares.length } := by
  refine run_segment g (fun x : Nat × Nat => Record.retire x.1 x.2)
    (fun l => { r with retired := l, used := r.used + l.length }) s.retiredSpares rest r
    (congrArg (fun l => { r with retired := l }) hr.symm) (by simp) fun taken x later hl => ?_
  obtain ⟨b, bank, spare⟩ := (mem_retiredSpares (s := s) x).mp (by rw [hl]; simp)
  obtain ⟨below, known, free⟩ := h.retired b x.2 spare
  rw [← bank] at known free
  have fresh : x ∉ taken := fun again => pairwise_before h.nodup_retiredSpares hl x again rfl
  refine ⟨{ r with retired := taken ++ [x], used := r.used + taken.length }, ?_, by simp [Nat.add_assoc]⟩
  rw [Replay.apply, if_neg, if_neg]
  · simpa using fresh
  · simp only [Replay.isTarget, ht, not_or, Nat.not_le, known, below, true_and, Bool.not_eq_true, List.any_eq_false,
      Bool.and_eq_true, beq_iff_eq]
    exact fun e he same => (free e he).elim (· same.1) (· same.2)

theorem run_losts (h : s.FactsLawful g) (rest : List Record) (r : Replay) (hr : r.lost = []) :
    Replay.run g (s.remap.lost.map Record.lost ++ rest) r
      = Replay.run g rest { r with lost := s.remap.lost, used := r.used + s.remap.lost.length } := by
  refine run_segment g Record.lost (fun l => { r with lost := l, used := r.used + l.length }) s.remap.lost rest r
    (congrArg (fun l => { r with lost := l }) hr.symm) (by simp) fun taken page later hl => ?_
  have before := pairwise_before h.lost hl
  have inside := h.lostPages page (by rw [hl]; simp)
  have fresh : page ∉ taken := fun again => Nat.lt_irrefl _ (before page again)
  have room : taken.length < 32 := by
    have := h.lostRoom
    simp only [hl, List.length_append, List.length_cons] at this
    omega
  refine ⟨{ r with lost := taken ++ [page], used := r.used + taken.length }, ?_, by simp [Nat.add_assoc]⟩
  simp only [Replay.apply, if_neg (Nat.not_le.mpr inside), List.contains_eq_mem, fresh, decide_false,
    Bool.false_eq_true, if_false, if_neg (Nat.not_le.mpr room), insertNat_last page taken before]

theorem run_regions (h : s.FactsLawful g) (rest : List Record) (r : Replay) (hr : r.regions = []) :
    Replay.run g (s.region.table.map (fun x => Record.regionSet x.first x.last x.attr) ++ rest) r
      = Replay.run g rest { r with regions := s.region.table, used := r.used + s.region.table.length } := by
  refine run_segment g (fun x : Region => Record.regionSet x.first x.last x.attr)
    (fun l => { r with regions := l, used := r.used + l.length }) s.region.table rest r
    (congrArg (fun l => { r with regions := l }) hr.symm) (by simp) fun taken x later hl => ?_
  have before := pairwise_before h.regions hl
  have mem : x ∈ s.region.table := by rw [hl]; simp
  have inside := h.regionPages x mem
  have ranged := h.ranges x mem
  have lower (y : Region) (hy : y ∈ taken) : y.first ≤ y.last :=
    h.ranges y (by rw [hl]; exact List.mem_append_left _ hy)
  have unmatched : exactMatch? x.first x.last taken = none :=
    (exactMatch?_eq_none_iff _ _ _).mpr fun y hy same => by have := before y hy; omega
  have apart : taken.any (overlaps x.first x.last) = false := List.any_eq_false.mpr fun y hy meets => by
    have := before y hy
    have := (overlaps_iff _ _ _).mp meets
    omega
  have room : taken.length < 16 := by
    have := h.regionRoom
    simp only [hl, List.length_append, List.length_cons] at this
    omega
  have last : insertRegion x taken = taken ++ [x] :=
    insertRegion_last x taken fun y hy => by have := before y hy; have := lower y hy; omega
  refine ⟨{ r with regions := taken ++ [x], used := r.used + taken.length }, ?_, by simp [Nat.add_assoc]⟩
  rw [Replay.apply, Replay.setRegion.eq_def, if_neg (by omega), unmatched]
  simp only [apart, Bool.false_or, decide_eq_true_eq, if_neg (Nat.not_le.mpr room), RegionChange.apply, last]

/-! ### The whole snapshot -/

theorem snapshot_drop (session : BitVec 32) : (s.snapshot session).drop 1 ++ [Record.blank]
    = s.remap.table.map (fun e => Record.map e.page e.spare)
      ++ (s.retiredSpares.map (fun x => Record.retire x.1 x.2)
      ++ (s.remap.lost.map Record.lost
      ++ (s.region.table.map (fun x => Record.regionSet x.first x.last x.attr)
      ++ [.snapshotEnd s.snapshotFacts.length, .openSession session, .blank]))) := by
  have retires : s.retireRecords = s.retiredSpares.map (fun x => Record.retire x.1 x.2) := by
    simp [State.retireRecords, State.retiredSpares, List.map_flatMap, Function.comp_def]
  simp [State.snapshot, State.snapshotFacts, retires]

theorem length_snapshot (session : BitVec 32) : (s.snapshot session).length
    = 1 + s.remap.table.length + s.retiredSpares.length + s.remap.lost.length + s.region.table.length + 2 := by
  have parts := congrArg List.length (snapshot_drop (s := s) session)
  have head : 1 ≤ (s.snapshot session).length := by simp [State.snapshot]
  simp only [List.length_append, List.length_drop, List.length_map, List.length_cons, List.length_nil] at parts
  omega

/-- SNAPSHOT_END and OPEN_SESSION are taken, and the BLANK behind them ends replay. -/
theorem run_ending (g : Geometry) (count : Nat) (session : BitVec 32) (r : Replay) (hr : r.inSnapshot = true) :
    Replay.run g [.snapshotEnd count, .openSession session, .blank] r
      = .stopped { r with inSnapshot := false, session := some session, shutdown := none, used := r.used + 2 } := by
  simp [Replay.run, Replay.apply, hr]

theorem run_snapshot (h : s.FactsLawful g) (session : BitVec 32) (half : Nat) :
    Replay.run g ((s.snapshot session).drop 1 ++ [Record.blank]) (Replay.start half (s.writer.generation + 1))
      = .stopped {
          half := half, generation := s.writer.generation + 1, table := s.remap.table, retired := s.retiredSpares,
          lost := s.remap.lost, regions := s.region.table, session := some session, shutdown := none,
          inSnapshot := false, used := (s.snapshot session).length, buffer := [] } := by
  rw [snapshot_drop, run_maps h _ _ rfl rfl, run_retires h _ _ rfl rfl, run_losts h _ _ rfl, run_regions h _ _ rfl,
    run_ending g _ _ _ rfl, length_snapshot]
  rfl

end Sys2Proof.Machine

namespace Sys2Proof

open Machine

/-- Settles O40: each kind of fact rebuilds its table, and the BLANK behind OPEN_SESSION ends replay. -/
theorem replayRebuildsTheSnapshot : Obligations.ReplayRebuildsTheSnapshot := fun _ _ session half lawful =>
  run_snapshot (factsLawful_parts lawful) session half

end Sys2Proof
end

/-! ## Changes of the region table -/

section
/-!
SUPPORT. What RANGE_APPLY judges of a lawful table, and what its change makes of the table (R116, R121, R122).
-/

namespace Sys2Proof.Machine

section
variable {table : List Region}

/-! ### The entry that matches a range (R116) -/

/-- In a lawful table a range names one entry. -/
theorem region_ext_of_lawful (h : regionsLawful table = true) : ∀ a ∈ table, ∀ b ∈ table,
    a.first = b.first → a.last = b.last → a = b := by
  obtain ⟨ranges, pairs⟩ := (regionsLawful_iff table).mp h
  let unique (a b : Region) : Prop := a.first = b.first → a.last = b.last → a = b
  have symm : Std.Symm unique := ⟨fun _ _ eq first last => (eq first.symm last.symm).symm⟩
  have ordered : table.Pairwise unique :=
    pairs.imp_of_mem fun {a b} ha _ apart same => by
      have := ranges a ha
      omega
  exact fun a ha b hb => ordered.forall_of_forall (fun _ _ _ _ => rfl) ha hb

theorem exactMatch?_of_mem (h : regionsLawful table = true) (r : Region) (hr : r ∈ table) :
    exactMatch? r.first r.last table = some r := by
  cases found : exactMatch? r.first r.last table with
  | none => exact absurd ⟨rfl, rfl⟩ ((exactMatch?_eq_none_iff _ _ _).mp found r hr)
  | some x =>
    have same := List.find?_some found
    simp only [Bool.and_eq_true, beq_iff_eq] at same
    rw [region_ext_of_lawful h x (List.mem_of_find?_eq_some found) r hr same.1 same.2]

/-- The region index of a range that an entry has. -/
theorem exactIndex?_of_match (first last k : Nat) (h : ∃ r ∈ table, r.first = first ∧ r.last = last) :
    exactIndex? first last k table = some (k + table.findIdx (fun r => r.first == first && r.last == last)) := by
  induction table generalizing k with
  | nil => simp at h
  | cons x table ih =>
    by_cases same : x.first = first ∧ x.last = last
    · simp [exactIndex?, List.findIdx_cons, same]
    · have later : ∃ r ∈ table, r.first = first ∧ r.last = last := by
        obtain ⟨r, hr, matching⟩ := h
        rcases List.mem_cons.mp hr with rfl | hr
        · exact absurd matching same
        · exact ⟨r, hr, matching⟩
      have unlike : (x.first == first && x.last == last) = false := by
        simpa only [Bool.and_eq_false_imp, beq_iff_eq, beq_eq_false_iff_ne, ne_eq, not_and] using same
      rw [exactIndex?, if_neg same, ih (k + 1) later, List.findIdx_cons, unlike]
      simp only [cond_false]
      congr 1
      omega

/-! ### The table after a change (R116, R122) -/

theorem insertRegion_perm (r : Region) (table : List Region) : (insertRegion r table).Perm (r :: table) := by
  induction table with
  | nil => exact .refl _
  | cons x table ih =>
    rw [insertRegion]
    split
    · exact .refl _
    · exact (ih.cons x).trans (.swap r x table)

theorem regionsLawful_insertRegion (r : Region) (hr : r.first ≤ r.last) (h : regionsLawful table = true)
    (apart : ∀ x ∈ table, r.last < x.first ∨ x.last < r.first) : regionsLawful (insertRegion r table) = true := by
  obtain ⟨ranges, pairs⟩ := (regionsLawful_iff table).mp h
  have members {l : List Region} (x : Region) : x ∈ insertRegion r l ↔ x = r ∨ x ∈ l :=
    (insertRegion_perm r l).mem_iff.trans List.mem_cons
  refine (regionsLawful_iff _).mpr ⟨fun x hx => ((members x).mp hx).elim (fun e => e ▸ hr) (ranges x), ?_⟩
  clear h
  induction table with
  | nil => exact List.pairwise_singleton _ _
  | cons x table ih =>
    obtain ⟨first, later⟩ := List.pairwise_cons.mp pairs
    have ranged := ranges x List.mem_cons_self
    have beside := apart x List.mem_cons_self
    rw [insertRegion]
    split
    · refine List.pairwise_cons.mpr ⟨List.forall_mem_cons.mpr ⟨by omega, fun y hy => ?_⟩, pairs⟩
      have := first y hy
      omega
    · have rest := ih (fun y hy => apart y (List.mem_cons_of_mem _ hy))
        (fun y hy => ranges y (List.mem_cons_of_mem _ hy)) later
      refine List.pairwise_cons.mpr ⟨fun y hy => ?_, rest⟩
      rcases (members y).mp hy with rfl | hy
      · omega
      · exact first y hy

/-- FIXED changes neither the ranges nor their order. -/
theorem regionsLawful_promote (first last : Nat) (h : regionsLawful table = true) :
    regionsLawful ((RegionChange.promote first last).apply table) = true := by
  obtain ⟨ranges, pairs⟩ := (regionsLawful_iff table).mp h
  have kept (r : Region) : (if r.first = first ∧ r.last = last then { r with attr := .fixed } else r).first = r.first
      ∧ (if r.first = first ∧ r.last = last then { r with attr := .fixed } else r).last = r.last := by
    split <;> exact ⟨rfl, rfl⟩
  simp only [RegionChange.apply, regionsLawful_iff, List.forall_mem_map, List.pairwise_map, kept]
  exact ⟨ranges, pairs⟩

theorem regionsLawful_remove (first last : Nat) (h : regionsLawful table = true) :
    regionsLawful ((RegionChange.remove first last).apply table) = true := by
  obtain ⟨ranges, pairs⟩ := (regionsLawful_iff table).mp h
  exact (regionsLawful_iff _).mpr ⟨fun r hr => ranges r (List.mem_of_mem_filter hr), pairs.filter _⟩

/-! ### What RANGE_APPLY judges (R121) -/

theorem any_overlaps_eq_false_iff (first last : Nat) :
    table.any (overlaps first last) = false ↔ ∀ r ∈ table, last < r.first ∨ r.last < first := by
  simp only [List.any_eq_false, overlaps_iff]
  exact forall₂_congr fun r _ => by omega

/-- GUARDED or FIXED changes the table by a new range with room beside the others, or makes an entry FIXED. -/
theorem judgeProtect_change (first last : Nat) (attr : RegionAttr) (change : RegionChange)
    (h : judgeProtect first last attr table = .change change) :
    change = .promote first last ∨ (change = .add first last attr ∧ table.length < 16
      ∧ ∀ r ∈ table, last < r.first ∨ r.last < first) := by
  unfold judgeProtect at h
  split at h
  · cases h
  · exact .inl (ApplyOutcome.change.inj h).symm
  · cases h
  · split at h
    · cases h
    · next apart =>
      split at h
      · cases h
      · next room =>
        exact .inr ⟨(ApplyOutcome.change.inj h).symm, by omega,
          (any_overlaps_eq_false_iff first last).mp (Bool.eq_false_iff.mpr apart)⟩

theorem judgeClear_change (first last : Nat) (change : RegionChange)
    (h : judgeClear first last table = .change change) : change = .remove first last := by
  unfold judgeClear at h
  split at h
  · split at h
    · exact (ApplyOutcome.change.inj h).symm
    · cases h
  · cases h

/-- A change that RANGE_APPLY makes keeps the table in order, with at most 16 entries. -/
theorem regionsLawful_change (attr first last : Nat) (change : RegionChange) (hr : first ≤ last)
    (h : regionsLawful table = true) (room : table.length ≤ 16)
    (hj : judgeApply attr first last table = .change change) :
    regionsLawful (change.apply table) = true ∧ (change.apply table).length ≤ 16 := by
  have protects (a : RegionAttr) (hp : judgeProtect first last a table = .change change) :
      regionsLawful (change.apply table) = true ∧ (change.apply table).length ≤ 16 := by
    rcases judgeProtect_change first last a change hp with rfl | ⟨rfl, free, apart⟩
    · exact ⟨regionsLawful_promote first last h, by simpa [RegionChange.apply] using room⟩
    · refine ⟨regionsLawful_insertRegion _ hr h apart, ?_⟩
      rw [RegionChange.apply, (insertRegion_perm _ _).length_eq]
      exact free
  unfold judgeApply at hj
  split at hj
  · rw [judgeClear_change first last change hj]
    exact ⟨regionsLawful_remove first last h, (List.length_filter_le _ _).trans room⟩
  · split at hj
    · exact protects .guarded hj
    · split at hj
      · exact protects .fixed hj
      · cases hj

/-- FIXED on a GUARDED entry. -/
theorem judgeApply_promote (first last : Nat) (h : regionsLawful table = true)
    (hm : { first := first, last := last, attr := .guarded } ∈ table) :
    judgeApply 2 first last table = .change (.promote first last) := by
  have found := exactMatch?_of_mem h _ hm
  simp only [judgeApply, judgeProtect, found]
  rfl

/-- NONE on a GUARDED entry. -/
theorem judgeApply_remove (first last : Nat) (h : regionsLawful table = true)
    (hm : { first := first, last := last, attr := .guarded } ∈ table) :
    judgeApply 0 first last table = .change (.remove first last) := by
  have found := exactMatch?_of_mem h _ hm
  simp only [judgeApply, judgeClear, found]
  rfl

/-- GUARDED or FIXED on a range beside all entries of a lawful table. -/
theorem judgeProtect_add (first last : Nat) (attr : RegionAttr) (h : regionsLawful table = true)
    (apart : ∀ r ∈ table, last < r.first ∨ r.last < first) (room : table.length < 16) :
    judgeProtect first last attr table = .change (.add first last attr) := by
  have unmatched : exactMatch? first last table = none := (exactMatch?_eq_none_iff _ _ _).mpr fun r hr same => by
    have := ((regionsLawful_iff table).mp h).1 r hr
    have := apart r hr
    omega
  simp [judgeProtect, unmatched, (any_overlaps_eq_false_iff first last).mpr apart, room]

/-! ### The entry that DONE carries (R122, R143) -/

theorem regionEntryBytes_eq (k first last : Nat) (attr : Option RegionAttr) : regionEntryBytes k attr first last
    = leBytes 1 k ++ [BitVec.ofNat 8 (attrCode attr), 0x00#8, 0x00#8] ++ leBytes 4 first ++ leBytes 4 last := rfl

theorem report_add (first last : Nat) (attr : RegionAttr) (table : List Region) :
    (RegionChange.add first last attr).report table = regionEntryBytes
      (((RegionChange.add first last attr).apply table).findIdx (fun r => r.first == first && r.last == last))
      (some attr) first last := by
  have mem : (⟨first, last, attr⟩ : Region) ∈ (RegionChange.add first last attr).apply table :=
    (insertRegion_perm _ _).mem_iff.mpr List.mem_cons_self
  rw [RegionChange.report, exactIndex?_of_match first last 0 ⟨_, mem, rfl, rfl⟩, Option.getD_some, Nat.zero_add]

theorem report_promote (first last : Nat) (hm : ∃ r ∈ table, r.first = first ∧ r.last = last) :
    (RegionChange.promote first last).report table = regionEntryBytes
      (((RegionChange.promote first last).apply table).findIdx (fun r => r.first == first && r.last == last))
      (some .fixed) first last := by
  have ranges : (fun r : Region => r.first == first && r.last == last)
      ∘ (fun r : Region => if r.first = first ∧ r.last = last then { r with attr := .fixed } else r)
      = fun r => r.first == first && r.last == last := by
    funext r
    simp only [Function.comp_apply]
    split <;> rfl
  rw [RegionChange.report, exactIndex?_of_match first last 0 hm, Option.getD_some, Nat.zero_add, RegionChange.apply,
    List.findIdx_map, ranges]

theorem report_remove (first last : Nat) (hm : ∃ r ∈ table, r.first = first ∧ r.last = last) :
    (RegionChange.remove first last).report table = regionEntryBytes
      (table.findIdx (fun r => r.first == first && r.last == last)) none first last := by
  rw [RegionChange.report, exactIndex?_of_match first last 0 hm, Option.getD_some, Nat.zero_add]

end

end Sys2Proof.Machine
end

/-! ## RANGE_APPLY that changes the table -/

section
/-!
SUPPORT. The directive that requests its record, and the PROGRAM_DONE that answers it.
-/

namespace Sys2Proof.Machine

section
variable (s : State)

/-! ### The directive (R121, R151) -/

/-- A change's request joins the list of an append in progress. -/
theorem requestRegion_joins (change : RegionChange) (hw : s.writer.state = .appending)
    (hl : s.writer.list.length < 8) : s.requestRegion change
      = { s with writer := { s.writer with list := s.writer.list ++ [Request.of (.region change)] } } := by
  rw [State.requestRegion, if_neg (by omega), joinRequest_of_working s _ (by simp [hw])]
  exact kick_of_appending _ hw

theorem rangeApplyBody_of_both (d : DirRequest) (first last : Nat) (h : s.region.staging = .bothSet first last) :
    rangeApplyBody d s
      = (s.setStaging .empty).takeApply d.tag (judgeApply (d.field 0 1) first last s.region.table) := by
  rw [rangeApplyBody, h]

theorem rangeApply_requests (d : DirRequest) (attr : Byte) (first last : Nat) (change : RegionChange)
    (ho : s.offersDirective d = true) (hc : s.control.state = .running) (hcode : d.code = 0x12#8)
    (hlen : d.payloadLength = 1) (hpay : d.payload = [attr]) (hs : s.region.staging = .bothSet first last)
    (hw : s.writer.state = .appending) (hl : s.writer.list.length < 8)
    (hj : judgeApply attr.toNat first last s.region.table = .change change) :
    exec .rangeApply s = .next (State.judgeAlert { s with
      link := { s.link.tookDirective [] with tags := insertNat d.tag s.link.tags },
      region := { s.region with staging := .empty },
      engine := { s.engine with current := .rangeApply d.tag },
      writer := { s.writer with
        list := s.writer.list ++ [{ kind := .region change, taken := 0, void := false }] } }) := by
  have code : directiveOf? d.code = some .rangeApply := by rw [hcode]; rfl
  have length : d.lengthOk .rangeApply = true := by rw [DirRequest.lengthOk, hlen, hpay]; rfl
  have admitted : (s.tookDirective d.tag).admits .rangeApply = true := by
    rw [State.admits, show (s.tookDirective d.tag).control.state = .running from hc]; rfl
  have field : d.field 0 1 = attr.toNat := field_byte d 0 attr (by rw [hpay]; rfl)
  have judged : judgeApply (d.field 0 1) first last (s.tookDirective d.tag).region.table = .change change := by
    rw [field]; exact hj
  have requests := requestRegion_joins ({ (s.tookDirective d.tag).setStaging .empty with
    engine := { s.engine with current := .rangeApply d.tag } } : State) change hw hl
  have body := rangeApplyBody_of_both (s.tookDirective d.tag) d first last hs
  rw [judged] at body
  have carriedOut := (judgeDirective_of_exempt (s.tookDirective d.tag) .rangeApply d rangeApplyBody rfl length).trans
    ((if_pos admitted).trans (body.trans requests))
  rw [exec, execRangeApply, directive_offered s .rangeApply rangeApplyBody d ho code, carriedOut]
  refine congrArg Host.Outcome.next (settle_of_quiet _ ?_)
  exact (quiet_congr s _ rfl rfl (fun _ => rfl) rfl rfl).trans (ready_quiet s (offersDirective_cases s d ho).1)

/-! ### The record has persisted (R122) -/

theorem regionPersisted_of_apply (change : RegionChange) (tag : Nat) (h : s.engine.current = .rangeApply tag) :
    s.regionPersisted change = ({ s with region := { s.region with table := change.apply s.region.table } } : State
      ).answerDirective tag .done (change.report s.region.table) := by
  rw [State.regionPersisted, h]

theorem programDone_region (b : BankId) (q tag : Nat) (p : WriterProgram) (change : RegionChange)
    (h : s.endsAppend b q p = true) (hp : p.carried = [.last (.region change) 0])
    (hc : s.engine.current = .rangeApply tag) :
    exec (.programDone b.val q .ok) s = .next (State.judgeAlert { s.appended b p with
      region := { s.region with table := change.apply s.region.table },
      engine := { s.engine with current := .absent },
      link := { s.link with
        tags := s.link.tags.filter (fun x => x != tag),
        responses := s.link.responses ++ [.directiveDone tag .done (change.report s.region.table)] } }) := by
  obtain ⟨last, -, list, -, drain, startup⟩ := lastAppend_of_endsAppend s b q p h
  have persists := regionPersisted_of_apply ((s.answering b p).carrying []) change tag hc
  have answered := answerCarried_of_one (s.answering b p) (.region change) 0 _ persists drain
  exact programDone_appends_calmly s b q p _ _ last list ((congrArg (answerCarried · _) hp).trans answered) rfl rfl
    drain startup

end

end Sys2Proof.Machine
end

/-! ## A request refused at the end point of a drain -/

section
/-!
SUPPORT. The PROGRAM_DONE of the UNLOST that frees the last slot of a drain: the request that still waits is refused,
and the SHUTDOWN is appended (R104, R106, R171). With it O45.
-/

namespace Sys2Proof.Machine

/-! ### What banks with no slot queued send (R50, R62, R65) -/

/-- Bridge Control's record once programs have been counted toward the drain (R170). -/
def BridgeControl.counted (c : BridgeControl) (n : Nat) : BridgeControl :=
  { c with drain := c.drain.map (fun d => { d with count := d.count + n }) }

theorem counted_zero (c : BridgeControl) : c.counted 0 = c := by
  simp [BridgeControl.counted]

theorem counted_of_drain (c : BridgeControl) (n : Nat) (d : Drain) (h : c.drain = some d) :
    c.counted n = { c with drain := some { d with count := d.count + n } } := by
  simp [BridgeControl.counted, h]

/-- Banks that were IDLE may have sent commands: reads, or a metadata program that counts toward the drain. -/
structure State.Sends (s t : State) : Prop where
  eq : ∃ banks sent n, t
    = { s with sched := { s.sched with banks := banks }, arrayOut := sent, control := s.control.counted n }
  busy : ∀ k, (s.bank k).monitor ≠ .idle → t.bank k = s.bank k
  presence : ∀ k, (t.bank k).presence = (s.bank k).presence
  queues : ∀ k, (t.bank k).programQueue = (s.bank k).programQueue

section
variable (s : State)

theorem State.Sends.refl : s.Sends s where
  eq := ⟨s.sched.banks, s.arrayOut, 0, by rw [counted_zero]⟩
  busy _ _ := rfl
  presence _ := rfl
  queues _ := rfl

/-- An IDLE bank has sent a command. -/
theorem sends_of_bank (b : BankId) (x : Bank) (sent : List ArrayCommand) (n : Nat) (hi : (s.bank b).monitor = .idle)
    (hp : x.presence = (s.bank b).presence) (hq : x.programQueue = (s.bank b).programQueue) :
    s.Sends { s.setBank b x with arrayOut := sent, control := s.control.counted n } where
  eq := ⟨_, _, n, rfl⟩
  busy k hk := bank_setBank_ne s b k x fun same => hk (same ▸ hi)
  presence k := by
    by_cases same : b = k
    · subst same; exact (congrArg Bank.presence (bank_setBank s b x)).trans hp
    · exact congrArg Bank.presence (bank_setBank_ne s b k x same)
  queues k := by
    by_cases same : b = k
    · subst same; exact (congrArg Bank.programQueue (bank_setBank s b x)).trans hq
    · exact congrArg Bank.programQueue (bank_setBank_ne s b k x same)

theorem setBank_self (b : BankId) : s.setBank b (s.bank b) = s := by simp [State.setBank, State.bank]

/-- A read is issued at an IDLE bank, if one waits. -/
theorem sends_issueRead (b : BankId) (x : Bank) (hi : (s.bank b).monitor = .idle)
    (hp : x.presence = (s.bank b).presence) (hq : x.programQueue = (s.bank b).programQueue) :
    s.Sends ((s.setBank b x).issueRead b) := by
  obtain ⟨y, sent, issues, presence, queue⟩ : ∃ y sent, (s.setBank b x).issueRead b
      = { s.setBank b y with arrayOut := sent, control := s.control.counted 0 }
      ∧ y.presence = x.presence ∧ y.programQueue = x.programQueue := by
    rw [counted_zero, State.issueRead, bank_setBank]
    cases x.readQueue with
    | nil => exact ⟨x, s.arrayOut, rfl, rfl, rfl⟩
    | cons job rest =>
      simp only [setBank_setBank, State.sendRead, bank_setBank]
      exact ⟨_, _, rfl, rfl, rfl⟩
  rw [issues]
  exact sends_of_bank s b y sent 0 hi (presence.trans hp) (queue.trans hq)

/-- A bank with no slot queued chooses a read, the pending metadata program, or nothing (R50). -/
theorem sends_arbitrate (b : BankId) (hq : (s.bank b).programQueue = []) : s.Sends (s.arbitrate b) := by
  by_cases able : (s.bank b).monitor ≠ .idle ∨ (s.bank b).presence = .absent
  · rw [show s.arbitrate b = s from if_pos able]
    exact .refl s
  · have idle : (s.bank b).monitor = .idle := not_not.mp (not_or.mp able).1
    rw [State.arbitrate, if_neg able]
    split
    · have issues := sends_issueRead s b (s.bank b) idle rfl rfl
      rwa [setBank_self] at issues
    · cases s.metaFor? b with
      | some p => exact sends_of_bank s b _ _ 1 idle rfl rfl
      | none =>
        rw [hq, List.find?_nil]
        dsimp only
        split
        · exact .refl s
        · exact sends_issueRead s b _ idle rfl rfl

/-- The writer's program goes to its bank, with no slot queued at any (R103). -/
theorem handProgram_queueless (p : WriterProgram) (hp : s.writer.program = some p)
    (ha : ∀ k, (s.bank k).presence ≠ .absent) (hq : ∀ k, (s.bank k).programQueue = []) :
    (s.setPendingMeta (some { page := p.page, image := p.image })).Sends s.handProgram := by
  have hands : s.handProgram
      = (s.setPendingMeta (some { page := p.page, image := p.image })).arbitrate (s.metaBank p.page) := by
    rw [State.handProgram, hp]
    exact if_neg (ha _)
  rw [hands]
  exact sends_arbitrate _ _ (hq _)

/-- A bank whose program has ended enters IDLE with no slot queued, and chooses (R50, R51). -/
theorem endProgram_queueless (b : BankId) (hp : (s.bank b).program = .absent) (ha : (s.bank b).awaited = [])
    (hq : (s.bank b).programQueue = []) :
    ∃ x sent n, s.endProgram b = { s with sched := x, arrayOut := sent, control := s.control.counted n } := by
  let idle : Bank := { s.bank b with
    monitor := .idle, program := .absent, programTimer := .stopped, awaited := [],
    batch := (s.bank b).readQueue.length }
  have leaves : s.endProgram b = (s.setBank b idle).arbitrate b := by
    rw [State.endProgram, if_pos (by simp [ha]), leaveProgram_of_absent s b hp]
    rfl
  obtain ⟨banks, sent, n, chooses⟩ := (sends_arbitrate (s.setBank b idle) b (by rw [bank_setBank]; exact hq)).eq
  exact ⟨_, _, _, leaves.trans chooses⟩

/-! ### The slot becomes FREE (R90) -/

/-- The only slot of a page is FREE, and its bank may have sent what waited for it. -/
theorem freeReported_sends (i : SlotId) (page : Nat) (h : s.RecordsAlone i page)
    (hq : ∀ k, (s.bank k).programQueue = []) : ∃ v, (s.freedState page [i]).Sends v
      ∧ s.freeReported i = { v with tracker := s.tracker.lessOne (s.slot i).epoch } := by
  let t := s.freedState page [i]
  have freed : s.freedWith i = [i] := by
    rw [State.freedWith, olderSlots_of_list s i [] [] (by rw [h.ofPage]; exact h.alone) (by simp)]
    rfl
  have none : t.reexamine page = t := by
    have list : t.slotList page = [] := by rw [slotList_freedState s page [i] h.lawful, h.alone]; simp
    rw [State.reexamine, list, List.foldl_nil]
  have frees : s.freeSlot i = (t.reexamine page).arbitrate (s.bankOfPage page) := by
    simp only [State.freeSlot, freed, foldl_setSlot, h.ofPage]
    rfl
  have sends : t.Sends (t.arbitrate (s.bankOfPage page)) := sends_arbitrate t _ (hq _)
  refine ⟨_, sends, ?_⟩
  obtain ⟨banks, sent, n, chooses⟩ := sends.eq
  obtain ⟨e, rest, epochs, opened⟩ := h.head
  rw [State.freeReported, frees, none, chooses]
  exact epochDown_stays _ _ e rest epochs (.inl opened)

theorem slotsAtRest_of_forall (h : ∀ i, (s.slot i).state = .free ∨ (s.slot i).state = .stranded) :
    s.slotsAtRest = true := by
  have slots (k : Nat) (hk : k < 32) : s.absorb.slots[k].state = .free ∨ s.absorb.slots[k].state = .stranded :=
    h ⟨k, hk⟩
  simpa [State.slotsAtRest, or_iff_not_imp_left] using slots

/-- The only slot that is neither FREE nor STRANDED becomes FREE: the slots are at rest. -/
theorem slotsAtRest_freedState (i : SlotId) (page : Nat)
    (h : ∀ j, j ≠ i → (s.slot j).state = .free ∨ (s.slot j).state = .stranded) :
    (s.freedState page [i]).slotsAtRest = true := slotsAtRest_of_forall _ fun j => by
  rw [slot_freedState]
  by_cases same : j = i
  · exact .inl (by simp [same, Slot.unused])
  · rw [if_neg (by simpa using same)]
    exact h j same

/-! ### The list is refused, and the SHUTDOWN joins it (R106, R171) -/

/-- The SHUTDOWN of a drain at its end point with every slot at rest. -/
theorem shutdownRequest_of_rest (d : Drain) (h : s.slotsAtRest = true) :
    s.shutdownRequest d = s.lastRequest d.kind := by
  have outcome : s.shutdownOutcome d = d.kind.outcome := by
    rw [State.shutdownOutcome, h]
    cases d.kind <;> rfl
  rw [State.shutdownRequest, outcome, strandedCount_eq]
  rfl

/-- A slot in RECORDING that becomes FREE changes nothing that the SHUTDOWN carries. -/
theorem lastRequest_freedState (i : SlotId) (page : Nat) (kind : DrainKind) (h : (s.slot i).state = .recording) :
    (s.freedState page [i]).lastRequest kind = s.lastRequest kind := by
  have stranded : allSlots.filter (fun j => ((s.freedState page [i]).slot j).state == .stranded)
      = allSlots.filter (fun j => (s.slot j).state == .stranded) := List.filter_congr fun j _ => by
    rw [slot_freedState]
    by_cases same : j = i
    · simp [same, Slot.unused, h]
    · rw [if_neg (by simpa using same)]
  rw [State.lastRequest, stranded]
  rfl

/-- The request of a RANGE_APPLY refused, with the SHUTDOWN of the drain in its place. -/
def State.refusing (s : State) (d : Drain) (tag : Nat) (r : Request) : State :=
  { s with
    control := { s.control with drain := some { d with shutdown := .handed } },
    writer := { s.writer with list := [r] },
    engine := { s.engine with current := .absent },
    link := { s.link with
      tags := s.link.tags.filter (fun x => x != tag),
      responses := s.link.responses ++ [.directiveDone tag .failed []] } }

theorem judgeEndListing_refuses (d : Drain) (change : RegionChange) (tag : Nat) (he : s.endingDrain? = some d)
    (hp : s.writer.splitRequest = []) (hl : s.writer.list = [{ kind := .region change, taken := 0, void := false }])
    (hc : s.engine.current = .rangeApply tag) : s.judgeEndListing = s.refusing d tag (s.shutdownRequest d) := by
  let t : State := { s.markHanded d with writer := { s.writer with list := [] } }
  have fails : answerRequests true [] [{ kind := .region change, taken := 0, void := false }] t
      = t.answerDirective tag .failed [] := by
    have failed : t.directiveFailed = t.answerDirective tag .failed [] := by
      rw [State.directiveFailed, show t.engine.current = .rangeApply tag from hc]
    exact failed
  have lists : (s.markHanded d).listShutdown (s.shutdownRequest d) = s.refusing d tag (s.shutdownRequest d) := by
    rw [State.listShutdown, show (s.markHanded d).writer = s.writer from rfl, hp, hl]
    simp only [List.length_nil, List.drop_zero]
    rw [fails]
    rfl
  rw [State.judgeEndListing, he]
  exact lists

/-- An IDLE writer with the SHUTDOWN alone in its list appends it at once (R103, R106). -/
theorem kick_of_shutdown (r : Request) (hw : s.writer.state = .idle) (hl : s.writer.list = [r])
    (hs : r.isShutdown = true) (hr : r.remaining.length = 1) (hm : s.sched.pendingMeta = none)
    (hu : s.writer.used < 1024) (hc : s.control.state = .draining) (ho : s.drainOver = false) : s.kick
      = ({ s with writer := { s.writer with
          state := .appending, list := [], program := some (s.writer.programFor r) } } : State).handProgram := by
  have plan : s.appendPlan
      = { records := r.remaining, carried := [{ request := r, complete := true }], rest := [], refused := [],
          kept := [r] } := by
    rw [State.appendPlan, hl, hc]
    exact planAppend_of_shutdown _ _ r hs hr hu (by omega)
  rw [State.kick, if_pos ⟨hw, by simp [hl], hm, .inl hu, ho⟩, startAppend_of_room s (by rw [plan])]
  simp only [State.takeAppend, plan, List.isEmpty_cons, Bool.false_eq_true, if_false, answerRequests, padBlank,
    List.append_assoc]
  rfl

/-! ### The command -/

/-- The UNLOST of the last slot of a drain in flight, with the request of a RANGE_APPLY waiting in the list. -/
structure State.LastRecords (s : State) (b : BankId) (q : Nat) (p : WriterProgram) (i : SlotId) (page : Nat)
    (change : RegionChange) (tag : Nat) (d : Drain) : Prop where
  named : s.namesBank b.val = true
  programming : (s.bank b).monitor = .programming
  metadata : (s.bank b).program = .metadata
  awaited : (s.bank b).awaited = [.programDone q]
  present : ∀ k, (s.bank k).presence ≠ .absent
  queues : ∀ k, (s.bank k).programQueue = []
  appending : s.writer.state = .appending
  inHand : s.writer.program = some p
  carried : p.carried = [.last (.unlost (some i) page) 0]
  room : s.writer.used + p.records < 1024
  list : s.writer.list = [{ kind := .region change, taken := 0, void := false }]
  held : s.remap.held = []
  current : s.engine.current = .rangeApply tag
  draining : s.control.state = .draining
  drain : s.control.drain = some d
  notHanded : d.shutdown = .notHanded
  permitted : d.recordPermitted = true
  records : s.RecordsAlone i page
  others : ∀ j, j ≠ i → (s.slot j).state = .free ∨ (s.slot j).state = .stranded

end

section
variable {s : State} {b : BankId} {q : Nat} {p : WriterProgram} {i : SlotId} {page : Nat} {change : RegionChange}
  {tag : Nat} {d : Drain}

/-- The end of its program leaves a bank's presence and queue as they were. -/
theorem bank_answering_kept (s : State) (b k : BankId) (p : WriterProgram) :
    ((s.answering b p).bank k).presence = (s.bank k).presence
      ∧ ((s.answering b p).bank k).programQueue = (s.bank k).programQueue := by
  by_cases same : b = k
  · subst same; rw [bank_answering]; exact ⟨rfl, rfl⟩
  · rw [show (s.answering b p).bank k = s.bank k from bank_setBank_ne s b k _ same]; exact ⟨rfl, rfl⟩

/-- The bank once its program has ended and before it chooses again. -/
def Bank.programEnded (bank : Bank) : Bank := { bank with program := .absent, programTimer := .stopped, awaited := [] }

/-- The state once the last slot of a drain is FREE, the request that waited is refused and the SHUTDOWN is listed, its
drain counting `n` programs more. -/
def State.lastFreed (s : State) (p : WriterProgram) (i : SlotId) (page tag : Nat) (d : Drain) (n : Nat) : State :=
  { s with
    absorb := s.absorb.freed page [i],
    tracker := s.tracker.lessOne (s.slot i).epoch,
    remap := { s.remap with lost := s.remap.lost.filter (fun x => x != page) },
    control := { s.control with drain := some { d with count := d.count + n, shutdown := .handed } },
    writer := { s.writer with
      used := s.writer.used + p.records, buffer := p.image, program := some { p with carried := [] },
      list := [s.lastRequest d.kind] },
    engine := { s.engine with current := .absent },
    link := { s.link with
      tags := s.link.tags.filter (fun x => x != tag),
      responses := s.link.responses ++ [.directiveDone tag .failed []] } }

theorem counted_lastFreed (s : State) (n m : Nat) : (s.lastFreed p i page tag d n).control.counted m
    = (s.lastFreed p i page tag d (n + m)).control := by
  simp [BridgeControl.counted, State.lastFreed, Nat.add_assoc]

/-- The answer frees the slot, which is the end point of the drain: the request that waits is refused. -/
theorem State.LastRecords.answers (h : s.LastRecords b q p i page change tag d) : ∃ banks sent n,
    answerCarried p.carried (s.answering b p) = { s.lastFreed p i page tag d n with
      sched := { banks := banks, pendingMeta := none }, arrayOut := sent }
    ∧ banks[b.val] = (s.bank b).programEnded
    ∧ ∀ k : BankId, banks[k.val].presence ≠ .absent ∧ banks[k.val].programQueue = [] := by
  let u := (s.answering b p).carrying []
  let w := u.leaveLost page
  have inHand : u.writer.program = some { p with carried := [] } := congrArg (Option.map _) h.inHand
  have noMap : u.outstandingRequests.any (fun r => r.isMapOf i) = false := by
    rw [State.outstandingRequests, inHand, show u.remap.held = [] from h.held, show u.writer.list = _ from h.list]
    rfl
  have frees : u.requestPersisted { kind := .unlost (some i) page, taken := 0, void := false } = w.freeReported i :=
    Eq.trans (b := w.freeRecorded i page) rfl (if_pos ⟨h.records.recording, h.records.ofPage, noMap⟩)
  obtain ⟨v, sends, freed⟩ := freeReported_sends w i page (recordsAlone_of s w i page h.records rfl rfl)
    fun k => (bank_answering_kept s b k p).2.trans (h.queues k)
  have own : v.bank b = (s.bank b).programEnded := by
    have answered : (w.freedState page [i]).bank b = (s.bank b).programEnded := bank_answering s b p
    exact (sends.busy b (by rw [answered]; simp [Bank.programEnded, h.programming])).trans answered
  have kept (k : BankId) : (v.bank k).presence ≠ .absent ∧ (v.bank k).programQueue = [] :=
    ⟨fun absent => h.present k ((bank_answering_kept s b k p).1.symm.trans ((sends.presence k).symm.trans absent)),
      (sends.queues k).trans ((bank_answering_kept s b k p).2.trans (h.queues k))⟩
  obtain ⟨banks, sent, n, same⟩ := sends.eq
  subst same
  refine ⟨banks, sent, n, ?_, own, kept⟩
  let d' : Drain := { d with count := d.count + n }
  let z : State := { w.freedState page [i] with
    sched := { banks := banks, pendingMeta := none }, arrayOut := sent,
    control := s.control.counted n, tracker := s.tracker.lessOne (s.slot i).epoch }
  have rests : z.slotsAtRest = true := slotsAtRest_freedState s i page h.others
  have drain : z.control.drain = some d' := by
    rw [show z.control = s.control.counted n from rfl, counted_of_drain _ n d h.drain]
  have ending : z.endingDrain? = some d' := endingDrain?_of_end z d' drain h.notHanded h.permitted (by
    rw [State.drainAtEnd, rests, Bool.true_or])
  have request : z.shutdownRequest d' = s.lastRequest d.kind := (shutdownRequest_of_rest z d' rests).trans
    (lastRequest_freedState s i page d.kind h.records.recording)
  have split : z.writer.splitRequest = [] := by
    rw [Writer.splitRequest, show z.writer.program = _ from inHand]
    rfl
  have refuses := judgeEndListing_refuses z d' change tag ending split h.list h.current
  rw [request] at refuses
  have lists : z.refusing d' tag (s.lastRequest d.kind) = { s.lastFreed p i page tag d n with
      sched := { banks := banks, pendingMeta := none }, arrayOut := sent } := by
    have writer : ({ u.writer with list := [s.lastRequest d.kind] } : Writer)
        = (s.lastFreed p i page tag d n).writer := by
      rw [show u.writer = { (s.answering b p).writer with program := u.writer.program } from rfl, inHand]
      rfl
    rw [State.refusing, show z.writer = u.writer from rfl, writer]
    rfl
  rw [h.carried, answerCarried_last]
  exact (congrArg State.judgeEndListing (frees.trans freed)).trans (refuses.trans lists)

/-- A log page has persisted outside RUNNING: the writer is IDLE once the answers are given, and kicked (R104). -/
theorem writerOutcome_kicks (s v : State) (p : WriterProgram) (hw : s.writer.state = .appending)
    (hp : s.writer.program = some p)
    (hv : answerCarried p.carried { s.setPendingMeta none with
      writer := { s.writer with used := s.writer.used + p.records, buffer := p.image } } = v)
    (hc : v.control.state ≠ .running) : s.writerOutcome true = State.kick { v with writer := { v.writer with
      state := .idle, program := none, buffer := bufferAfter (s.writer.used + p.records) p.image } } := by
  have appends : (s.setPendingMeta none).appendOk p = State.kick { v with writer := { v.writer with
      state := .idle, program := none, buffer := bufferAfter (s.writer.used + p.records) p.image } } := by
    simp only [State.appendOk, State.setPendingMeta_writer, hv]
    exact if_neg fun running => hc running.1
  simp only [State.writerOutcome, hp, if_true, State.metaOk, State.setPendingMeta_writer, hw, appends]

/-- A log page program answered OK at its bank: the writer takes its outcome, and the bank ends its program. -/
theorem takeProgramDone_of_log (hn : s.namesBank b.val = true) (hm : (s.bank b).monitor = .programming)
    (hp : (s.bank b).program = .metadata) (ha : (s.bank b).awaited = [.programDone q]) :
    s.takeProgramDone b.val q .ok = ((s.setBank b (s.bank b).programEnded).metadataOutcome true).endProgram b := by
  have taken : ((s.untilTaken b (.programDone q)).stopProgramTimer b).setProgram b .absent
      = s.setBank b (s.bank b).programEnded := by
    simp only [untilTaken_of_alone s b _ ha, State.stopProgramTimer, State.setProgram, bank_setBank, hm, if_true,
      setBank_setBank, Bank.programEnded]
  simp only [State.takeProgramDone, takingBank?_of_awaited s b _ hn (by simp [ha] :
    Awaited.programDone q ∈ (s.bank b).awaited), hp, taken]
  rfl

/-- The writer once the SHUTDOWN of a drain has been taken from its list (R103). -/
def State.lastWriter (s : State) (p : WriterProgram) (d : Drain) : Writer :=
  let written : Writer := { s.writer with
    used := s.writer.used + p.records, buffer := bufferAfter (s.writer.used + p.records) p.image }
  { written with state := .appending, list := [], program := some (written.programFor (s.lastRequest d.kind)) }

theorem carried_lastWriter (s : State) (p : WriterProgram) (d : Drain) :
    (s.lastWriter p d).program.map WriterProgram.carried
      = some [.last (.shutdown s.control.session d.kind.outcome s.tracker.lastPersisted
          (allSlots.filter (fun i => (s.slot i).state == .stranded)).length) 0] := rfl

/-- The SHUTDOWN is appended at once, and its program goes to its bank. -/
theorem State.LastRecords.takes (h : s.LastRecords b q p i page change tag d) : ∃ x sent n,
    s.takeProgramDone b.val q .ok = { s.lastFreed p i page tag d n with
      writer := s.lastWriter p d, sched := x, arrayOut := sent } := by
  obtain ⟨banks, sent, n, answered, own, kept⟩ := h.answers
  let v : State := { s.lastFreed p i page tag d n with
    sched := { banks := banks, pendingMeta := none }, arrayOut := sent }
  let idle : State := { v with writer := { v.writer with
    state := .idle, program := none, buffer := bufferAfter (s.writer.used + p.records) p.image } }
  let appends : State := { v with writer := s.lastWriter p d }
  have outcome : (s.setBank b (s.bank b).programEnded).writerOutcome true = idle.kick :=
    writerOutcome_kicks _ v p h.appending h.inHand answered
      (by rw [show v.control.state = .draining from h.draining]; simp)
  have kicks : idle.kick = appends.handProgram :=
    kick_of_shutdown idle (s.lastRequest d.kind) rfl rfl rfl rfl rfl h.room h.draining rfl
  have hands := handProgram_queueless appends _ rfl (fun k => (kept k).1) fun k => (kept k).2
  have bank : appends.handProgram.bank b = (s.bank b).programEnded := by
    have busy : (appends.bank b).monitor ≠ .idle := by
      rw [show appends.bank b = _ from own]; simp [Bank.programEnded, h.programming]
    exact (hands.busy b busy).trans own
  obtain ⟨x, sent₁, m, equal⟩ := hands.eq
  have working : appends.handProgram.degradeIfStopped = appends.handProgram := if_neg fun stopped => by
    rw [equal] at stopped
    exact absurd stopped.2 (by simp [appends, State.lastWriter])
  obtain ⟨x₂, sent₂, m₂, leaves⟩ := endProgram_queueless appends.handProgram b (by rw [bank]; rfl) (by rw [bank]; rfl)
    ((hands.queues b).trans (kept b).2)
  refine ⟨x₂, sent₂, n + m + m₂, ?_⟩
  rw [takeProgramDone_of_log h.named h.programming h.metadata h.awaited, State.metadataOutcome, outcome, kicks, working,
    leaves, equal]
  have control : ((s.lastFreed p i page tag d n).control.counted m).counted m₂
      = (s.lastFreed p i page tag d (n + m + m₂)).control := by rw [counted_lastFreed, counted_lastFreed]
  exact congrArg (fun c => ({ appends with sched := x₂, arrayOut := sent₂, control := c } : State)) control

/-- The command ends with the SHUTDOWN handed, and nothing due (R171). -/
theorem State.LastRecords.programDone (h : s.LastRecords b q p i page change tag d) (hr : s.ready = true)
    (hs : s.control.startup = none) : ∃ x sent n, exec (.programDone b.val q .ok) s
      = .next (State.judgeAlert { s.lastFreed p i page tag d n with
          writer := s.lastWriter p d, sched := x, arrayOut := sent }) := by
  obtain ⟨x, sent, n, takes⟩ := h.takes
  refine ⟨x, sent, n, ?_⟩
  rw [programDone_taken s b q .ok hr h.named (by simp [h.awaited]), takes]
  refine congrArg Host.Outcome.next (settle_of_quiet _ ?_)
  simp [State.quiet, State.stage?, State.lastFreed, hs]

end

end Sys2Proof.Machine

namespace Sys2Proof

open Machine

/-- Settles O45: the request of each change, its two answers, and the order of the table after it. -/
theorem rangeApplyRequestsItsRecord : Obligations.RangeApplyRequestsItsRecord := by
  refine ⟨?requests, ?answers, ?refused,
    fun attr first last table change => regionsLawful_change attr first last change⟩
  case requests =>
    intro s d attr first last ho running code length payload staged lawful appending room
    have asks (change : RegionChange) (hj : judgeApply attr.toNat first last s.region.table = .change change) :=
      rangeApply_requests s d attr first last change ho running code length payload staged appending room hj
    refine ⟨fun fixed mem => ?_, fun clears mem => ?_, fun protects apart free => ?_⟩
    · subst fixed
      exact asks _ (judgeApply_promote first last lawful mem)
    · subst clears
      exact asks _ (judgeApply_remove first last lawful mem)
    · have adds (a : RegionAttr) := judgeProtect_add first last a lawful apart free
      rcases protects with rfl | rfl
      · exact asks _ (adds .guarded)
      · exact asks _ (adds .fixed)
  case answers =>
    intro s b q tag p change h carried current
    have persists := programDone_region s b q tag p change h carried current
    refine ⟨fun first last attr added => ?_, fun first last promoted mem => ?_, fun first last removed mem => ?_⟩
    · subst added
      rw [report_add, regionEntryBytes_eq] at persists
      cases attr <;> exact persists
    · subst promoted
      rw [report_promote first last ⟨_, mem, rfl, rfl⟩, regionEntryBytes_eq] at persists
      exact persists
    · subst removed
      rw [report_remove first last ⟨_, mem, rfl, rfl⟩, regionEntryBytes_eq] at persists
      exact persists
  case refused =>
    intro s b q tag page p i change d e rest ready known draining startup drain notHanded permitted programming metadata
      awaited appending banks inHand carried room list current held recording ofPage alone lawful epochs opened others
    have records : s.LastRecords b q p i page change tag d :=
      { named := namesBank_of_known s b (by simpa using known), programming, metadata, awaited,
        present := fun k => (banks k).1, queues := fun k => (banks k).2, appending, inHand, carried, room, list, held,
        current, draining, drain, notHanded, permitted,
        records := ⟨recording, ofPage, alone, lawful, e, rest, epochs, opened⟩, others }
    obtain ⟨x, sent, n, ends⟩ := records.programDone ready startup
    refine ⟨_, ends, ?_, rfl, rfl, rfl, draining, rfl, rfl, ?_⟩
    · exact congrArg Slot.state ((slot_freedState s page [i] i).trans (if_pos (by simp)))
    · refine (carried_lastWriter s p d).trans ?_
      cases d.kind <;> rfl

end Sys2Proof
end

/-! ## Directives that are refused -/

section
/-!
SUPPORT. The order in which a directive is judged, the staging it discards, and the statements about the directives that
are refused or answered BAD_ARGUMENT (R120, R149, R150), with O41 and O42.
-/

namespace Sys2Proof.Machine

/-! ### The meaning of a directive's command (R143) -/

/-- What each directive does once it is admitted with a payload of its length. -/
def Directive.body : Directive → DirRequest → State → State
  | .flush => flushBody
  | .rangeFirst => rangeFirstBody
  | .rangeLast => rangeLastBody
  | .rangeApply => rangeApplyBody
  | .rangeScrub => rangeScrubBody
  | .regionList => regionListBody
  | .release => releaseBody
  | .remapQuery => remapQueryBody
  | .restart => restartBody
  | .reformat => reformatBody
  | .statusFetch => statusFetchBody
  | .incidentTake => incidentTakeBody
  | .profile => profileBody

theorem exec_of_directive (c : Instr) (which : Directive) (h : c.directive? = some which) :
    exec c = execDirective which which.body := by
  cases c <;> cases h <;> rfl

theorem directiveOf?_eq_none (code : Byte) (h : code ∉ [0x01#8, 0x10#8, 0x11#8, 0x12#8, 0x13#8, 0x14#8, 0x20#8,
    0x21#8, 0x30#8, 0x31#8, 0x40#8, 0x41#8, 0x42#8]) : directiveOf? code = none := by
  simp only [List.mem_cons, List.not_mem_nil, or_false, not_or] at h
  simp only [directiveOf?, h, if_false]

theorem inDegraded_iff (which : Directive) : which.inDegraded = true
    ↔ which ∈ [.statusFetch, .incidentTake, .regionList, .remapQuery, .profile, .flush, .restart] := by
  cases which <;> decide

theorem lengthOk_eq_false (d : DirRequest) (which : Directive)
    (h : 64 < d.payloadLength ∨ d.payloadLength ≠ d.payload.length ∨ d.payloadLength ≠ which.payloadLength) :
    d.lengthOk which = false := by
  rw [Bool.eq_false_iff, DirRequest.lengthOk]
  simp only [ne_eq, Bool.and_eq_true, decide_eq_true_eq, beq_iff_eq]
  omega

section
variable (s : State)

/-! ### Admission (R150) -/

theorem admits_iff_of_starting (which : Directive) (h : s.control.state = .starting) :
    s.admits which = true ↔ which = .statusFetch := by
  simp [State.admits, h]

theorem admits_iff_of_running (which : Directive) (h : s.control.state = .running) :
    s.admits which = true ↔ which ≠ .reformat := by
  simp [State.admits, h]

theorem admits_iff_of_degraded (which : Directive) (h : s.control.state = .degraded) :
    s.admits which = true
      ↔ which ∈ [.statusFetch, .incidentTake, .regionList, .remapQuery, .profile, .flush, .restart] := by
  rw [State.admits, h]
  exact inDegraded_iff which

theorem admits_iff_of_ending (which : Directive) (h : s.control.state = .draining ∨ s.control.state = .dormant) :
    s.admits which = true ↔ which ∈ [.statusFetch, .incidentTake] := by
  rcases h with h | h <;> simp [State.admits, h]

theorem admits_iff_of_faulted (which : Directive) (h : s.control.state = .faulted) :
    s.admits which = true ↔ which ∈ [.statusFetch, .incidentTake]
      ∨ which = .reformat ∧ s.control.faultReason = .metadataCorrupt := by
  simp [State.admits, h, or_assoc]

/-! ### The staging that a directive discards (R120) -/

theorem sparesStaging_eq_exempt (which : Directive) : which.sparesStaging = which.exempt := by
  cases which <;> rfl

theorem discardStaging_eq_abandoned : s.discardStaging = s.abandoned := by
  by_cases h : s.region.staging = .empty
  · rw [State.discardStaging, if_pos h, State.abandoned, if_pos h, ← h]
  · rw [State.discardStaging, if_neg h, State.abandoned, if_neg h]
    rfl

theorem abandoned_abandoned : s.abandoned.abandoned = s.abandoned := rfl

/-- The state in which a directive is judged, a staging discarded unless the directive is exempt. -/
def State.unstagedFor (s : State) (which : Directive) : State := if which.sparesStaging then s else s.abandoned

theorem unstagedFor_tookDirective (which : Directive) (tag : Nat) :
    (s.tookDirective tag).unstagedFor which = (s.unstagedFor which).tookDirective tag := by
  unfold State.unstagedFor
  split <;> rfl

theorem unstagedFor_control (which : Directive) : (s.unstagedFor which).control = s.control := by
  unfold State.unstagedFor
  split <;> rfl

theorem unstagedFor_link (which : Directive) : (s.unstagedFor which).link = s.link := by
  unfold State.unstagedFor
  split <;> rfl

theorem unstagedFor_abandoned (which : Directive) (h : which.sparesStaging = false) :
    s.abandoned.unstagedFor which = s.unstagedFor which := by
  simp [State.unstagedFor, h, abandoned_abandoned]

theorem admits_congr (t : State) (which : Directive) (h : t.control = s.control) : t.admits which = s.admits which := by
  simp only [State.admits, h]

theorem offersDirective_unstagedFor (which : Directive) (d : DirRequest) :
    (s.unstagedFor which).offersDirective d = s.offersDirective d := by
  unfold State.unstagedFor
  split <;> rfl

/-! ### The order of the judgements (R149) -/

/-- The four steps of R149, with the staging discarded first. -/
theorem judgeDirective_eq (which : Directive) (d : DirRequest) (body : DirRequest → State → State) :
    s.judgeDirective which d body =
      if s.admits which = false then (s.unstagedFor which).answerDirective d.tag
        (if s.control.state = .starting then .starting else .halted) []
      else if d.lengthOk which = false then (s.unstagedFor which).answerDirective d.tag .badArgument []
      else body d (s.unstagedFor which) := by
  have staged : (if which.exempt then s else s.discardStaging) = s.unstagedFor which := by
    rw [State.unstagedFor, sparesStaging_eq_exempt, discardStaging_eq_abandoned]
  simp only [State.judgeDirective, staged, unstagedFor_control,
    admits_congr s _ which (unstagedFor_control s which), Bool.not_eq_true']

theorem judgeDirective_abandoned (which : Directive) (d : DirRequest) (body : DirRequest → State → State)
    (h : which.sparesStaging = false) : s.abandoned.judgeDirective which d body = s.judgeDirective which d body := by
  rw [judgeDirective_eq, judgeDirective_eq s, unstagedFor_abandoned s which h]
  rfl

/-- A directive answered by its judgement alone, with an empty payload. -/
theorem directive_unperformed (which : Directive) (d : DirRequest) (body : DirRequest → State → State) (r : Result)
    (h : s.offersDirective d = true) (hc : directiveOf? d.code = some which)
    (hj : (s.tookDirective d.tag).judgeDirective which d body
      = ((s.tookDirective d.tag).unstagedFor which).answerDirective d.tag r []) :
    execDirective which body s = .next (State.judgeAlert { s.unstagedFor which with
      link := s.link.tookDirective [.directiveDone d.tag r []] }) := by
  rw [directive_offered s which body d h hc, hj, unstagedFor_tookDirective,
    settle_answeredDirective _ d r [] ((offersDirective_unstagedFor s which d).trans h), unstagedFor_link]

/-- A directive that is not admitted in the bridge state (R149 step 3, R150). -/
theorem directive_refused (which : Directive) (d : DirRequest) (body : DirRequest → State → State)
    (h : s.offersDirective d = true) (hc : directiveOf? d.code = some which) (ha : ¬ s.admits which = true) :
    execDirective which body s = .next (State.judgeAlert { s.unstagedFor which with
      link := s.link.tookDirective [.directiveDone d.tag
        (if s.control.state = .starting then .starting else .halted) []] }) :=
  directive_unperformed s which d body _ h hc
    ((judgeDirective_eq _ which d body).trans (if_pos (Bool.eq_false_iff.mpr ha)))

/-- An admitted directive whose payload is not of its length (R142, R149 step 4). -/
theorem directive_badLength (which : Directive) (d : DirRequest) (body : DirRequest → State → State)
    (h : s.offersDirective d = true) (hc : directiveOf? d.code = some which) (ha : s.admits which = true)
    (hl : d.lengthOk which = false) : execDirective which body s
      = .next (State.judgeAlert { s.unstagedFor which with
        link := s.link.tookDirective [.directiveDone d.tag .badArgument []] }) := by
  have admitted : ¬ (s.tookDirective d.tag).admits which = false := by
    simp [admits_congr s (s.tookDirective d.tag) which rfl, ha]
  exact directive_unperformed s which d body _ h hc
    ((judgeDirective_eq _ which d body).trans ((if_neg admitted).trans (if_pos hl)))

/-- A directive that may be taken and whose code names none is answered UNKNOWN (R149 step 1). -/
theorem unknownDirective_offered (d : DirRequest) (h : s.offersDirective d = true) (hc : directiveOf? d.code = none) :
    exec .unknownDirective s = .next (State.judgeAlert { s.abandoned with
      link := s.link.tookDirective [.directiveDone d.tag .unknown []] }) := by
  obtain ⟨ready, current, ⟨rest, lane⟩, takes, fresh⟩ := offersDirective_cases s d h
  have due : s.unknownDue? = some d := by simp [State.unknownDue?, State.directiveDue?, current, lane, takes, hc]
  have answers : (s.tookDirective d.tag).answerUnknown d
      = (s.abandoned.tookDirective d.tag).answerDirective d.tag .unknown [] := by
    rw [State.answerUnknown, discardStaging_eq_abandoned]
    rfl
  simp only [exec, execUnknownDirective, due]
  rw [act_true _ _ (ready_released s ready), examineTag_fresh s.popDirective .directive d.tag _ fresh]
  exact congrArg Host.Outcome.next
    ((congrArg State.settle answers).trans (settle_answeredDirective s.abandoned d .unknown [] h))

end

end Sys2Proof.Machine

namespace Sys2Proof

open Machine

/-- Settles O41: discarding a staging twice is discarding it once, and what each bridge state admits is R150's list. -/
theorem refusedDirectiveChangesNothing : Obligations.RefusedDirectiveChangesNothing := by
  intro s c d which command offered code
  rw [exec_of_directive c which command]
  refine ⟨fun discards => ?_, fun refused => ?_⟩
  · rw [directive_offered s which which.body d offered code,
      directive_offered s.abandoned which which.body d offered code]
    exact congrArg (fun t => Host.Outcome.next (State.settle t))
      (judgeDirective_abandoned (s.tookDirective d.tag) which d which.body discards).symm
  · refine directive_refused s which d which.body offered code fun admitted => ?_
    cases state : s.control.state <;> rw [state] at refused
    case starting => exact refused ((admits_iff_of_starting s which state).mp admitted)
    case running => exact (admits_iff_of_running s which state).mp admitted refused
    case degraded => exact refused ((admits_iff_of_degraded s which state).mp admitted)
    case draining => exact refused ((admits_iff_of_ending s which (.inl state)).mp admitted)
    case dormant => exact refused ((admits_iff_of_ending s which (.inr state)).mp admitted)
    case faulted => exact ((admits_iff_of_faulted s which state).mp admitted).elim refused.1 refused.2

/-- Settles O42. -/
theorem badCodeOrLengthIsAnswered : Obligations.BadCodeOrLengthIsAnswered := by
  refine ⟨fun s d offered unnamed => unknownDirective_offered s d offered (directiveOf?_eq_none d.code unnamed),
    fun s c d which command offered code admitted unfit => ?_⟩
  rw [exec_of_directive c which command]
  refine directive_badLength s which d which.body offered code ?_ (lengthOk_eq_false d which unfit)
  cases state : s.control.state <;> rw [state] at admitted
  case starting => exact (admits_iff_of_starting s which state).mpr admitted
  case running => exact (admits_iff_of_running s which state).mpr admitted
  case degraded => exact (admits_iff_of_degraded s which state).mpr admitted
  case draining => exact (admits_iff_of_ending s which (.inl state)).mpr admitted
  case dormant => exact (admits_iff_of_ending s which (.inr state)).mpr admitted
  case faulted => exact (admits_iff_of_faulted s which state).mpr admitted

end Sys2Proof
end

/-! ## Range staging -/

section
/-!
SUPPORT. The directives of range staging, each answered at once in RUNNING, with O43 and O46 (R119, R124).
-/

namespace Sys2Proof.Machine

section
variable (s : State)

/-! ### Directives answered with the Region Unit changed -/

/-- An exempt directive that RUNNING admits and that changes the Region Unit alone before it is answered. -/
theorem rangeDirective_answered (which : Directive) (body : DirRequest → State → State) (d : DirRequest)
    (region : RegionUnit) (r : Result) (x : List Byte) (ho : s.offersDirective d = true)
    (hr : s.control.state = .running) (hc : directiveOf? d.code = some which) (he : which.exempt = true)
    (hl : d.lengthOk which = true) (hb : body d (s.tookDirective d.tag)
      = State.answerDirective { s.tookDirective d.tag with region := region } d.tag r x) :
    execDirective which body s = .next (State.judgeAlert { s with
      link := s.link.tookDirective [.directiveDone d.tag r x], region := region }) := by
  have admitted : (s.tookDirective d.tag).admits which = true :=
    (admits_iff_of_running _ which hr).mpr (by rintro rfl; cases he)
  rw [directive_offered s which body d ho hc, judgeDirective_of_exempt _ which d body he hl, if_pos admitted, hb]
  exact congrArg Host.Outcome.next (settle_answeredDirective { s with region := region } d r x ho)

/-- The same where the staging alone changes. -/
theorem rangeDirective_restaged (which : Directive) (body : DirRequest → State → State) (d : DirRequest)
    (staging : Staging) (r : Result) (x : List Byte) (ho : s.offersDirective d = true)
    (hr : s.control.state = .running) (hc : directiveOf? d.code = some which) (he : which.exempt = true)
    (hl : d.lengthOk which = true) (hb : body d (s.tookDirective d.tag)
      = ((s.tookDirective d.tag).setStaging staging).answerDirective d.tag r x) :
    execDirective which body s = .next (State.judgeAlert { s with
      link := s.link.tookDirective [.directiveDone d.tag r x], region := { s.region with staging := staging } }) :=
  rangeDirective_answered s which body d { s.region with staging := staging } r x ho hr hc he hl hb

theorem setStaging_of_same (staging : Staging) (h : s.region.staging = staging) : s.setStaging staging = s := by
  rw [State.setStaging, ← h]

/-! ### The table of R119 -/

theorem rangeFirstBody_of_staged (d : DirRequest) (h : s.region.staging ≠ .empty) :
    rangeFirstBody d s = (s.setStaging .empty).answerDirective d.tag .sequence [] := by
  rw [rangeFirstBody]
  cases staged : s.region.staging with
  | empty => exact absurd staged h
  | firstSet first => rfl
  | bothSet first last => rfl

theorem rangeFirstBody_of_empty (d : DirRequest) (h : s.region.staging = .empty) :
    rangeFirstBody d s = if d.field 0 4 < s.capacityPages
      then (s.setStaging (.firstSet (d.field 0 4))).answerDirective d.tag .done []
      else (s.setStaging .empty).answerDirective d.tag .badArgument [] := by
  rw [setStaging_of_same s .empty h, rangeFirstBody, h]

theorem rangeLastBody_of_firstSet (d : DirRequest) (first : Nat) (h : s.region.staging = .firstSet first) :
    rangeLastBody d s = if first ≤ d.field 0 4 ∧ d.field 0 4 < s.capacityPages
      then (s.setStaging (.bothSet first (d.field 0 4))).answerDirective d.tag .done []
      else (s.setStaging (.firstSet first)).answerDirective d.tag .badArgument [] := by
  rw [setStaging_of_same s _ h, rangeLastBody, h]

theorem rangeLastBody_of_sequence (d : DirRequest) (h : ∀ first, s.region.staging ≠ .firstSet first) :
    rangeLastBody d s = (s.setStaging .empty).answerDirective d.tag .sequence [] := by
  rw [rangeLastBody]
  cases staged : s.region.staging with
  | empty => rfl
  | firstSet first => exact absurd staged (h first)
  | bothSet first last => rfl

theorem rangeApplyBody_of_sequence (d : DirRequest) (h : ∀ first last, s.region.staging ≠ .bothSet first last) :
    rangeApplyBody d s = (s.setStaging .empty).answerDirective d.tag .sequence [] := by
  rw [rangeApplyBody]
  cases staged : s.region.staging with
  | empty => rfl
  | firstSet first => rfl
  | bothSet first last => exact absurd staged (h first last)

theorem rangeScrubBody_of_sequence (d : DirRequest) (h : ∀ first last, s.region.staging ≠ .bothSet first last) :
    rangeScrubBody d s = (s.setStaging .empty).answerDirective d.tag .sequence [] := by
  rw [rangeScrubBody]
  cases staged : s.region.staging with
  | empty => rfl
  | firstSet first => rfl
  | bothSet first last => exact absurd staged (h first last)

/-! ### RANGE_SCRUB of a staged range (R124) -/

theorem rangeScrubBody_of_active (d : DirRequest) (first last : Nat) (walker : Walker)
    (h : s.region.staging = .bothSet first last) (hw : s.region.walker = some walker) :
    rangeScrubBody d s = (s.setStaging .empty).answerDirective d.tag .busy [] := by
  rw [rangeScrubBody, h, hw]

theorem rangeScrubBody_of_inactive (d : DirRequest) (first last : Nat) (h : s.region.staging = .bothSet first last)
    (hw : s.region.walker = none) : rangeScrubBody d s = State.answerDirective { s with region := { s.region with
      staging := .empty, walker := some (Walker.start first last) } } d.tag .started [] := by
  rw [rangeScrubBody, h, hw]

end

end Sys2Proof.Machine

namespace Sys2Proof

open Machine

/-- Settles O43, by the staging that each directive finds. -/
theorem rangeStagingFollowsItsTable : Obligations.RangeStagingFollowsItsTable := by
  intro s d offered running ends
  refine ⟨fun page named length payload small => ?_, fun page named length payload small => ?_,
    fun attr named length payload unready => ?_, fun named length payload unready => ?_⟩
  · have answers (staging : Staging) (r : Result) := rangeDirective_restaged s .rangeFirst rangeFirstBody d staging r []
      offered running (by rw [named]; rfl) rfl (by rw [DirRequest.lengthOk, length, payload]; rfl)
    have field : d.field 0 4 = page := field_leBytes d 4 page payload small
    by_cases staged : s.region.staging = .empty
    · have body := rangeFirstBody_of_empty (s.tookDirective d.tag) d staged
      rw [field] at body
      rw [if_neg (not_not_intro staged)]
      by_cases inside : page < s.capacityPages
      · rw [if_pos inside]
        exact answers _ _ (body.trans (if_pos inside))
      · rw [if_neg inside]
        exact answers _ _ (body.trans (if_neg inside))
    · rw [if_pos staged]
      exact answers _ _ (rangeFirstBody_of_staged (s.tookDirective d.tag) d staged)
  · have answers (staging : Staging) (r : Result) := rangeDirective_restaged s .rangeLast rangeLastBody d staging r []
      offered running (by rw [named]; rfl) rfl (by rw [DirRequest.lengthOk, length, payload]; rfl)
    have field : d.field 0 4 = page := field_leBytes d 4 page payload small
    have sequence (h : ∀ first, s.region.staging ≠ .firstSet first) :=
      answers _ _ (rangeLastBody_of_sequence (s.tookDirective d.tag) d h)
    cases staged : s.region.staging with
    | empty => exact sequence (by simp [staged])
    | bothSet first last => exact sequence (by simp [staged])
    | firstSet first =>
      have body := rangeLastBody_of_firstSet (s.tookDirective d.tag) d first staged
      rw [field] at body
      by_cases inside : first ≤ page ∧ page < s.capacityPages
      · exact (answers _ _ (body.trans (if_pos inside))).trans (congrArg Host.Outcome.next (if_pos inside).symm)
      · exact (answers _ _ (body.trans (if_neg inside))).trans (congrArg Host.Outcome.next (if_neg inside).symm)
  · exact rangeDirective_restaged s .rangeApply rangeApplyBody d .empty .sequence [] offered running
      (by rw [named]; rfl) rfl (by rw [DirRequest.lengthOk, length, payload]; rfl)
      (rangeApplyBody_of_sequence (s.tookDirective d.tag) d unready)
  · exact rangeDirective_restaged s .rangeScrub rangeScrubBody d .empty .sequence [] offered running
      (by rw [named]; rfl) rfl (by rw [DirRequest.lengthOk, length, payload]; rfl)
      (rangeScrubBody_of_sequence (s.tookDirective d.tag) d unready)

/-- Settles O46. -/
theorem rangeScrubStartsTheWalker : Obligations.RangeScrubStartsTheWalker := by
  intro s d first last offered running named length payload staged
  have answers (region : RegionUnit) (r : Result) := rangeDirective_answered s .rangeScrub rangeScrubBody d region r []
    offered running (by rw [named]; rfl) rfl (by rw [DirRequest.lengthOk, length, payload]; rfl)
  cases walking : s.region.walker with
  | some walker =>
    exact answers _ _ (rangeScrubBody_of_active (s.tookDirective d.tag) d first last walker staged walking)
  | none => exact answers _ _ (rangeScrubBody_of_inactive (s.tookDirective d.tag) d first last staged walking)

end Sys2Proof
end

/-! ## RANGE_APPLY that needs no record -/

section
/-!
SUPPORT. What RANGE_APPLY judges of a lawful table where the table stays as it is, with O44 (R116, R121).
-/

namespace Sys2Proof.Machine

section
variable {table : List Region}

/-! ### What RANGE_APPLY judges (R121) -/

/-- The entries of a lawful table lie apart. -/
theorem regions_apart_of_lawful (h : regionsLawful table = true) :
    ∀ a ∈ table, ∀ b ∈ table, a ≠ b → a.last < b.first ∨ b.last < a.first := by
  let apart (a b : Region) : Prop := a.last < b.first ∨ b.last < a.first
  have symm : Std.Symm apart := ⟨fun _ _ => Or.symm⟩
  have ordered : table.Pairwise apart := ((regionsLawful_iff table).mp h).2.imp Or.inl
  exact fun a ha b hb => ordered.forall ha hb

/-- In a lawful table the entry at an index is the first that matches its range. -/
theorem exactIndex?_of_getElem? (h : regionsLawful table = true) (k : Nat) (r : Region) (hk : table[k]? = some r) :
    exactIndex? r.first r.last 0 table = some k := by
  obtain ⟨inside, there⟩ := List.getElem?_eq_some_iff.mp hk
  obtain ⟨ranges, pairs⟩ := (regionsLawful_iff table).mp h
  have mem : r ∈ table := List.mem_of_getElem? hk
  have first : table.findIdx (fun x => x.first == r.first && x.last == r.last) = k := by
    refine (List.findIdx_eq inside).mpr ⟨by simp [there], fun j before => ?_⟩
    have apart : table[j].last < table[k].first := List.pairwise_iff_getElem.mp pairs j k _ inside before
    have ranged := ranges r mem
    rw [there] at apart
    have unlike : table[j].last ≠ r.last := by omega
    simp [unlike]
  rw [exactIndex?_of_match r.first r.last 0 ⟨r, mem, rfl, rfl⟩, first, Nat.zero_add]

theorem judgeApply_badArgument (attr first last : Nat) (h : attr ∉ [0, 1, 2]) :
    judgeApply attr first last table = .answer .badArgument none := by
  simp only [List.mem_cons, List.not_mem_nil, or_false, not_or] at h
  simp only [judgeApply, h, if_false]

/-- GUARDED or FIXED on the entry that has it already. -/
theorem judgeProtect_done (h : regionsLawful table = true) (k : Nat) (r : Region) (hk : table[k]? = some r) :
    judgeProtect r.first r.last r.attr table = .answer .done (some (k, r)) := by
  have found := exactMatch?_of_mem h r (List.mem_of_getElem? hk)
  have index := exactIndex?_of_getElem? h k r hk
  obtain ⟨first, last, attr⟩ := r
  cases attr <;> simp only [judgeProtect, found, index, Option.getD_some]

/-- GUARDED or FIXED on a range that overlaps an entry without matching it. -/
theorem judgeProtect_overlap (h : regionsLawful table = true) (first last : Nat) (attr : RegionAttr) (r : Region)
    (hr : r ∈ table) (before : r.first ≤ last) (after : first ≤ r.last)
    (hm : ¬ (r.first = first ∧ r.last = last)) : judgeProtect first last attr table = .answer .overlap none := by
  have unmatched : exactMatch? first last table = none := (exactMatch?_eq_none_iff _ _ _).mpr fun x hx same => by
    have apart := regions_apart_of_lawful h x hx r hr (by rintro rfl; exact hm same)
    omega
  have overlapping : table.any (overlaps first last) = true :=
    List.any_eq_true.mpr ⟨r, hr, (overlaps_iff first last r).mpr ⟨after, before⟩⟩
  simp only [judgeProtect, unmatched, overlapping, if_true]

/-- GUARDED on a FIXED entry. -/
theorem judgeProtect_guarded_of_fixed (h : regionsLawful table = true) (first last : Nat)
    (hr : { first := first, last := last, attr := .fixed } ∈ table) :
    judgeProtect first last .guarded table = .answer .overlap none := by
  have found := exactMatch?_of_mem h _ hr
  have ranged := ((regionsLawful_iff table).mp h).1 _ hr
  have overlapping : table.any (overlaps first last) = true :=
    List.any_eq_true.mpr ⟨_, hr, (overlaps_iff first last _).mpr ⟨ranged, ranged⟩⟩
  simp only [judgeProtect, found, overlapping, if_true]

/-- GUARDED or FIXED on a range beside all entries of a table that has no room. -/
theorem judgeProtect_full (h : regionsLawful table = true) (first last : Nat) (attr : RegionAttr)
    (apart : ∀ r ∈ table, last < r.first ∨ r.last < first) (room : 16 ≤ table.length) :
    judgeProtect first last attr table = .answer .full none := by
  have unmatched : exactMatch? first last table = none := (exactMatch?_eq_none_iff _ _ _).mpr fun r hr same => by
    have ranged := ((regionsLawful_iff table).mp h).1 r hr
    have beside := apart r hr
    omega
  simp [judgeProtect, unmatched, (any_overlaps_eq_false_iff first last).mpr apart, room]

/-- NONE on a FIXED entry. -/
theorem judgeClear_refusedFixed (h : regionsLawful table = true) (first last : Nat)
    (hr : { first := first, last := last, attr := .fixed } ∈ table) :
    judgeClear first last table = .answer .refusedFixed none := by
  have found := exactMatch?_of_mem h _ hr
  simp only [judgeClear, found]

theorem judgeClear_noMatch (first last : Nat) (h : ∀ r ∈ table, ¬ (r.first = first ∧ r.last = last)) :
    judgeClear first last table = .answer .noMatch none := by
  simp only [judgeClear, (exactMatch?_eq_none_iff first last table).mpr h]

end

/-! ### The directive -/

/-- A RANGE_APPLY that needs no record is answered at once, with the matching entry if there is one. -/
theorem rangeApply_answered (s : State) (d : DirRequest) (attr : Byte) (first last : Nat) (r : Result)
    (entry : Option (Nat × Region)) (ho : s.offersDirective d = true) (hr : s.control.state = .running)
    (hc : d.code = 0x12#8) (hl : d.payloadLength = 1) (hp : d.payload = [attr])
    (hs : s.region.staging = .bothSet first last)
    (hj : judgeApply attr.toNat first last s.region.table = .answer r entry) :
    exec .rangeApply s = .next (State.judgeAlert { s with
      link := s.link.tookDirective [.directiveDone d.tag r
        (entry.elim [] fun x => regionEntryBytes x.1 (some x.2.attr) x.2.first x.2.last)],
      region := { s.region with staging := .empty } }) := by
  have field : d.field 0 1 = attr.toNat := field_byte d 0 attr (by rw [hp]; rfl)
  have body := rangeApplyBody_of_both (s.tookDirective d.tag) d first last hs
  rw [field, show (s.tookDirective d.tag).region.table = s.region.table from rfl, hj] at body
  refine rangeDirective_restaged s .rangeApply rangeApplyBody d .empty r _ ho hr (by rw [hc]; rfl) rfl
    (by rw [DirRequest.lengthOk, hl, hp]; rfl) (body.trans ?_)
  cases entry <;> rfl

end Sys2Proof.Machine

namespace Sys2Proof

open Machine

/-- Settles O44, one judgement of R121 for each clause. -/
theorem rangeApplyWithoutARecord : Obligations.RangeApplyWithoutARecord := by
  intro s d attr first last offered running named length payload staged lawful ends
  have answers (r : Result) (entry : Option (Nat × Region)) :=
    rangeApply_answered s d attr first last r entry offered running named length payload staged
  refine ⟨fun unknown => ?_, fun k a there same => ?_, fun r mem before after protects => ?_,
    fun protects apart full => ?_, fun clears mem => ?_, fun clears unmatched => ?_⟩
  · refine answers .badArgument none (judgeApply_badArgument _ first last fun mem => unknown ?_)
    simpa [← BitVec.toNat_inj] using mem
  · have judged := judgeProtect_done lawful k _ there
    rcases same with ⟨rfl, rfl⟩ | ⟨rfl, rfl⟩ <;> exact answers .done (some (k, _)) judged
  · rcases protects with ⟨rfl | rfl, unlike⟩ | ⟨rfl, rfl⟩
    · exact answers .overlap none (judgeProtect_overlap lawful first last .guarded r mem before after unlike)
    · exact answers .overlap none (judgeProtect_overlap lawful first last .fixed r mem before after unlike)
    · exact answers .overlap none (judgeProtect_guarded_of_fixed lawful first last mem)
  · have judged (a : RegionAttr) := judgeProtect_full lawful first last a apart full
    rcases protects with rfl | rfl
    · exact answers .full none (judged .guarded)
    · exact answers .full none (judged .fixed)
  · subst clears
    exact answers .refusedFixed none (judgeClear_refusedFixed lawful first last mem)
  · subst clears
    exact answers .noMatch none (judgeClear_noMatch first last unmatched)

end Sys2Proof
end

/-! ## REGION_LIST -/

section
/-!
SUPPORT. The entries that REGION_LIST reports, and O47 (R123, R143).
-/

namespace Sys2Proof.Machine

/-! ### The report (R123, R143) -/

theorem regionEntries_eq (k : Nat) (table : List Region) : regionEntries k table
    = (table.zipIdx k).flatMap (fun x => regionEntryBytes x.2 (some x.1.attr) x.1.first x.1.last) := by
  induction table generalizing k with
  | nil => rfl
  | cons r table ih => rw [regionEntries, ih, List.zipIdx_cons, List.flatMap_cons]

/-- The entries of a part of a list, each with its index in the whole. -/
theorem zipIdx_take_drop {α : Type} (start n : Nat) (xs : List α) :
    ((xs.drop start).take n).zipIdx start = (xs.zipIdx.drop start).take n := by
  refine List.ext_getElem? fun i => ?_
  by_cases h : i < n <;> simp [List.getElem?_zipIdx, List.getElem?_drop, h]

theorem regionListBytes_eq (start : Nat) (table : List Region) : regionListBytes start table
    = leBytes 1 table.length ++ leBytes 1 (min 4 (table.length - start)) ++ [0x00#8, 0x00#8]
      ++ ((table.zipIdx.drop start).take 4).flatMap (fun x =>
        leBytes 1 x.2 ++ [if x.1.attr = .guarded then 0x01#8 else 0x02#8, 0x00#8, 0x00#8]
          ++ leBytes 4 x.1.first ++ leBytes 4 x.1.last) := by
  have entry (x : Region × Nat) : regionEntryBytes x.2 (some x.1.attr) x.1.first x.1.last
      = leBytes 1 x.2 ++ [if x.1.attr = .guarded then 0x01#8 else 0x02#8, 0x00#8, 0x00#8]
        ++ leBytes 4 x.1.first ++ leBytes 4 x.1.last := by
    rw [regionEntryBytes_eq]
    cases x.1.attr <;> rfl
  rw [regionListBytes, regionEntries_eq, zipIdx_take_drop, List.length_take, List.length_drop]
  simp only [entry]
  rfl

theorem startIndexOk_iff (start : Byte) : startIndexOk start.toNat = true ↔ start ∈ [0#8, 4#8, 8#8, 12#8] := by
  simp [startIndexOk, ← BitVec.toNat_inj, or_assoc]

/-- REGION_LIST is admitted in RUNNING and DEGRADED alone (R150). -/
theorem admits_regionList_iff (s : State) :
    s.admits .regionList = true ↔ s.control.state = .running ∨ s.control.state = .degraded := by
  cases h : s.control.state <;> simp [State.admits, Directive.inDegraded, h]

end Sys2Proof.Machine

namespace Sys2Proof

open Machine

/-- Settles O47: the directive is refused by the bridge state, or judged by its start index and answered at once. -/
theorem regionListReportsFourEntries : Obligations.RegionListReportsFourEntries := by
  intro s d start offered named length payload
  have code : directiveOf? d.code = some .regionList := by rw [named]; rfl
  have fits : d.lengthOk .regionList = true := by rw [DirRequest.lengthOk, length, payload]; rfl
  have field : d.field 0 1 = start.toNat := field_byte d 0 start (by rw [payload]; rfl)
  rw [exec, execRegionList]
  by_cases serving : s.control.state = .running ∨ s.control.state = .degraded
  · have started : s.control.state ≠ .starting := by rcases serving with h | h <;> simp [h]
    have carriedOut := (judgeDirective_of_exempt (s.tookDirective d.tag) .regionList d regionListBody rfl fits).trans
      (if_pos ((admits_regionList_iff _).mpr serving))
    rw [regionListBody, field] at carriedOut
    rw [directive_offered s .regionList regionListBody d offered code, carriedOut, if_neg started,
      if_neg (not_not_intro serving), ← regionListBytes_eq]
    by_cases listed : start ∈ [0#8, 4#8, 8#8, 12#8]
    · rw [if_pos ((startIndexOk_iff start).mpr listed), if_pos listed]
      exact congrArg Host.Outcome.next (settle_answeredDirective s d .done _ offered)
    · rw [if_neg (listed ∘ (startIndexOk_iff start).mp), if_neg listed]
      exact congrArg Host.Outcome.next (settle_answeredDirective s d .badArgument [] offered)
  · rw [directive_refused s .regionList d regionListBody offered code (serving ∘ (admits_regionList_iff s).mp),
      if_pos serving]
    by_cases starting : s.control.state = .starting
    · rw [if_pos starting, if_pos starting]
      rfl
    · rw [if_neg starting, if_neg starting]
      rfl

end Sys2Proof
end

/-! ## The packets of the Host Link -/

section
/-!
SUPPORT. Little-endian fields and tag bytes, how the packets of the host are read and those of the bridge are laid out
(R142), with O8 and O13.
-/

namespace Sys2Proof.Machine

/-! ### Fields (R142) -/

/-- A field that holds the little-endian bytes of a number of its width is read as that number. -/
theorem leNat_of_leBytes (width : Nat) {n : Nat} {bytes : List Byte} (h : bytes = leBytes width n)
    (small : n < 256 ^ width) : leNat bytes = n := by
  rw [h, leNat_leBytes, Nat.mod_eq_of_lt small]

/-- A number in the lower bits of a byte or a word. -/
theorem toNat_append_ofNat {m k : Nat} (high : BitVec m) (n : Nat) (h : n < 2 ^ k) :
    (high ++ BitVec.ofNat k n).toNat = high.toNat * 2 ^ k + n := by
  rw [BitVec.toNat_append, ← Nat.shiftLeft_add_eq_or_of_lt (BitVec.isLt _), Nat.shiftLeft_eq, BitVec.toNat_ofNat,
    Nat.mod_eq_of_lt h]

theorem toNat_byte (n : Nat) (h : n < 256) : (BitVec.ofNat 8 n).toNat = n := Nat.mod_eq_of_lt h

/-- A tag is read from its byte whatever the upper two bits are. -/
theorem tagByte_mod (high : BitVec 2) (tag : Nat) (h : tag < 64) : (tagByte high tag).toNat % 64 = tag := by
  rw [tagByte, toNat_append_ofNat high tag h]
  omega

theorem Result.code_lt (result : Result) : result.code < 256 := by cases result <;> decide

/-! ### Requests (R131, R142) -/

/-- A 36-bit address is read from four bytes and the lower half of a fifth. -/
theorem leNat_address (address : Nat) (top : BitVec 4) (h : address < 2 ^ 36) :
    leNat (leBytes 4 address ++ [top ++ BitVec.ofNat 4 (address / 2 ^ 32)]) % 2 ^ 36 = address := by
  have upper := toNat_append_ofNat (k := 4) top (address / 2 ^ 32) (by omega)
  simp only [leBytes, List.cons_append, List.nil_append, leNat, BitVec.toNat_ofNat, upper]
  omega

theorem parsePacket_read {packet : List Byte} {tag length address extra : Nat} (kind : headerByte packet 0 = 0x01#8)
    (htag : packetTag packet = tag) (hlength : (headerByte packet 2).toNat = length)
    (haddress : packetAddress packet = address) (hextra : packet.length - 12 = extra) :
    parsePacket packet = .memory (.read { tag, length, address, extra }) := by
  subst htag hlength haddress hextra
  exact if_pos kind

theorem parsePacket_write {packet data : List Byte} {tag length address : Nat} {fence notify : Bool}
    (kind : headerByte packet 0 = 0x02#8) (htag : packetTag packet = tag)
    (hlength : (headerByte packet 2).toNat = length) (hfence : (headerByte packet 3).getLsbD 0 = fence)
    (hnotify : (headerByte packet 3).getLsbD 1 = notify) (haddress : packetAddress packet = address)
    (hdata : packet.drop 12 = data) :
    parsePacket packet = .memory (.write { tag, length, fence, notify, address, data }) := by
  subst htag hlength hfence hnotify haddress hdata
  rw [parsePacket, kind, if_neg (by decide), if_pos rfl]

theorem parsePacket_directive {packet payload : List Byte} {tag payloadLength : Nat} {code : Byte}
    (kind : headerByte packet 0 = 0x03#8) (htag : packetTag packet = tag) (hcode : headerByte packet 2 = code)
    (hlength : (headerByte packet 3).toNat = payloadLength) (hpayload : packet.drop 4 = payload) :
    parsePacket packet = .directive { tag, code, payloadLength, payload } := by
  subst htag hcode hlength hpayload
  rw [parsePacket, kind, if_neg (by decide), if_neg (by decide), if_pos rfl]

theorem parsePacket_unknown (kind : Byte) (rest : List Byte) (read : kind ≠ 0x01#8) (write : kind ≠ 0x02#8)
    (directive : kind ≠ 0x03#8) : parsePacket (kind :: rest) = .unknownKind :=
  (if_neg read).trans ((if_neg write).trans (if_neg directive))

end Sys2Proof.Machine

namespace Sys2Proof

open Machine

/-- Settles O8: each field of a request is read from its own bytes alone. -/
theorem requestPacketsAreReadByTheirLayouts : Obligations.RequestPacketsAreReadByTheirLayouts := by
  refine ⟨fun high tag length address top z₃ z₉ z₁₀ z₁₁ extra htag hlength haddress => ?read,
    fun high tag length address fence notify others top z₉ z₁₀ z₁₁ data htag hlength haddress => ?write,
    fun high tag n code payload htag hn => ?directive, parsePacket_unknown⟩
  case read =>
    exact parsePacket_read rfl (tagByte_mod high tag htag) (toNat_byte _ hlength)
      (leNat_address address top haddress) rfl
  case write =>
    exact parsePacket_write rfl (tagByte_mod high tag htag) (toNat_byte _ hlength) BitVec.getLsbD_concat_zero
      (BitVec.getLsbD_concat_succ.trans BitVec.getLsbD_concat_zero) (leNat_address address top haddress) rfl
  case directive =>
    exact parsePacket_directive rfl (tagByte_mod high tag htag) rfl (toNat_byte _ hn) rfl

/-- Settles O13: each field is the little-endian bytes that stand at its offset. -/
theorem sentPacketsFollowTheirLayouts : Obligations.SentPacketsFollowTheirLayouts := by
  refine ⟨fun high tag result data htag hdata => ⟨?readData, ?directiveDone, ?writeDone⟩, ?persisted, ?rangeDone,
    ?credit, rfl⟩
  case readData =>
    rintro p rfl
    exact ⟨Nat.add_comm data.length 4, rfl, tagByte_mod high tag htag, leNat_of_leBytes 1 rfl result.code_lt,
      leNat_of_leBytes 1 rfl hdata, rfl⟩
  case directiveDone =>
    rintro p rfl
    exact ⟨Nat.add_comm data.length 4, rfl, tagByte_mod high tag htag, leNat_of_leBytes 1 rfl result.code_lt,
      leNat_of_leBytes 1 rfl hdata, rfl⟩
  case writeDone =>
    rintro p fence hfence rfl
    exact ⟨rfl, rfl, tagByte_mod high tag htag, leNat_of_leBytes 1 rfl result.code_lt, rfl,
      leNat_of_leBytes 2 rfl hfence⟩
  case persisted =>
    rintro high p fence lossy hfence rfl
    exact ⟨rfl, rfl, rfl, leNat_of_leBytes 2 rfl hfence, by cases lossy <;> rfl⟩
  case rangeDone =>
    rintro high p abandoned zeroed skipped hzeroed hskipped rfl
    exact ⟨rfl, rfl, by cases abandoned <;> rfl, rfl, leNat_of_leBytes 4 rfl hzeroed, leNat_of_leBytes 4 rfl hskipped⟩
  case credit =>
    rintro high p lane full count hcount rfl
    exact ⟨rfl, rfl, by cases lane <;> rfl, by cases full <;> rfl, leNat_of_leBytes 1 rfl hcount⟩

end Sys2Proof
end

/-! ## The status record and the incident records -/

section
/-!
SUPPORT. The status record and the incident record field by field (R146, R147, R158, R160), with O52 and O54.
-/

namespace Sys2Proof.Machine

/-! ### Records of fields -/

/-- The bytes of fields that stand one after another, each given by its width and its number. -/
def fieldBytes (fields : List (Nat × Nat)) : List Byte := fields.flatMap (fun f => leBytes f.1 f.2)

theorem length_fieldBytes {fields : List (Nat × Nat)} {widths : List Nat} (layout : fields.map Prod.fst = widths) :
    (fieldBytes fields).length = widths.sum := by
  simp only [← layout, fieldBytes, List.length_flatMap, length_leBytes]

/-- A field stands at the sum of the widths before it, and is read as its number. -/
theorem field_fieldBytes {fields : List (Nat × Nat)} {widths : List Nat} (layout : fields.map Prod.fst = widths)
    (k : Nat) {offset width n : Nat} (here : fields[k]? = some (width, n)) (small : n < 256 ^ width)
    (before : (widths.take k).sum = offset := by decide) :
    leNat (((fieldBytes fields).drop offset).take width) = n := by
  subst layout before
  induction fields generalizing k with
  | nil => cases here
  | cons f fields ih =>
    have split : fieldBytes (f :: fields) = leBytes f.1 f.2 ++ fieldBytes fields := rfl
    cases k with
    | zero =>
      cases here
      exact leNat_of_leBytes width (List.take_left' (length_leBytes width n)) small
    | succ k =>
      rw [List.map_cons, List.take_succ_cons, List.sum_cons, split, ← List.drop_drop,
        List.drop_left' (length_leBytes f.1 f.2)]
      exact ih k here

theorem byte_of_le {n m : Nat} (h : n ≤ m) (small : m < 256 := by decide) : n < 256 ^ 1 := h.trans_lt small

theorem half_of_le {n : Nat} (h : n ≤ 65535) : n < 256 ^ 2 := h.trans_lt (by decide)

theorem word_of_lt {n : Nat} (h : n < 2 ^ 32) : n < 256 ^ 4 := h.trans_eq (by decide)

/-! ### Codes (R146, R147) -/

theorem BridgeState.code_lt (state : BridgeState) : state.code < 256 := by cases state <;> decide

theorem FaultReason.code_lt (reason : FaultReason) : reason.code < 256 := by cases reason <;> decide

theorem PreviousOutcome.code_lt (outcome : PreviousOutcome) : outcome.code < 256 := by cases outcome <;> decide

theorem IncidentKind.code_lt (kind : IncidentKind) : kind.code < 256 := by cases kind <;> decide

/-! ### Counts (R4, R81, R158) -/

section
variable (s : State)

theorem freeCount_eq : s.freeCount = (allSlots.filter (fun i => (s.slot i).state == .free)).length := by
  have slots : s.absorb.slots.toList = allSlots.map s.slot :=
    List.ext_getElem (by simp [allSlots_eq_finRange]) fun k _ _ => by simp [allSlots_eq_finRange, State.slot]
  rw [State.freeCount, slots, List.countP_map, List.countP_eq_length_filter]
  rfl

theorem freeCount_le : s.freeCount ≤ 32 := by
  rw [freeCount_eq]
  exact List.length_filter_le _ allSlots

theorem strandedCount_le : s.strandedCount ≤ 32 := by
  rw [strandedCount_eq]
  exact List.length_filter_le _ allSlots

theorem freeSpareCount_eq (b : BankId) :
    s.freeSpareCount b = (s.remap.free[b.val].filter (fun e => e.claim.isNone)).length :=
  List.countP_eq_length_filter

theorem reportedSpares_eq (b : BankId) : s.reportedSpares b = if b.val < s.bankCount ∧ s.remap.derived = true then
    (s.remap.free[b.val].filter (fun e => e.claim.isNone)).length else 0 := by
  simp only [State.reportedSpares, freeSpareCount_eq, Bool.and_eq_true, decide_eq_true_eq]

theorem reportedSpares_le (b : BankId) : s.reportedSpares b ≤ (s.remap.free[b.val]).length := by
  rw [State.reportedSpares]
  split
  · exact List.countP_le_length
  · exact Nat.zero_le _

/-- The widths of the fields of the status record (R146). -/
def statusWidths : List Nat := [1, 1, 1, 1, 4, 2, 2, 1, 1, 1, 1, 1, 1, 2, 1, 1, 1, 1, 1, 1, 1, 1, 4, 4, 1, 3]

/-- The fields of the status record in their order (R146). -/
def State.statusFields (s : State) (live : BitVec 32) : List (Nat × Nat) :=
  [(1, s.control.state.code), (1, s.control.faultReason.code), (1, s.control.previous.outcome.code),
    (1, s.tracker.epochs.length), (4, s.control.session.toNat), (2, s.tracker.lastPersisted),
    (2, s.tracker.fenceCounter), (1, s.freeCount), (1, s.strandedCount), (1, s.remap.lost.length),
    (1, s.region.table.length), (1, s.engine.incidents.length), (1, s.bankCount),
    (2, s.control.previous.lastPersisted)]
    ++ allBanks.map (fun b => (1, s.reportedSpares b))
    ++ [(4, s.engine.latched.toNat), (4, live.toNat), (1, s.control.previous.stranded), (3, 0)]

theorem statusRecord_eq (live : BitVec 32) : s.statusRecord live = fieldBytes (s.statusFields live) := by
  delta State.statusRecord
  simp only [State.statusFields, fieldBytes, List.flatMap_append, List.flatMap_cons, List.flatMap_nil, List.flatMap_map,
    List.append_nil, List.append_assoc]

theorem statusFields_widths (live : BitVec 32) : (s.statusFields live).map Prod.fst = statusWidths := rfl

end

/-! ### The present set (R147, R160) -/

theorem presentBit_eq (k : Nat) (x : Option Nat) : presentBit k x = if x = none then 0 else 2 ^ k := by
  cases x <;> rfl

theorem presentBit_le (k : Nat) (x : Option Nat) : presentBit k x ≤ 2 ^ k := by
  cases x <;> simp [presentBit]

/-- The bits of the fields that an incident carries. -/
def Incident.carried (i : Incident) : Nat :=
  presentBit 0 i.page + presentBit 1 i.bank + presentBit 2 i.slot + presentBit 3 i.tag + presentBit 4 i.spareOld
    + presentBit 6 i.region + presentBit 7 i.metadataPage + presentBit 8 i.operation + presentBit 9 i.index

/-- The present set is the bits of the fields carried, with the one free bit of its kind or without it (log entry 6). -/
theorem presentSet_cases (i : Incident) (h : i.kind = .protectedWrite → i.tag = none) : i.presentSet = i.carried
    ∨ (i.kind = .remapped ∧ i.presentSet = i.carried + 2 ^ 5)
    ∨ (i.kind = .protectedWrite ∧ i.presentSet = i.carried + 2 ^ 3) := by
  rw [Incident.presentSet, Incident.carried]
  by_cases protects : i.kind = .protectedWrite
  · have tagless : presentBit 3 i.tag = 0 := by rw [h protects]; rfl
    have other : i.kind ≠ .remapped := by rw [protects]; decide
    rw [if_pos protects, if_neg other, tagless]
    split
    · exact .inr (.inr ⟨protects, by omega⟩)
    · exact .inl rfl
  · rw [if_neg protects]
    split
    · next remaps =>
      split
      · exact .inr (.inl ⟨remaps, by omega⟩)
      · exact .inl rfl
    · exact .inl rfl

theorem presentSet_lt (i : Incident) (h : i.kind = .protectedWrite → i.tag = none) : i.presentSet < 256 ^ 2 := by
  have carried : i.carried ≤ 2 ^ 10 := by
    have page := presentBit_le 0 i.page
    have bank := presentBit_le 1 i.bank
    have slot := presentBit_le 2 i.slot
    have tag := presentBit_le 3 i.tag
    have spareOld := presentBit_le 4 i.spareOld
    have region := presentBit_le 6 i.region
    have metadataPage := presentBit_le 7 i.metadataPage
    have operation := presentBit_le 8 i.operation
    have index := presentBit_le 9 i.index
    rw [Incident.carried]
    omega
  rcases presentSet_cases i h with same | ⟨-, more⟩ | ⟨-, more⟩ <;> omega

/-! ### The incident record (R147) -/

/-- The widths of the fields of an incident record (R147). -/
def incidentWidths : List Nat := [1, 2, 1, 4, 4, 2, 2, 1, 1, 1, 1]

/-- The fields of an incident record in their order (R147). -/
def Incident.fields (i : Incident) : List (Nat × Nat) :=
  [(1, i.kind.code), (2, i.presentSet), (1, 0), (4, i.page.getD 0), (4, i.index.getD 0), (2, i.fence),
    (2, i.operation.getD 0), (1, i.bank.getD 0), (1, i.slot.getD 0), (1, i.tag.getD (i.region.getD 0)),
    (1, i.spareOld.getD (i.metadataPage.getD 0))]

theorem incidentFields_widths (i : Incident) : i.fields.map Prod.fst = incidentWidths := rfl

/-- Of two fields that share a byte, at most one of them carried, either may be asked first. -/
theorem getD_getD_comm (x y : Option Nat) (h : x = none ∨ y = none) : x.getD (y.getD 0) = y.getD (x.getD 0) := by
  rcases h with rfl | rfl <;> simp

theorem incidentBytes_eq (i : Incident) (tagged : i.tag = none ∨ i.region = none)
    (paged : i.metadataPage = none ∨ i.spareOld = none) : i.bytes = fieldBytes i.fields := by
  delta Incident.bytes
  simp only [Incident.fields, getD_getD_comm _ _ tagged, getD_getD_comm _ _ paged.symm, fieldBytes, List.flatMap_cons,
    List.flatMap_nil, List.append_nil, List.append_assoc]
  cases i.region <;> cases i.metadataPage <;> rfl

theorem getD_lt (x y : Option Nat) (n : Nat) (hx : x.getD 0 < n) (hy : y.getD 0 < n) : x.getD (y.getD 0) < n := by
  cases x
  · exact hy
  · exact hx

end Sys2Proof.Machine

namespace Sys2Proof

open Machine

/-- Settles O52: the record is the bytes of its fields, and each stands at the sum of the widths before it. -/
theorem statusRecordHoldsEachField : Obligations.StatusRecordHoldsEachField := by
  refine ⟨rfl, rfl, rfl, ?_⟩
  intro s live epochs persisted fences lost regions incidents banks previous stranded spares
  rw [statusRecord_eq, ← freeCount_eq, ← strandedCount_eq]
  have layout := statusFields_widths s live
  have spare (b : BankId) :
      leNat (((fieldBytes (s.statusFields live)).drop (20 + b.val)).take 1) = s.reportedSpares b :=
    field_fieldBytes layout (14 + b.val) (by fin_cases b <;> rfl)
      (byte_of_le ((reportedSpares_le s b).trans (spares b))) (by revert b; decide)
  exact ⟨length_fieldBytes layout,
    field_fieldBytes layout 0 rfl s.control.state.code_lt,
    field_fieldBytes layout 1 rfl s.control.faultReason.code_lt,
    field_fieldBytes layout 2 rfl s.control.previous.outcome.code_lt,
    field_fieldBytes layout 3 rfl (byte_of_le epochs),
    field_fieldBytes layout 4 rfl (word_of_lt (BitVec.isLt _)),
    field_fieldBytes layout 5 rfl (half_of_le persisted),
    field_fieldBytes layout 6 rfl (half_of_le fences),
    field_fieldBytes layout 7 rfl (byte_of_le (freeCount_le s)),
    field_fieldBytes layout 8 rfl (byte_of_le (strandedCount_le s)),
    field_fieldBytes layout 9 rfl (byte_of_le lost),
    field_fieldBytes layout 10 rfl (byte_of_le regions),
    field_fieldBytes layout 11 rfl (byte_of_le incidents),
    field_fieldBytes layout 12 rfl (byte_of_le banks),
    field_fieldBytes layout 13 rfl (half_of_le previous),
    fun b => (spare b).trans (reportedSpares_eq s b),
    field_fieldBytes layout 22 rfl (word_of_lt (BitVec.isLt _)),
    field_fieldBytes layout 23 rfl (word_of_lt (BitVec.isLt _)),
    field_fieldBytes layout 24 rfl (byte_of_le stranded),
    field_fieldBytes layout 25 rfl (by decide)⟩

/-- Settles O54: the record is the bytes of its fields, those that share a byte being carried one at a time. -/
theorem incidentRecordHoldsEachField : Obligations.IncidentRecordHoldsEachField := by
  intro i tagged paged protects page index fence operation bank slot tag metadataPage spareOld region
  have layout := incidentFields_widths i
  have set := presentSet_cases i protects
  simp only [Incident.carried, presentBit_eq] at set
  have present : leNat (((fieldBytes i.fields).drop 1).take 2) = i.presentSet :=
    field_fieldBytes layout 1 rfl (presentSet_lt i protects)
  rw [← present] at set
  rw [incidentBytes_eq i tagged paged]
  exact ⟨length_fieldBytes layout,
    (field_fieldBytes layout 0 rfl i.kind.code_lt).trans (by cases i.kind <;> rfl),
    set,
    field_fieldBytes layout 2 rfl (by decide),
    field_fieldBytes layout 3 rfl (word_of_lt page),
    field_fieldBytes layout 4 rfl (word_of_lt index),
    field_fieldBytes layout 5 rfl (half_of_le (Nat.le_of_lt_succ fence)),
    field_fieldBytes layout 6 rfl (half_of_le (Nat.le_of_lt_succ operation)),
    field_fieldBytes layout 7 rfl (byte_of_le bank.le),
    field_fieldBytes layout 8 rfl (byte_of_le slot.le),
    field_fieldBytes layout 9 rfl (byte_of_le (getD_lt _ _ 64 tag (region.trans (by decide))).le),
    field_fieldBytes layout 10 rfl (byte_of_le (getD_lt _ _ 128 (spareOld.trans (by decide)) metadataPage).le)⟩

end Sys2Proof
end

/-! ## Requests and RESET_N -/

section
/-!
SUPPORT. The arrival, the taking and the discarding of a request, the order in which a write is judged, and what RESET_N
holds and begins, with O4, O5, O9 to O12 and O21.
-/

namespace Sys2Proof.Machine

section
variable (s : State)

/-! ### Nothing is taken (R137, R140, R164) -/

theorem canTake_of_reset (h : s.pins.resetAsserted = true) : s.canTake = false := by
  simp [State.canTake, h]

theorem canTake_of_crowded (h : 24 < s.link.responses.length) : s.canTake = false := by
  simp [State.canTake, h]

theorem readTake_untaken (h : s.canTake = false) : exec .readTake s = .next s := by
  have none : s.readDue? = none := by
    rw [State.readDue?]
    split <;> simp [h]
  rw [exec, execReadTake, none]

theorem writeTake_untaken (h : s.canTake = false) : exec .writeTake s = .next s := by
  have none : s.writeDue? = none := by
    rw [State.writeDue?]
    split <;> simp [h]
  rw [exec, execWriteTake, none]

theorem directiveDue?_untaken (h : s.canTake = false) : s.directiveDue? = none := by
  rw [State.directiveDue?]
  split <;> simp [h]

theorem unknownDirective_untaken (h : s.canTake = false) : exec .unknownDirective s = .next s := by
  rw [exec, execUnknownDirective, State.unknownDue?, directiveDue?_untaken s h]

theorem directive_untaken (c : Instr) (hc : c.directive?.isSome = true) (h : s.canTake = false) :
    exec c s = .next s := by
  obtain ⟨which, named⟩ := Option.isSome_iff_exists.mp hc
  rw [exec_of_directive c which named, execDirective, State.dueAs?, directiveDue?_untaken s h]

/-- While RESET_N is asserted a command that is not of the lines finds nothing to take, or does not act. -/
theorem exec_of_reset (c : Instr) (h : s.pins.resetAsserted = true) (hc : c.drivesLine = false) :
    exec c s = .next s := by
  have stays (occasion : Bool) (t : State) : Host.Outcome.next (s.act occasion t)
      = (.next s : Host.Outcome State Fault Refusal) := congrArg _ (act_reset s occasion t h)
  have full := canTake_of_reset s h
  cases c with
  | hostRequestArrival packet => exact stays _ _
  | readTake => exact readTake_untaken s full
  | writeTake => exact writeTake_untaken s full
  | stalledWriteAbsorb =>
    rw [exec, execStalledWriteAbsorb]
    split
    · exact stays _ _
    · rfl
  | closeTimerExpiry slot => exact stays _ _
  | readDone bank tag outcome => exact stays _ _
  | readTimerExpiry bank => exact stays _ _
  | programDone bank tag outcome => exact stays _ _
  | programTimerExpiry bank => exact stays _ _
  | suspendAck bank tag answer => exact stays _ _
  | resetDone bank => exact stays _ _
  | resetTimerExpiry bank => exact stays _ _
  | metadataRequestJoin requester =>
    rw [exec, execMetadataRequestJoin]
    split
    · exact stays _ _
    · rfl
  | identifyDone bankCount exponent spares version => exact stays _ _
  | identifyTimerExpiry => exact stays _ _
  | resetNAssert => cases hc
  | resetNRelease => cases hc
  | powerWarnAssert => cases hc
  | powerWarnDeassert => cases hc
  | unknownDirective => exact unknownDirective_untaken s full
  | scrubVisit =>
    rw [exec, execScrubVisit]
    split
    · exact stays _ _
    · rfl
  | packetSend => exact stays _ _
  | _ => exact directive_untaken s _ rfl full

/-! ### Arrival (R130, R131) -/

/-- An arrival that leaves nothing due. -/
theorem hostRequestArrival_ready (packet : List Byte) (t : State) (h : s.ready = true) (ha : s.arrive packet = t)
    (hq : t.quiet = true) : exec (.hostRequestArrival packet) s = .next t.judgeAlert := by
  subst ha
  exact congrArg _ (act_settled s _ h hq)

theorem arrive_memory (packet : List Byte) (r : MemRequest) (h : parsePacket packet = .memory r) :
    s.arrive packet = s.arriveMemory r := by
  rw [State.arrive, h]

theorem arrive_directive (packet : List Byte) (d : DirRequest) (h : parsePacket packet = .directive d) :
    s.arrive packet = s.arriveDirective d := by
  rw [State.arrive, h]

theorem arrive_unknown (packet : List Byte) (h : parsePacket packet = .unknownKind) :
    s.arrive packet = s.latch .linkOverrun := by
  rw [State.arrive, h]

/-! ### Tags that are outstanding (R134) -/

/-- A condition that is latched with its incident: it joins the queue, or INCIDENT_OVERFLOW is latched too (R160). -/
theorem raise_latch (c : Condition) (x : Incident) : (s.latch c).raise x = { s with engine := { s.engine with
    latched := s.engine.latched ||| (if s.engine.incidents.length < 16 then c.mask else c.mask ||| 0x80#32),
    incidents := if s.engine.incidents.length < 16 then
        s.engine.incidents ++ [{ x with fence := s.tracker.fenceCounter }]
      else s.engine.incidents } } := by
  by_cases room : s.engine.incidents.length < 16
  · simp only [room, if_true]
    exact if_pos room
  · simp only [room, if_false, ← BitVec.or_assoc]
    exact if_neg room

/-- The state in which a request of a lane has been discarded: TAG_CLASH and its incident, or INCIDENT_OVERFLOW. -/
def State.clashed (s : State) (tag lane : Nat) : State :=
  { s with engine := { s.engine with
      latched := s.engine.latched ||| (if s.engine.incidents.length < 16 then 0x2#32 else 0x82#32),
      incidents := if s.engine.incidents.length < 16 then
          s.engine.incidents ++ [{ kind := .tagClash, fence := s.tracker.fenceCounter, tag := some tag,
                                   operation := some lane }]
        else s.engine.incidents } }

theorem examineTag_clashed (lane : Lane) (tag : Nat) (f : State → State) (h : tag ∈ s.link.tags) :
    s.examineTag lane tag f = s.clashed tag lane.code := by
  rw [examineTag_clash s lane tag f h, raise_latch]
  cases lane <;> rfl

/-- The command that takes a request of the memory lane (R132). -/
def MemRequest.takenBy : MemRequest → Instr
  | .read _ => .readTake
  | .write _ => .writeTake

/-- A request of the memory lane whose tag is outstanding, taken. -/
theorem memoryTake_clashes (r : MemRequest) (rest : List MemRequest) (h : s.ready = true)
    (hr : s.link.responses.length ≤ 24) (empty : s.link.head = none) (lane : s.link.memLane = r :: rest)
    (clash : r.tag ∈ s.link.tags) : exec r.takenBy s
      = .next (State.judgeAlert (State.clashed { s with link := s.link.tookMemory [] } r.tag 0)) := by
  have takes : s.canTake = true := by simp [State.canTake, ready_released s h, hr]
  have quiet : (State.clashed { s with link := s.link.tookMemory [] } r.tag 0).quiet = true := ready_quiet s h
  cases r with
  | read r =>
    have due : s.readDue? = some r := by simp [State.readDue?, empty, lane, takes]
    simp only [MemRequest.takenBy, exec, execReadTake, due, State.takeRead]
    rw [examineTag_clashed s.popMemory .memory r.tag _ clash]
    exact congrArg _ (act_settled s _ h quiet)
  | write w =>
    have due : s.writeDue? = some w := by simp [State.writeDue?, empty, lane, takes]
    simp only [MemRequest.takenBy, exec, execWriteTake, due, State.takeWrite]
    rw [examineTag_clashed s.popMemory .memory w.tag _ clash]
    exact congrArg _ (act_settled s _ h quiet)

/-- A directive whose tag is outstanding, taken. -/
theorem directiveTake_clashes (c : Instr) (d : DirRequest) (rest : List DirRequest) (h : s.ready = true)
    (hr : s.link.responses.length ≤ 24) (free : s.engine.current = .absent) (lane : s.link.dirLane = d :: rest)
    (clash : d.tag ∈ s.link.tags) (hc : c.directive?.isSome = true) (named : directiveOf? d.code = c.directive?) :
    exec c s = .next (State.judgeAlert (State.clashed { s with link := s.link.tookDirective [] } d.tag 1)) := by
  obtain ⟨which, command⟩ := Option.isSome_iff_exists.mp hc
  have takes : s.canTake = true := by simp [State.canTake, ready_released s h, hr]
  have quiet : (State.clashed { s with link := s.link.tookDirective [] } d.tag 1).quiet = true := ready_quiet s h
  have due : s.dueAs? which = some d := by
    simp [State.dueAs?, State.directiveDue?, free, lane, takes, named.trans command]
  rw [exec_of_directive c which command]
  simp only [execDirective, due, State.takeDirective]
  rw [examineTag_clashed s.popDirective .directive d.tag _ clash]
  exact congrArg _ (act_settled s _ h quiet)

/-! ### The checks of a write (R117, R135) -/

/-- The checks of R135 as propositions. -/
theorem judgeWrite_eq (w : WriteRequest) : s.judgeWrite w =
    if w.length = 0 ∨ 64 < w.length ∨ w.data.length ≠ w.length then s.answerWrite w.tag .malformed
    else if w.notify = true ∧ w.fence = false then s.answerWrite w.tag .malformed
    else if 64 < w.address % 64 + w.length then s.answerWrite w.tag .misaligned
    else if s.control.state = .starting then s.answerWrite w.tag .starting
    else if s.control.state ≠ .running then s.answerWrite w.tag .halted
    else if 256 * s.capacityPages ≤ w.address then s.answerWrite w.tag .outOfRange
    else (s.coveringRegion? (w.address / 256)).elim (s.absorbOrWait w) (s.protectWrite w) := by
  have flags : (w.notify && !w.fence) = true ↔ w.notify = true ∧ w.fence = false := by simp
  simp only [State.judgeWrite, State.capacityBytes, flags]
  cases s.coveringRegion? (w.address / 256) <;> rfl

/-- A write just taken that is answered without being absorbed: the command ends with nothing due. -/
theorem settle_answeredWrite (w : WriteRequest) (result : Result) (h : s.offersMemory (.write w) = true) :
    ((s.tookMemory w.tag).answerWrite w.tag result).settle
      = State.judgeAlert { s with link := s.link.tookMemory [.writeDone w.tag result 0] } := by
  obtain ⟨ready, -, -, -, fresh⟩ := offersMemory_cases s _ h
  rw [State.answerWrite, respond_tookMemory s w.tag _ fresh]
  exact settle_of_quiet _ (ready_quiet s ready)

/-- A write just taken whose page a region covers. -/
theorem settle_protected (w : WriteRequest) (region : Nat) (h : s.offersMemory (.write w) = true) :
    ((s.tookMemory w.tag).protectWrite w region).settle = State.judgeAlert { s with
      link := s.link.tookMemory [.writeDone w.tag .protectedPage 0],
      engine := { s.engine with
        latched := s.engine.latched ||| (if s.engine.incidents.length < 16 then 0x1#32 else 0x81#32),
        incidents := if s.engine.incidents.length < 16 then
            s.engine.incidents ++ [{ kind := .protectedWrite, fence := s.tracker.fenceCounter,
                                     page := some (w.address / 256), region := some region,
                                     operation := some w.tag }]
          else s.engine.incidents } } := by
  obtain ⟨ready, -, -, -, fresh⟩ := offersMemory_cases s _ h
  have answered : (s.tookMemory w.tag).answerWrite w.tag .protectedPage = _ := respond_tookMemory s w.tag _ fresh
  rw [State.protectWrite, answered, raise_latch]
  exact settle_of_quiet _ (ready_quiet s ready)

/-! ### The release of RESET_N (R140, R164, R165) -/

/-- A command that leaves stage 1 begun ends with ALERT judged and no more. -/
theorem settle_of_resetBanks (stopAsked : Bool) (hd : s.control.drain = none)
    (hs : s.control.startup = some { stage := .resetBanks, stopAsked := stopAsked }) : s.settle = s.judgeAlert := by
  rw [State.settle, judgeDrain_of_none s hd, advanceStartup_of_resetBanks s stopAsked hs]

/-- The banks of a hard reset, each sent BANK_RESET. -/
theorem banks_resetAt (h : ∀ b, s.bank b = Bank.afterReset) : s.sched.banks.map (fun x => x.resetAt s.now)
    = Vector.replicate 8 { Bank.afterReset with
        monitor := .resetting, resetTimer := .running (s.now + 1000), sequence := 1, awaited := [.resetDone] } := by
  refine Vector.ext fun k hk => ?_
  have reset : s.sched.banks[k] = Bank.afterReset := h ⟨k, hk⟩
  rw [Vector.getElem_map, reset, Vector.getElem_replicate]
  rfl

/-- Stage 1 has begun, asked to stop where POWER_WARN stands (R140, R165, R168). -/
theorem release_eq (h : ∀ b, s.bank b = Bank.afterReset) : s.release = { s with
    link := { s.link with
      responses := s.link.responses ++ [.credit .memory true 16, .credit .directive true 4],
      memCredits := 16, dirCredits := 4 },
    sched := { s.sched with banks := Vector.replicate 8 { Bank.afterReset with
      monitor := .resetting, resetTimer := .running (s.now + 1000), sequence := 1,
      awaited := [.resetDone] } },
    control := { s.control with startup := some { stage := .resetBanks, stopAsked := s.pins.powerWarn } },
    pins := { s.pins with resetAsserted := false },
    arrayOut := s.arrayOut ++ allBanks.map ArrayCommand.bankReset } := by
  let granted := ({ s with pins := { s.pins with resetAsserted := false } } : State).fullGrants
  have idle (b : BankId) : (granted.bank b).monitor ≠ .resetting := by
    have reset : granted.bank b = Bank.afterReset := h b
    rw [reset]
    decide
  have grants : granted.link.responses
      = s.link.responses ++ [.credit .memory true 16, .credit .directive true 4] := List.append_assoc ..
  refine (beginStartup_of_none granted s.pins.powerWarn idle).trans ?_
  rw [← grants, ← banks_resetAt s h]
  rfl

end

end Sys2Proof.Machine

namespace Sys2Proof

open Machine

/-- Settles O5: no request is due, and every other command acts only with RESET_N released. -/
theorem nothingIsTakenUnderResetOrBackPressure : Obligations.NothingIsTakenUnderResetOrBackPressure := by
  refine ⟨fun c s asserted others => exec_of_reset s c asserted others, fun c s crowded takes => ?_⟩
  have full := canTake_of_crowded s crowded
  rcases takes with rfl | rfl | rfl | named
  · exact readTake_untaken s full
  · exact writeTake_untaken s full
  · exact unknownDirective_untaken s full
  · exact directive_untaken s c named full

/-- Settles O4: no bank is RESETTING, so that all eight are sent BANK_RESET, and stage 1 waits for them. -/
theorem releaseOfResetBeginsStageOne : Obligations.ReleaseOfResetBeginsStageOne := by
  refine ⟨fun s asserted undrained banks => ?_, fun s released => ?_, fun s => ?_⟩
  · rw [exec, execResetNRelease, if_pos asserted, release_eq s banks]
    exact congrArg Host.Outcome.next (settle_of_resetBanks _ s.pins.powerWarn undrained rfl)
  · rw [exec, execResetNRelease, if_neg (by simp [released])]
  · have bank (b : BankId) : s.hardReset.bank b = Bank.afterReset := Vector.getElem_replicate ..
    exact ⟨s.hardReset, rfl, rfl, rfl, bank, rfl, rfl, rfl⟩

/-- Settles O9, one lane after the other. -/
theorem arrivalsJoinTheEndOfTheirLane : Obligations.ArrivalsJoinTheEndOfTheirLane := by
  intro s packet ready
  have quiet := ready_quiet s ready
  exact ⟨fun r read room => hostRequestArrival_ready s packet _ ready
      ((arrive_memory s packet r read).trans (if_pos room)) quiet,
    fun d read room => hostRequestArrival_ready s packet _ ready
      ((arrive_directive s packet d read).trans (if_pos room)) quiet⟩

/-- Settles O10: each of the three arrivals latches LINK_OVERRUN alone. -/
theorem overrunDiscardsTheArrival : Obligations.OverrunDiscardsTheArrival := by
  refine ⟨fun s packet ready discards => ?_, rfl⟩
  have quiet : (s.latch .linkOverrun).quiet = true := ready_quiet s ready
  refine hostRequestArrival_ready s packet _ ready ?_ quiet
  rcases discards with ⟨r, read, full⟩ | ⟨d, read, full⟩ | ⟨kind, rest, rfl, unread, unwritten, undirected⟩
  · exact (arrive_memory s packet r read).trans (if_neg (Nat.not_lt.mpr full))
  · exact (arrive_directive s packet d read).trans (if_neg (Nat.not_lt.mpr full))
  · exact arrive_unknown s _ (parsePacket_unknown kind rest unread unwritten undirected)

/-- Settles O11: the tag is examined before the request is judged. -/
theorem clashingTagDiscardsTheRequest : Obligations.ClashingTagDiscardsTheRequest := by
  intro s ready responses
  refine ⟨fun r rest empty lane clash => ?_, fun c d rest free lane clash command named =>
    directiveTake_clashes s c d rest ready responses free lane clash command named⟩
  have clashes := memoryTake_clashes s r rest ready responses empty lane clash
  cases r <;> exact clashes

/-- Settles O12. -/
theorem packetsLeaveInTheOrderGenerated : Obligations.PacketsLeaveInTheOrderGenerated := by
  intro s p rest ready queue
  have sends : s.sendFront = { s with
      link := { s.link with responses := rest },
      hostOut := s.hostOut ++ [p.bytes (Config.sentTagHighBits s.hostOut.length)] } := by
    rw [State.sendFront, queue]
  rw [exec, execPacketSend, sends, queue]
  exact congrArg _ (act_settled s _ ready (ready_quiet s ready))

/-- Settles O21: each refusal leaves nothing due, and so the command ends with ALERT judged. -/
theorem writesAreJudgedInOrder : Obligations.WritesAreJudgedInOrder := by
  intro s w offered
  have answers (result : Result) := settle_answeredWrite s w result offered
  have covers := settle_protected s w (h := offered)
  rw [exec, writeTake_offered s w offered, judgeWrite_eq]
  simp only [apply_ite State.settle, answers]
  have region : (s.tookMemory w.tag).coveringRegion? (w.address / 256) = _ := coveringRegion?_eq s (w.address / 256)
  rw [region]
  cases s.region.table.findIdx? (fun r => decide (r.first ≤ w.address / 256) && decide (w.address / 256 ≤ r.last)) with
  | none => rfl
  | some k =>
    simp only [Option.elim, covers]
    rfl

end Sys2Proof
end

/-! ## The live conditions and STATUS_FETCH -/

section
/-!
SUPPORT. When each live condition holds, what asserts ALERT, and what STATUS_FETCH leaves latched (R144, R157 to R159),
with O51.
-/

namespace Sys2Proof.Machine

/-! ### Condition sets (R144) -/

theorem getLsbD_mask (c : Condition) (k : Nat) : c.mask.getLsbD k = true ↔ k = c.bit := by
  have small : c.bit < 32 := by cases c <;> decide
  rw [Condition.mask, BitVec.getLsbD_ofNat, Nat.testBit_two_pow]
  simp only [Bool.and_eq_true, decide_eq_true_eq]
  omega

theorem ne_zero_iff_getLsbD (x : BitVec 32) : x ≠ 0#32 ↔ ∃ k, x.getLsbD k = true := by
  rw [← not_iff_not, not_not, not_exists]
  simp only [Bool.not_eq_true]
  refine ⟨fun h k => by simp [h], fun h => BitVec.eq_of_getLsbD_eq fun k _ => by simp [h k]⟩

section
variable (s : State)

/-- A bit of the set that conditions which hold join one after another. -/
theorem getLsbD_foldl_holds (conditions : List Condition) (set : BitVec 32) (k : Nat) :
    (conditions.foldl (fun set c => if s.holds c then set ||| c.mask else set) set).getLsbD k = true
      ↔ set.getLsbD k = true ∨ ∃ c ∈ conditions, k = c.bit ∧ s.holds c = true := by
  induction conditions generalizing set with
  | nil => simp
  | cons c conditions ih =>
    simp only [List.foldl_cons, ih, List.mem_cons, exists_eq_or_imp]
    split
    · next h => simp [getLsbD_mask, h, or_assoc]
    · next h => simp [h]

theorem getLsbD_liveSet (k : Nat) :
    s.liveSet.getLsbD k = true ↔ ∃ c ∈ liveConditions, k = c.bit ∧ s.holds c = true := by
  rw [State.liveSet, getLsbD_foldl_holds]
  simp

/-! ### The live conditions (R157) -/

theorem freeCount_eq_zero_iff : s.freeCount = 0 ↔ ∀ i, (s.slot i).state ≠ .free := by
  simp [freeCount_eq, mem_allSlots]

theorem memLaneStalled_iff : s.memLaneStalled = true ↔ ∃ w, s.link.head = some w
    ∧ s.noneEligible (w.address / 256) = true ∧ ∀ i, (s.slot i).state ≠ .free := by
  rw [State.memLaneStalled]
  cases s.link.head <;> simp [← mergeEligible?_eq_none_iff, freeCount_eq_zero_iff]

theorem sparesLow_iff : s.sparesLow = true ↔ ∃ b : BankId, b.val < s.bankCount
    ∧ (s.remap.free[b.val].filter (fun x => x.claim.isNone)).length < 4 := by
  simp [State.sparesLow, State.banksInUse, mem_allBanks, freeSpareCount_eq]

theorem strandedCount_pos_iff : 0 < s.strandedCount ↔ ∃ i, (s.slot i).state = .stranded := by
  simp [strandedCount_eq, List.length_pos_iff, mem_allSlots]

/-- Each live condition in bit order, with the state of R157's table. -/
theorem liveSet_iff (k : Nat) : s.liveSet.getLsbD k = true ↔
    (k = 11 ∧ s.memLaneStalled = true) ∨ (k = 12 ∧ 8 ≤ s.tracker.epochs.length) ∨ (k = 13 ∧ s.sparesLow = true)
      ∨ (k = 14 ∧ ∃ i, (s.slot i).state = .stranded) ∨ (k = 15 ∧ s.remap.lost ≠ [])
      ∨ (k = 16 ∧ s.region.walker ≠ none)
      ∨ (k = 17 ∧ (s.control.previous.outcome = .unclean ∨ s.control.previous.outcome = .truncated)) := by
  rw [getLsbD_liveSet]
  simp [liveConditions, State.holds, Condition.bit, Option.isSome_iff_ne_none, strandedCount_pos_iff]

/-! ### ALERT (R159) -/

theorem alertLevel_iff : s.alertLevel = true ↔ s.pins.resetAsserted = false
    ∧ ∃ k, s.engine.profile.alertMask.getLsbD k = true
      ∧ (s.engine.latched.getLsbD k = true ∨ s.liveSet.getLsbD k = true) := by
  rw [State.alertLevel, Bool.and_eq_true, Bool.not_eq_true', bne_iff_ne, ne_zero_iff_getLsbD]
  simp only [BitVec.getLsbD_and, BitVec.getLsbD_or, Bool.and_eq_true, Bool.or_eq_true, and_comm]

/-! ### STATUS_FETCH (R150, R158) -/

theorem admits_statusFetch : s.admits .statusFetch = true := by
  cases h : s.control.state <;> simp [State.admits, Directive.inDegraded, h]

end

end Sys2Proof.Machine

namespace Sys2Proof

open Machine

/-- Settles O51: the record and the live set do not read what the taking of the directive changes, and a bit of the live
set is that of a condition that holds. -/
theorem statusFetchPeeksOrTakes : Obligations.StatusFetchPeeksOrTakes := by
  refine ⟨fun s d mode offered named length payload => ?fetch, fun s k => ?live, alertLevel_iff⟩
  case fetch =>
    have code : directiveOf? d.code = some .statusFetch := by rw [named]; rfl
    have fits : d.lengthOk .statusFetch = true := by rw [DirRequest.lengthOk, length, payload]; rfl
    have field : d.field 0 1 = mode.toNat := field_byte d 0 mode (by rw [payload]; rfl)
    have carriedOut := (judgeDirective_of_exempt (s.tookDirective d.tag) .statusFetch d statusFetchBody rfl fits).trans
      (if_pos (admits_statusFetch _))
    rw [exec, execStatusFetch, directive_offered s .statusFetch statusFetchBody d offered code, carriedOut,
      statusFetchBody, field]
    have peek : mode.toNat = 0 ↔ mode = 0#8 := BitVec.toNat_inj (y := 0#8)
    have take : mode.toNat = 1 ↔ mode = 1#8 := BitVec.toNat_inj (y := 1#8)
    simp only [peek, take]
    refine congrArg Host.Outcome.next ?_
    split
    · exact settle_answeredDirective s d .done _ offered
    · split
      · exact settle_answeredDirective { s with engine := { s.engine with latched := 0#32 } } d .done _ offered
      · exact settle_answeredDirective s d .badArgument [] offered
  case live => rw [liveSet_iff, memLaneStalled_iff, sparesLow_iff]

end Sys2Proof
end

/-! ## INCIDENT_TAKE -/

section
/-!
SUPPORT. Where INCIDENT_TAKE is admitted, and the payload of its answer, with O53 (R143, R150, R161).
-/

namespace Sys2Proof.Machine

/-- INCIDENT_TAKE is refused in STARTING alone (R150). -/
theorem admits_incidentTake_iff (s : State) : s.admits .incidentTake = true ↔ s.control.state ≠ .starting := by
  cases h : s.control.state <;> simp [State.admits, Directive.inDegraded, h]

/-- The number of the oldest records, at most 4, three zero bytes, and the records (R143). -/
theorem incidentTakeBytes_take (incidents : List Incident) : incidentTakeBytes (incidents.take 4)
    = leBytes 1 (min 4 incidents.length) ++ [0x00#8, 0x00#8, 0x00#8]
      ++ (incidents.take 4).flatMap Incident.bytes := by
  rw [incidentTakeBytes, List.length_take]
  rfl

end Sys2Proof.Machine

namespace Sys2Proof

open Machine

/-- Settles O53: the directive is refused in STARTING alone, and nothing it changes makes anything due. -/
theorem incidentTakeRemovesTheOldestFour : Obligations.IncidentTakeRemovesTheOldestFour := by
  intro s d offered named length payload
  have code : directiveOf? d.code = some .incidentTake := by rw [named]; rfl
  have fits : d.lengthOk .incidentTake = true := by rw [DirRequest.lengthOk, length, payload]; rfl
  have judged := judgeDirective_of_exempt (s.tookDirective d.tag) .incidentTake d incidentTakeBody rfl fits
  rw [exec, execIncidentTake, directive_offered s .incidentTake incidentTakeBody d offered code, judged]
  refine congrArg Host.Outcome.next ?_
  by_cases starting : s.control.state = .starting
  · have taken : (s.tookDirective d.tag).control.state = .starting := starting
    have refused : ¬ (s.tookDirective d.tag).admits .incidentTake = true :=
      fun admitted => (admits_incidentTake_iff _).mp admitted taken
    rw [if_neg refused, if_pos taken, if_pos starting]
    exact settle_answeredDirective s d .starting [] offered
  · have admitted := (admits_incidentTake_iff (s.tookDirective d.tag)).mpr starting
    rw [if_pos admitted, if_neg starting, ← incidentTakeBytes_take]
    exact settle_answeredDirective
      { s with engine := { s.engine with incidents := s.engine.incidents.drop 4 } } d .done _ offered

end Sys2Proof
end

/-! ## What leaves the stage of start-up alone -/

section
/-!
SUPPORT. No operation below Bridge Control ends or begins a stage of start-up: the answer to OPEN_SESSION is all that
such an operation adds to one. One lemma for each operation that stage 5 runs, in the order of the blocks.
-/

namespace Sys2Proof.Machine

/-- A stage as it stood before an answer to OPEN_SESSION. -/
def Stage.unanswered : Stage → Stage
  | .openSession _ => .openSession none
  | x => x

/-- The stage in progress, whether OPEN_SESSION has been answered or not. -/
def State.phase (s : State) : Option Stage := s.stage?.map Stage.unanswered

section
variable (s : State)

theorem foldl_phase {α : Type} (f : State → α → State) (h : ∀ t a, (f t a).phase = t.phase) (l : List α) :
    (l.foldl f s).phase = s.phase := by
  induction l generalizing s with
  | nil => rfl
  | cons a l ih => exact (ih (f s a)).trans (h s a)

/-! ### Plain updates -/

@[simp] theorem phase_tracker (x : EpochTracker) : ({ s with tracker := x } : State).phase = s.phase := rfl
@[simp] theorem phase_writer (x : Writer) : ({ s with writer := x } : State).phase = s.phase := rfl
@[simp] theorem setSlot_phase (i x) : (s.setSlot i x).phase = s.phase := rfl
@[simp] theorem changeDir_phase (p f) : (s.changeDir p f).phase = s.phase := rfl
@[simp] theorem setBank_phase (b x) : (s.setBank b x).phase = s.phase := rfl
@[simp] theorem setPendingMeta_phase (p) : (s.setPendingMeta p).phase = s.phase := rfl
@[simp] theorem latch_phase (c) : (s.latch c).phase = s.phase := rfl
@[simp] theorem push_phase (p) : (s.push p).phase = s.phase := rfl
@[simp] theorem forbidRecord_phase : s.forbidRecord.phase = s.phase := rfl
@[simp] theorem noteShutdown_phase : s.noteShutdown.phase = s.phase := rfl
@[simp] theorem leaveLost_phase (p) : (s.leaveLost p).phase = s.phase := rfl
@[simp] theorem markHanded_phase (d) : (s.markHanded d).phase = s.phase := rfl
@[simp] theorem raise_phase (i) : (s.raise i).phase = s.phase := by
  unfold State.raise; split <;> rfl

/-! ### The Bank Scheduler -/

@[simp] theorem sendProgram_phase (b p i d) : (s.sendProgram b p i d).phase = s.phase := rfl
@[simp] theorem suspendDecision_phase (b) : (s.suspendDecision b).phase = s.phase := by
  unfold State.suspendDecision; split <;> rfl
@[simp] theorem dispatchSlot_phase (b i) : (s.dispatchSlot b i).phase = s.phase := by
  simp [State.dispatchSlot, State.startProgram]
@[simp] theorem issueRead_phase (b) : (s.issueRead b).phase = s.phase := by
  unfold State.issueRead; split <;> rfl
@[simp] theorem arbitrate_phase (b) : (s.arbitrate b).phase = s.phase := by
  unfold State.arbitrate; repeat' split
  all_goals simp [State.dispatchMeta]
@[simp] theorem joinRead_phase (b j) : (s.joinRead b j).phase = s.phase := by
  unfold State.joinRead; split <;> simp
@[simp] theorem joinProgram_phase (i) : (s.joinProgram i).phase = s.phase := by simp [State.joinProgram]

/-! ### The Epoch Tracker and the Absorb Buffer -/

@[simp] theorem admitHead_phase : s.admitHead.phase = s.phase := by
  unfold State.admitHead; split
  · exact foldl_phase s _ joinProgram_phase _
  · rfl
@[simp] theorem removeHead_phase (e rest) : (s.removeHead e rest).phase = s.phase := by
  simp only [State.removeHead, State.noteLossy, State.notePersisted]; repeat' split
  all_goals simp
@[simp] theorem removeDrained_phase (es) (s : State) : (removeDrained es s).phase = s.phase := by
  induction es generalizing s with
  | nil => rfl
  | cons e es ih => unfold removeDrained; split <;> simp [ih]
@[simp] theorem epochDown_phase (f l) : (s.epochDown f l).phase = s.phase := by
  simp only [State.epochDown, State.judgeRemoval]; repeat' split
  all_goals simp
@[simp] theorem enterQueued_phase (i) : (s.enterQueued i).phase = s.phase := by
  unfold State.enterQueued; dsimp only; split <;> simp
@[simp] theorem closureDecision_phase (i) : (s.closureDecision i).phase = s.phase := by
  unfold State.closureDecision; repeat' split
  all_goals simp [State.requestFill]
@[simp] theorem reexamineSlot_phase (i) : (s.reexamineSlot i).phase = s.phase := by
  unfold State.reexamineSlot; split <;> simp
@[simp] theorem reexamine_phase (p) : (s.reexamine p).phase = s.phase := foldl_phase s _ reexamineSlot_phase _
@[simp] theorem freeSlot_phase (i) : (s.freeSlot i).phase = s.phase := by
  simp only [State.freeSlot, arbitrate_phase, reexamine_phase, changeDir_phase]
  exact foldl_phase s _ (fun t j => setSlot_phase t j _) _

/-! ### The Remap Unit -/

@[simp] theorem strandSlot_phase (i o) : (s.strandSlot i o).phase = s.phase := by simp [State.strandSlot]
@[simp] theorem freeRecorded_phase (i p) : (s.freeRecorded i p).phase = s.phase := by
  unfold State.freeRecorded; split <;> simp [State.freeReported]
@[simp] theorem mapNotPersisted_phase (r i b k) : (s.mapNotPersisted r i b k).phase = s.phase := by
  unfold State.mapNotPersisted; cases r <;> exact strandSlot_phase _ _ _
@[simp] theorem directiveFailed_phase : s.directiveFailed.phase = s.phase := by
  unfold State.directiveFailed; split <;> rfl
/-- OPEN_SESSION is answered in stage 5 alone. -/
@[simp] theorem noteOpenSession_phase (p) : (s.noteOpenSession p).phase = s.phase := by
  unfold State.noteOpenSession; repeat' split
  all_goals simp_all [State.phase, State.stage?, Stage.unanswered]
@[simp] theorem requestNotPersisted_phase (f r) : (s.requestNotPersisted f r).phase = s.phase := by
  unfold State.requestNotPersisted; repeat' split
  all_goals simp
@[simp] theorem answerRequests_phase (f v rs) (s : State) : (answerRequests f v rs s).phase = s.phase := by
  induction rs generalizing v s with
  | nil => rfl
  | cons r rs ih => unfold answerRequests; simp [ih]
@[simp] theorem joinRequest_phase (r) : (s.joinRequest r).phase = s.phase := by
  unfold State.joinRequest; split <;> simp

/-! ### The Metadata Writer -/

@[simp] theorem stopWriter_phase : s.stopWriter.phase = s.phase := by simp [State.stopWriter]
@[simp] theorem giveUp_phase (p) : (s.giveUp p).phase = s.phase := by simp [State.giveUp]
@[simp] theorem handProgram_phase : s.handProgram.phase = s.phase := by
  unfold State.handProgram; repeat' split
  all_goals simp
@[simp] theorem beginCompaction_phase (n o) : (s.beginCompaction n o).phase = s.phase := by
  simp [State.beginCompaction, State.handImage]
@[simp] theorem judgeEndListing_phase : s.judgeEndListing.phase = s.phase := by
  unfold State.judgeEndListing; split <;> simp [State.listShutdown]
@[simp] theorem takeAppend_phase : s.takeAppend.phase = s.phase := by
  unfold State.takeAppend; dsimp only; split <;> simp
@[simp] theorem kick_phase : s.kick.phase = s.phase := by
  simp only [State.kick, State.startAppend]; repeat' split
  all_goals simp

end

end Sys2Proof.Machine
end

/-! ## Bridge Control's record and the bridge state -/

section
/-!
SUPPORT. When Bridge Control's record agrees with the bridge state, and that every operation which moves the bridge
leaves them in agreement: DEGRADED, DORMANT, FAULTED, start-up, the drains and the completions (R162, R164).
-/

namespace Sys2Proof.Machine

/-! ### Agreement -/

/-- The level of RESET_N and the bridge state, and whether a drain and a start-up are in progress. -/
def State.standing (s : State) : Bool × BridgeState × Bool × Bool :=
  (s.pins.resetAsserted, s.control.state, s.control.drain.isSome, s.control.startup.isSome)

/-- With RESET_N released, the record agrees with the bridge state: a drain is in progress exactly in DRAINING and a
start-up exactly in STARTING. -/
def State.Agrees (s : State) : Prop :=
  s.standing = (false, s.control.state, s.control.state == .draining, s.control.state == .starting)

theorem State.agrees_iff (s : State) : s.Agrees ↔ s.controlOk = true ∧ s.pins.resetAsserted = false := by
  cases h : s.pins.resetAsserted <;> simp [State.Agrees, State.standing, State.controlOk, h]

/-- A standing that agrees, as an operation leaves it. -/
theorem State.Agrees.of_standing {t : State} (x : BridgeState)
    (h : t.standing = (false, x, x == .draining, x == .starting)) : t.Agrees := by
  have state : t.control.state = x := congrArg (fun y => y.2.1) h
  rw [State.Agrees, state]
  exact h

theorem standing_of_outline {s t : State} (h : t.outline = s.outline) : t.standing = s.standing := by
  simp only [State.outline, Prod.mk.injEq] at h
  obtain ⟨pins, -, -, -, -, state, -, -, -, -, drain, startup⟩ := h
  simp only [State.standing, pins, state, drain, startup]

section
variable {s t : State}

theorem State.Agrees.released (h : s.Agrees) : s.pins.resetAsserted = false := congrArg Prod.fst h

theorem State.Agrees.drain (h : s.Agrees) : s.control.drain.isSome = (s.control.state == .draining) :=
  congrArg (fun y => y.2.2.1) h

theorem State.Agrees.startup (h : s.Agrees) : s.control.startup.isSome = (s.control.state == .starting) :=
  congrArg (fun y => y.2.2.2) h

/-- The bridge state tells the whole standing of a bridge whose record agrees. -/
theorem State.Agrees.standing (h : s.Agrees) {x : BridgeState} (hx : s.control.state = x) :
    s.standing = (false, x, x == .draining, x == .starting) := hx ▸ h

theorem State.Agrees.starting (h : s.Agrees) (hs : s.control.startup.isSome = true) : s.control.state = .starting := by
  simpa [hs] using h.startup

theorem State.Agrees.of_same (h : s.Agrees) (e : t.standing = s.standing) : t.Agrees :=
  .of_standing s.control.state (e.trans h)

end

/-- An operation that leaves the record in agreement and begins no drain. -/
def State.Steers (s t : State) : Prop :=
  s.Agrees → t.Agrees ∧ (s.control.state ≠ .draining → t.control.state ≠ .draining)

namespace State.Steers

section
variable {s t u : State}

theorem refl (s : State) : s.Steers s := fun h => ⟨h, id⟩

theorem trans (h : s.Steers t) (k : t.Steers u) : s.Steers u := fun agrees =>
  have ⟨agrees', undrained⟩ := h agrees
  have ⟨agrees'', undrained'⟩ := k agrees'
  ⟨agrees'', undrained' ∘ undrained⟩

theorem of_same (h : t.standing = s.standing) : s.Steers t := fun agrees =>
  ⟨agrees.of_same h, by rw [show t.control.state = s.control.state from congrArg (fun y => y.2.1) h]; exact id⟩

theorem of_outline (h : t.outline = s.outline) : s.Steers t := of_same (standing_of_outline h)

/-- An operation that leaves the standing alone, after others. -/
theorem still (h : s.Steers t) (e : u.outline = t.outline) : s.Steers u := h.trans (of_outline e)

/-- The bridge enters a state in which no drain is in progress. -/
theorem enters (x : BridgeState) (hx : x ≠ .draining)
    (h : s.Agrees → t.standing = (false, x, false, x == .starting)) : s.Steers t := fun agrees => by
  have standing := h agrees
  have state : t.control.state = x := congrArg (fun y => y.2.1) standing
  exact ⟨.of_standing x (by rw [standing, beq_eq_false_iff_ne.mpr hx]), fun _ => by rwa [state]⟩

theorem ite (c : Prop) [Decidable c] (h : s.Steers t) (k : s.Steers u) : s.Steers (if c then t else u) := by
  split
  · exact h
  · exact k

theorem agrees (h : s.Steers t) (a : s.Agrees) : t.Agrees := (h a).1

end

end State.Steers

section
variable (s : State)

/-! ### DEGRADED, DORMANT and FAULTED (R105, R163, R168, R171) -/

/-- A RUNNING bridge has no drain and no start-up in progress, and so has the DEGRADED one that it becomes. -/
theorem steers_degradeIfStopped : s.Steers s.degradeIfStopped := by
  rw [State.degradeIfStopped]
  split
  · next stops =>
    refine .enters .degraded (by decide) fun agrees => ?_
    have left : ((s.setBridge .degraded).leaveRunning).arbitrateAll.outline = (s.setBridge .degraded).outline := by simp
    have running := agrees.standing stops.1
    rw [standing_of_outline left]
    simp only [State.standing, Prod.mk.injEq] at running ⊢
    exact ⟨running.1, rfl, running.2.2⟩
  · exact .refl s

theorem steers_metadataOutcome (ok : Bool) : s.Steers (s.metadataOutcome ok) :=
  (State.Steers.of_outline (writerOutcome_outline s ok)).trans (steers_degradeIfStopped _)

theorem enterDormant_standing : s.enterDormant.standing = (s.pins.resetAsserted, .dormant, false, false) :=
  standing_of_outline (arbitrateAll_outline _)

theorem steers_enterDormant : s.Steers s.enterDormant :=
  .enters .dormant (by decide) fun agrees => by rw [enterDormant_standing, agrees.released]; rfl

theorem enterFaulted_standing (reason : FaultReason) :
    (s.enterFaulted reason).standing = (s.pins.resetAsserted, .faulted, false, false) := by
  obtain ⟨banks, faulted⟩ := faultBanks_eq s
  rw [State.enterFaulted, faulted]
  refine (standing_of_outline ?_ : _ = State.standing { s with control := s.control.faulted reason })
  dsimp only
  split <;> simp only [answerHolder_outline, stopWriter_outline, endRecords_outline, leaveRunning_outline] <;> rfl

theorem steers_enterFaulted (reason : FaultReason) : s.Steers (s.enterFaulted reason) :=
  .enters .faulted (by decide) fun agrees => by rw [enterFaulted_standing, agrees.released]; rfl

/-! ### The stages of start-up (R165 to R168, R178) -/

theorem setStage_standing (stage : Stage) : (s.setStage stage).standing = s.standing := by
  simp [State.standing]

theorem steers_setStage (stage : Stage) : s.Steers (s.setStage stage) := .of_same (setStage_standing s stage)

/-- A stage that has ended stops start-up, or goes on while one is in progress. -/
theorem steers_endStage (next : State → State) (h : s.control.startup.isSome = true → s.Steers (next s)) :
    s.Steers (s.endStage next) := by
  rw [State.endStage]
  split
  · next up underway => exact .ite _ (steers_enterDormant s) (h (by rw [underway]; rfl))
  · exact .refl s

theorem steers_startupRead (page : Nat) : s.Steers (s.startupRead page) := .of_outline (joinRead_outline s _ _)

theorem steers_beginReplay (half generation : Nat) : s.Steers (s.beginReplay half generation) :=
  (steers_setStage s _).trans (steers_startupRead _ _)

theorem steers_replays (half generation : Nat) : s.Steers (s.endStage (fun t => t.beginReplay half generation)) :=
  steers_endStage s _ fun _ => steers_beginReplay s half generation

theorem enterRunning_standing :
    s.enterRunning.standing = (s.pins.resetAsserted, .running, s.control.drain.isSome, false) := by
  rw [State.enterRunning]
  split
  · exact standing_of_outline (beginCompaction_outline _ _ _)
  · rfl

theorem steers_enterRunning (h : s.control.startup.isSome = true) : s.Steers s.enterRunning :=
  .enters .running (by decide) fun agrees => by
    rw [enterRunning_standing, agrees.released, agrees.drain, agrees.starting h]
    rfl

theorem steers_beginOpenSession : s.Steers s.beginOpenSession := by
  have hands := (steers_setStage s (.openSession none)).still
    (joinRequest_outline _ (Request.of (.openSession (nextSession s.control.session))))
  exact .ite _ (hands.still (beginCompaction_outline _ _ _)) (hands.still (kick_outline _))

theorem steers_takeOpenSession : s.Steers s.takeOpenSession := by
  have counts : s.Steers { s with control := { s.control with session := nextSession s.control.session } } :=
    .of_same rfl
  rw [State.takeOpenSession]
  split
  · exact counts.trans (steers_endStage _ _ (steers_enterRunning _))
  · exact steers_enterFaulted s _
  · exact .refl s

theorem deriveFree_outline (g : Geometry) : (s.deriveFree g).outline = s.outline := by
  simp only [State.deriveFree, outline_remap]
  exact foldl_outline _ (fun t b => setFreeSpares_outline t b _) _ s

theorem loadReplay_standing (g : Geometry) (r : Replay) : (s.loadReplay g r).standing = s.standing := by
  have retires (t : State) :
      (r.retired.foldl (fun t x => t.addRetired (Fin.ofNat 8 x.1) x.2) t).outline = t.outline :=
    foldl_outline _ (fun u x => addRetired_outline u _ _) _ t
  exact (standing_of_outline ((deriveFree_outline _ g).trans (retires _))).trans rfl

theorem steers_replayPage (built : Replay) (page : Nat) (records : List Record) :
    s.Steers (s.replayPage built page records) := by
  rw [State.replayPage]
  split
  · exact .refl s
  · split
    · exact steers_enterFaulted s _
    · exact (State.Steers.of_same (loadReplay_standing s _ _)).trans
        (steers_endStage _ _ fun _ => steers_beginOpenSession _)
    · exact (steers_setStage s _).trans (steers_startupRead _ _)

theorem steers_readRemaining (remaining : List Nat) (zero : Bool) : s.Steers (s.readRemaining remaining zero) := by
  cases remaining with
  | cons page rest => exact (steers_setStage s _).trans (steers_startupRead _ _)
  | nil => exact .ite _ ((steers_setStage s _).still (beginFormat_outline _ _)) (steers_enterFaulted s _)

theorem steers_chooseHalf (half0 half1 : HalfScan) : s.Steers (s.chooseHalf half0 half1) := by
  rw [State.chooseHalf]
  split
  · exact .ite _ (steers_enterFaulted s _) (.ite _ (steers_replays s _ _) (steers_replays s _ _))
  · exact steers_replays s _ _
  · exact steers_replays s _ _
  · exact steers_readRemaining s _ _

theorem steers_scanned (half0 half1 : HalfScan) (page : Nat) (done : Bool) :
    s.Steers (s.scanned half0 half1 page done) := by
  have staged := steers_setStage s (.choose half0 half1)
  exact .ite _ (staged.trans (steers_chooseHalf _ _ _)) (.ite _ staged (staged.trans (steers_startupRead _ _)))

theorem steers_startupPage (page : Nat) (data : PageData) : s.Steers (s.startupPage page data) := by
  rw [State.startupPage]
  split
  · exact .ite _ (steers_scanned s _ _ _ _) (steers_scanned s _ _ _ _)
  · exact steers_readRemaining s _ _
  · exact steers_replayPage s _ _ _
  · exact .refl s

theorem steers_startupReadFailed : s.Steers s.startupReadFailed := by
  rw [State.startupReadFailed]
  split
  · exact steers_enterFaulted s _
  · exact .refl s

theorem startReset_outline (b : BankId) : (s.startReset b).outline = s.outline := by
  rw [State.startReset]; split <;> simp

theorem beginStartup_standing (stopAsked : Bool) : (s.beginStartup stopAsked).standing
    = (s.pins.resetAsserted, s.control.state, s.control.drain.isSome, true) :=
  standing_of_outline (foldl_outline _ startReset_outline _ _)

theorem steers_beginIdentify : s.Steers s.beginIdentify := (steers_setStage s .identify).trans (.of_same rfl)

theorem steers_bankMarked : s.Steers s.bankMarked := by
  rw [State.bankMarked]
  split
  · exact .ite _ (steers_endStage s _ fun _ => steers_beginIdentify s) (.refl s)
  · exact .ite _ ((steers_setStage s _).still (beginFormat_outline _ _)) (.refl s)
  · exact .refl s

theorem steers_takeIdentify (bankCount exponent spares version : Nat) :
    s.Steers (s.takeIdentify bankCount exponent spares version) := by
  have stopped : s.Steers { s with control := { s.control with identifyTimer := .stopped } } := .of_same rfl
  have known (t : State) (g : Option Geometry) : t.Steers { t with geometry := g } := .of_same rfl
  have chooses (t : State) : t.Steers t.beginChoice :=
    ((steers_setStage t _).trans (steers_startupRead _ _)).trans (steers_startupRead _ _)
  exact .ite _ ((stopped.trans (known _ _)).trans (steers_endStage _ _ fun _ => chooses _))
    (stopped.trans (steers_enterFaulted _ _))

theorem steers_takeReformat : s.Steers s.takeReformat := by
  have forgets (x : BitVec 32) (y : PreviousFacts) :
      s.Steers { s with control := { s.control with session := x, previous := y } } := .of_same rfl
  rw [State.takeReformat]
  split
  · exact ((forgets _ _).still (deriveFree_outline _ _)).trans
      (steers_endStage _ _ fun _ => steers_beginOpenSession _)
  · exact steers_enterFaulted s _

theorem steers_takeFormat : s.Steers s.takeFormat := by
  rw [State.takeFormat]
  split
  · exact steers_replays s _ _
  · exact steers_enterFaulted s _
  · exact steers_takeReformat s
  · exact steers_enterFaulted s _
  · exact .refl s

theorem steers_advanceStartup : s.Steers s.advanceStartup := (steers_takeFormat s).trans (steers_takeOpenSession _)

/-! ### REFORMAT, the drains and POWER_WARN (R168, R171 to R174) -/

theorem emptyForReplay_outline : s.emptyForReplay.outline = s.outline := rfl

/-- REFORMAT takes a FAULTED bridge, in which no drain is in progress, to STARTING. -/
theorem steers_beginReformat (h : s.control.state = .faulted) : s.Steers s.beginReformat :=
  .enters .starting (by decide) fun agrees => by
    refine (standing_of_outline (foldl_outline _ startReset_outline _ _)).trans ?_
    show (s.pins.resetAsserted, BridgeState.starting, s.control.drain.isSome, true) = _
    rw [agrees.released, agrees.drain, h]
    rfl

theorem answerLanes_outline : s.answerLanes.outline = s.outline := by
  have memory (t : State) (r : MemRequest) : (t.answerMemStarting r).outline = t.outline := by
    cases r <;> exact examineTag_outline t _ _ _ fun _ => rfl
  have directive (t : State) (d : DirRequest) : (t.answerDirStarting d).outline = t.outline :=
    examineTag_outline t _ _ _ fun _ => rfl
  rw [State.answerLanes, fullGrants_outline, foldl_outline _ directive, foldl_outline _ memory]
  rfl

theorem unloadWriter_outline : s.unloadWriter.outline = s.outline := answerWaiting_outline _ _ _

theorem restartStartup_standing : s.restartStartup.standing = (s.pins.resetAsserted, .starting, false, true) := by
  let entered : State := { s with control := { s.control with state := .starting, drain := none } }
  let unloaded := ((entered.endRecords .starting).answerLanes).unloadWriter
  have blocks : unloaded.emptyForReplay.outline = entered.outline := by
    rw [emptyForReplay_outline, unloadWriter_outline, answerLanes_outline, endRecords_outline]
  have standing := standing_of_outline blocks
  simp only [State.standing, Prod.mk.injEq] at standing
  obtain ⟨reset, state, drain, -⟩ := standing
  refine (beginStartup_standing unloaded.emptyForReplay false).trans ?_
  rw [reset, state, drain]
  rfl

/-- No drain is in progress once one has ended. -/
theorem endDrain_standing (d : Drain) : (s.endDrain d).standing = (s.pins.resetAsserted, .dormant, false, false)
    ∨ (s.endDrain d).standing = (s.pins.resetAsserted, .starting, false, true) := by
  rw [State.endDrain]
  cases d.kind with
  | power => exact .inl ((standing_of_outline (answerHolder_outline _)).trans (enterDormant_standing s))
  | restart => exact .inr (restartStartup_standing s)

theorem steers_endDrain (d : Drain) : s.Steers (s.endDrain d) :=
  (endDrain_standing s d).elim
    (fun dormant => .enters .dormant (by decide) fun agrees => by rw [dormant, agrees.released]; rfl)
    (fun starting => .enters .starting (by decide) fun agrees => by rw [starting, agrees.released]; rfl)

/-- Whether a drain goes on: its end point is still to come, or its SHUTDOWN is with the writer (R171). -/
def State.drainWaits (s : State) (d : Drain) : Bool :=
  match d.shutdown with
  | .notHanded => !s.drainAtEnd d
  | .handed => true
  | .answered => false

/-- At the end of a command, once its end point has been judged, a drain is over, or it goes on. -/
theorem judgeDrain_cases : (∃ d, s.judgeDrain = s.judgeEnd.endDrain d)
    ∨ s.judgeDrain = s.judgeEnd ∧ ∀ d, s.judgeEnd.control.drain = some d → s.judgeEnd.drainWaits d = true := by
  cases drain : s.judgeEnd.control.drain with
  | none => exact .inr ⟨by simp only [State.judgeDrain, drain], by simp⟩
  | some d =>
    simp only [State.judgeDrain, drain, Option.some.injEq, forall_eq', State.drainWaits]
    cases d.shutdown with
    | answered => exact .inl ⟨d, rfl⟩
    | handed => exact .inr ⟨rfl, rfl⟩
    | notHanded =>
      cases ends : s.judgeEnd.drainAtEnd d with
      | true => exact .inl ⟨d, rfl⟩
      | false => exact .inr ⟨rfl, rfl⟩

theorem steers_judgeDrain : s.Steers s.judgeDrain := by
  have judged : s.Steers s.judgeEnd := .of_outline (judgeEnd_outline s)
  rcases judgeDrain_cases s with ⟨d, ends⟩ | ⟨same, -⟩
  · rw [ends]; exact judged.trans (steers_endDrain _ d)
  · rwa [same]

variable {s} in
/-- A drain begins where no start-up is in progress. -/
theorem State.Agrees.beginDrain (h : s.Agrees) (hs : s.control.state ≠ .starting) (kind : DrainKind) :
    (s.beginDrain kind).Agrees := by
  let drains : State := { s with control := { s.control with state := .draining, drain := some (s.drainRecord kind) } }
  have blocks : (s.beginDrain kind).outline = drains.outline := by
    rw [State.beginDrain, arbitrateAll_outline, abandonCompaction_outline, leaveRunning_outline]
  refine .of_standing .draining ((standing_of_outline blocks).trans ?_)
  show (s.pins.resetAsserted, BridgeState.draining, true, s.control.startup.isSome) = _
  rw [h.released, h.startup, beq_eq_false_iff_ne.mpr hs]
  rfl

variable {s} in
/-- POWER_WARN asks a start-up to stop, begins a drain, or turns a RESTART drain into a POWER drain (R168). -/
theorem State.Agrees.powerWarn (h : s.Agrees) : s.powerWarn.Agrees := by
  rw [State.powerWarn]
  split
  · exact h.of_same (by simp [State.standing])
  · next running => exact h.beginDrain (by rw [running]; decide) _
  · next degraded => exact h.beginDrain (by rw [degraded]; decide) _
  · next d _ drain =>
    split
    · exact h.of_same (by simp [State.standing, State.convertDrain, drain])
    · exact h
  · exact h
  · exact h
  · exact h

/-! ### Completions of the array -/

theorem steers_setBank (b : BankId) (x : Bank) : s.Steers (s.setBank b x) := .of_same rfl

theorem steers_jobComplete (job : ReadJob) (data : PageData) : s.Steers (s.jobComplete job data) := by
  rw [State.jobComplete]
  split
  · exact .of_outline (fillComplete_outline s _ _)
  · exact .of_outline (readComplete_outline s _ _)
  · exact steers_startupPage s _ _

theorem steers_jobFailed (job : ReadJob) (timeout : Bool) : s.Steers (s.jobFailed job timeout) := by
  rw [State.jobFailed]
  split
  · exact .of_outline (fillFailed_outline s _)
  · exact .of_outline (readFailed_outline s _ _)
  · exact steers_startupReadFailed s

theorem steers_takeRead? (b : BankId) (outcome : ReadOutcome) : s.Steers (s.takeRead? b outcome) := by
  have cleared : s.Steers (s.clearRead b) := steers_setBank s b _
  rw [State.takeRead?]
  split
  · exact .refl s
  · split
    · exact (cleared.trans (steers_jobComplete _ _ _)).still (afterRead_outline _ b)
    · exact .ite _ ((cleared.trans (steers_jobFailed _ _ _)).still (afterRead_outline _ b))
        ((steers_setBank s b _).still (afterRead_outline _ b))

theorem steers_takeReadDone (bank tag : Nat) (outcome : ReadOutcome) :
    s.Steers (s.takeReadDone bank tag outcome) := by
  rw [State.takeReadDone]
  split
  · exact (steers_setBank s _ _).trans (steers_takeRead? _ _ _)
  · exact .refl s

theorem judgeAttempt_outline (b : BankId) (i : SlotId) : (s.judgeAttempt b i).outline = s.outline := by
  rw [State.judgeAttempt]; split <;> simp [State.setProgram]

theorem dataOutcome_outline (b : BankId) (i : SlotId) (outcome : ProgramOutcome) :
    (s.dataOutcome b i outcome).outline = s.outline := by
  cases outcome with
  | ok => simp [State.dataOutcome, State.setProgram]
  | programFail => simp [State.dataOutcome, judgeAttempt_outline, State.countAttempt]

theorem stopProgramTimer_outline (b : BankId) : (s.stopProgramTimer b).outline = s.outline := by
  rw [State.stopProgramTimer]; split <;> rfl

theorem steers_takeProgramDone (bank tag : Nat) (outcome : ProgramOutcome) :
    s.Steers (s.takeProgramDone bank tag outcome) := by
  rw [State.takeProgramDone]
  split
  · exact .refl s
  · next b _ =>
    have taken : s.Steers ((s.untilTaken b (.programDone tag)).stopProgramTimer b) :=
      (steers_setBank s b _).still (stopProgramTimer_outline _ b)
    split
    · exact (taken.still (dataOutcome_outline _ b _ outcome)).still (endProgram_outline _ b)
    · exact ((taken.trans (steers_setBank _ b _)).trans (steers_metadataOutcome _ _)).still (endProgram_outline _ b)
    · exact taken

theorem steers_takeSuspendAck (bank tag : Nat) (answer : SuspendAnswer) :
    s.Steers (s.takeSuspendAck bank tag answer) := by
  rw [State.takeSuspendAck]
  split
  · exact .refl s
  · next b _ =>
    have taken : s.Steers (s.untilTaken b (.suspendAck tag)) := steers_setBank s b _
    split
    · exact taken.still (serveSuspended_outline _ b)
    · exact taken
    · exact taken.still (endProgram_outline _ b)

theorem steers_interruptedProgram (b : BankId) : s.Steers (s.interruptedProgram b) := by
  rw [State.interruptedProgram]
  split
  · exact .of_outline (judgeAttempt_outline s b _)
  · exact .of_outline (judgeAttempt_outline s b _)
  · exact .refl s
  · exact .refl s
  · exact (steers_setBank s b _).trans (steers_metadataOutcome _ _)
  · exact .refl s

theorem steers_interruptedRead (b : BankId) : s.Steers (s.interruptedRead b) := by
  rw [State.interruptedRead]
  split
  · exact (steers_setBank s b _).trans (steers_jobFailed _ _ _)
  · exact .refl s

theorem steers_leaveReset (b : BankId) : s.Steers (s.leaveReset b) := by
  have settled := ((steers_interruptedProgram s b).still (judgeEnd_outline _)).trans (steers_interruptedRead _ b)
  exact .ite _ (settled.still (leaveProgram_outline _ b)) settled

theorem steers_takeResetDone (bank : Nat) : s.Steers (s.takeResetDone bank) := by
  rw [State.takeResetDone]
  split
  · exact .refl s
  · exact .ite _ ((steers_setBank s _ _).trans (steers_bankMarked _))
      ((steers_setBank s _ _).trans (steers_leaveReset _ _))

/-! ### Timers -/

theorem steers_atExpiry (t : Timer) : s.Steers (s.atExpiry t) := .of_same rfl

theorem failAttempt_outline (b : BankId) (phase : ProgramPhase) : (s.failAttempt b phase).outline = s.outline := by
  rw [State.failAttempt]; split <;> rfl

theorem timeOutRead_outline (b : BankId) : (s.timeOutRead b).outline = s.outline := by
  rw [State.timeOutRead]
  split
  · split <;> simp
  · rfl

theorem steers_failCarried (bank : Bank) : s.Steers (s.failCarried bank) := by
  have failed : s.Steers (if bank.carriesRead then s.startupReadFailed else s) :=
    .ite _ (steers_startupReadFailed s) (.refl s)
  rw [State.failCarried]
  split
  · exact failed.trans (steers_metadataOutcome _ _)
  · exact failed
  · exact failed

theorem steers_resetExpired (b : BankId) : s.Steers (s.resetExpired b) :=
  .ite _ (.ite _ ((steers_setBank s b _).trans (steers_bankMarked _))
    ((steers_setBank s b _).trans (steers_failCarried _ _))) (steers_enterFaulted s _)

end

end Sys2Proof.Machine
end

/-! ## What every command ends with -/

section
/-!
SUPPORT. A command that leaves Bridge Control's record in agreement with the bridge state ends in a sound state: no
drain that is over and no stage that the writer has ended is left (R159, R166, R167, R171).
-/

namespace Sys2Proof.Machine

/-! ### When nothing is due -/

/-- Whether a stage waits for something else than the writer, or for a writer that works still (R166, R167). -/
def Stage.waits (writer : WriterState) : Stage → Bool
  | .format => writer != .idle && writer != .stopped
  | .reformatFormat => writer != .idle && writer != .stopped
  | .openSession answer => answer.isNone
  | _ => true

section
variable (s : State)

theorem quiet_iff : s.quiet = true ↔ (∀ d, s.control.drain = some d → s.drainWaits d = true)
    ∧ ∀ x, s.stage? = some x → x.waits s.writer.state = true := by
  rw [State.quiet, Bool.and_eq_true]
  refine and_congr ?_ ?_
  · cases s.control.drain with
    | none => simp
    | some d => cases h : d.shutdown <;> simp [State.drainWaits, h]
  · cases s.stage? with
    | none => simp
    | some x => cases x <;> simp [Stage.waits]

/-! ### The drain (R171) -/

theorem endDrain_drain (d : Drain) : (s.endDrain d).control.drain = none := by
  have drain (x : BridgeState) (y : Bool) (h : (s.endDrain d).standing = (s.pins.resetAsserted, x, false, y)) :
      (s.endDrain d).control.drain = none := by
    simpa [State.standing] using congrArg (fun z => z.2.2.1) h
  exact (endDrain_standing s d).elim (drain _ _) (drain _ _)

/-- A drain that is in progress as a command ends goes on. -/
theorem judgeDrain_waits (d : Drain) (h : s.judgeDrain.control.drain = some d) : s.judgeDrain.drainWaits d = true := by
  rcases judgeDrain_cases s with ⟨e, ends⟩ | ⟨same, waits⟩
  · rw [ends, endDrain_drain] at h
    cases h
  · rw [same] at h ⊢
    exact waits d h

/-! ### The stages of start-up (R166, R167) -/

theorem startup_of_standing {t : State} {r : Bool} {x : BridgeState} {d : Bool} (h : t.standing = (r, x, d, false)) :
    t.control.startup = none := by
  simpa [State.standing] using congrArg (fun z => z.2.2.2) h

/-- A stage that has ended leaves no start-up in progress where the next state has none. -/
theorem endStage_startup (next : State → State) (h : (next s).control.startup = none) :
    (s.endStage next).control.startup = none := by
  rw [State.endStage]
  split
  · split
    · exact startup_of_standing (enterDormant_standing s)
    · exact h
  · assumption

/-- The stage is neither of the two formats. -/
def State.Unformatting (s : State) : Prop := s.phase ≠ some .format ∧ s.phase ≠ some .reformatFormat

variable {s} in
theorem State.Unformatting.of_startup (h : s.control.startup = none) : s.Unformatting := by
  simp [State.Unformatting, State.phase, State.stage?, h]

variable {s} in
theorem State.Unformatting.of_phase {t : State} (h : s.Unformatting) (e : t.phase = s.phase) : t.Unformatting := by
  rwa [State.Unformatting, e]

theorem endStage_unformatting (next : State → State) (h : (next s).Unformatting) : (s.endStage next).Unformatting := by
  rw [State.endStage]
  split
  · split
    · exact .of_startup (startup_of_standing (enterDormant_standing s))
    · exact h
  · exact .of_startup (by assumption)

theorem setStage_unformatting (stage : Stage) (h : stage.unanswered ≠ .format ∧ stage.unanswered ≠ .reformatFormat) :
    (s.setStage stage).Unformatting := by
  cases up : s.control.startup with
  | none => exact .of_startup (by simp [up])
  | some x => simpa [State.Unformatting, State.phase, State.stage?, up] using h

theorem replays_unformatting (half generation : Nat) :
    (s.endStage (fun t => t.beginReplay half generation)).Unformatting :=
  endStage_unformatting s _ ((setStage_unformatting s _ (by simp [Stage.unanswered])).of_phase (joinRead_phase _ _ _))

theorem beginOpenSession_unformatting : s.beginOpenSession.Unformatting := by
  have opens := setStage_unformatting s (.openSession none) (by simp [Stage.unanswered])
  refine opens.of_phase ?_
  rw [State.beginOpenSession]
  split <;> simp

theorem takeReformat_unformatting : s.takeReformat.Unformatting := by
  rw [State.takeReformat]
  split
  · exact endStage_unformatting _ _ (beginOpenSession_unformatting _)
  · exact .of_startup (startup_of_standing (enterFaulted_standing s _))

variable {s} in
/-- Stage 5 aside, a stage that is no format does not wait for the writer. -/
theorem State.Unformatting.waits (h : s.Unformatting) (x : Stage) (hx : s.stage? = some x) (writer : WriterState) :
    (∃ answer, x = .openSession answer) ∨ x.waits writer = true := by
  have phase : s.phase = some x.unanswered := by rw [State.phase, hx]; rfl
  cases x with
  | format => exact absurd phase h.1
  | reformatFormat => exact absurd phase h.2
  | openSession answer => exact .inl ⟨answer, rfl⟩
  | _ => exact .inr rfl

/-- No format that the writer has ended is left. -/
theorem takeFormat_waits (x : Stage) (hx : s.takeFormat.stage? = some x) :
    (∃ answer, x = .openSession answer) ∨ x.waits s.takeFormat.writer.state = true := by
  have faulted := State.Unformatting.of_startup (startup_of_standing (enterFaulted_standing s .metadataCorrupt))
  revert hx
  rw [State.takeFormat]
  split
  · exact fun hx => (replays_unformatting s 0 1).waits x hx _
  · exact fun hx => faulted.waits x hx _
  · exact fun hx => (takeReformat_unformatting s).waits x hx _
  · exact fun hx => faulted.waits x hx _
  · next idle stopped reidle restopped =>
    intro hx
    cases x with
    | openSession answer => exact .inl ⟨answer, rfl⟩
    | format => exact .inr (by simpa [Stage.waits] using ⟨idle hx, stopped hx⟩)
    | reformatFormat => exact .inr (by simpa [Stage.waits] using ⟨reidle hx, restopped hx⟩)
    | _ => exact .inr rfl

/-- An OPEN_SESSION that has been answered ends start-up. -/
theorem takeOpenSession_cases : s.takeOpenSession.control.startup = none
    ∨ s.takeOpenSession = s ∧ ∀ answer, s.stage? = some (.openSession answer) → answer = none := by
  rw [State.takeOpenSession]
  split
  · exact .inl (endStage_startup _ _ (startup_of_standing (enterRunning_standing _)))
  · exact .inl (startup_of_standing (enterFaulted_standing s _))
  · next persisted failed =>
    refine .inr ⟨rfl, fun answer opens => ?_⟩
    cases answer with
    | none => rfl
    | some answer => cases answer with
      | false => exact absurd opens failed
      | true => exact absurd opens persisted

/-- No stage is left that start-up does not wait in. -/
theorem advanceStartup_waits (x : Stage) (hx : s.advanceStartup.stage? = some x) :
    x.waits s.advanceStartup.writer.state = true := by
  rw [State.advanceStartup] at hx ⊢
  rcases takeOpenSession_cases s.takeFormat with ended | ⟨same, unanswered⟩
  · simp [State.stage?, ended] at hx
  · rw [same] at hx ⊢
    rcases takeFormat_waits s x hx with ⟨answer, rfl⟩ | waits
    · rw [unanswered answer hx]; rfl
    · exact waits

/-! ### The end of a command -/

variable {s} in
theorem State.Agrees.settle (h : s.Agrees) : s.settle.Agrees :=
  ((steers_advanceStartup _).agrees ((steers_judgeDrain s).agrees h)).of_same rfl

variable {s} in
/-- Start-up goes on in STARTING, where no drain is in progress, and begins none. -/
theorem advanceStartup_drain (h : s.Agrees) (hs : s.control.startup ≠ none) :
    s.advanceStartup.control.drain = none := by
  have starting : s.control.state = .starting := h.starting (Option.isSome_iff_ne_none.mpr hs)
  obtain ⟨agrees, undrained⟩ := steers_advanceStartup s h
  have drain := agrees.drain
  rw [beq_eq_false_iff_ne.mpr (undrained (by rw [starting]; decide))] at drain
  simpa using drain

variable {s} in
/-- A command ends with nothing due. -/
theorem settle_quiet (h : s.Agrees) : s.settle.quiet = true := by
  have judged := (steers_judgeDrain s).agrees h
  refine (quiet_iff s.judgeDrain.advanceStartup).mpr ⟨fun d drain => ?_, advanceStartup_waits _⟩
  by_cases startup : s.judgeDrain.control.startup = none
  · rw [advanceStartup_of_none _ startup] at drain ⊢
    exact judgeDrain_waits s d drain
  · rw [advanceStartup_drain judged startup] at drain
    cases drain

variable {s} in
/-- A command whose effect leaves the record in agreement ends in a sound state. -/
theorem settle_sound (h : s.Agrees) : s.settle.sound = true := by
  have control := ((State.agrees_iff _).mp h.settle).1
  have alert : s.settle.alertOk = true := judgeAlert_alertOk _
  rw [State.sound, control, settle_quiet h, alert]
  rfl

end

end Sys2Proof.Machine
end

/-! ## Bridge Control through every command -/

section
/-!
SUPPORT. What the lanes, the directives, the writes and the scrubs leave alone, that every command which acts ends with
Bridge Control's record in agreement, and O57 (R159, R162, R164, R171).
-/

namespace Sys2Proof.Machine

section
variable (s : State)

/-! ### The lanes, the writes and the scrubs -/

theorem arrive_outline (packet : List Byte) : (s.arrive packet).outline = s.outline := by
  unfold State.arrive State.arriveMemory State.arriveDirective; repeat' split
  all_goals rfl

theorem popMemory_outline : s.popMemory.outline = s.outline := returnCredit_outline _ .memory

theorem popDirective_outline : s.popDirective.outline = s.outline := returnCredit_outline _ .directive

theorem takeRead_outline (r : ReadRequest) : (s.takeRead r).outline = s.outline :=
  (examineTag_outline _ _ _ _ fun u => judgeRead_outline u r).trans (popMemory_outline s)

theorem answerWrite_outline (tag : Nat) (result : Result) : (s.answerWrite tag result).outline = s.outline := rfl

theorem protectWrite_outline (w : WriteRequest) (region : Nat) : (s.protectWrite w region).outline = s.outline := by
  simp [State.protectWrite, State.answerWrite]

theorem absorbOrWait_outline (w : WriteRequest) : (s.absorbOrWait w).outline = s.outline := by
  rw [State.absorbOrWait]
  split
  · rw [State.absorbHost]
    split
    · rw [takeFence_outline _ _ _ fun _ _ => respond_outline _ _ _, absorbWrite_outline]
    · rw [respond_outline, absorbWrite_outline]
  · rfl

theorem judgeWrite_outline (w : WriteRequest) : (s.judgeWrite w).outline = s.outline := by
  unfold State.judgeWrite; repeat' split
  all_goals simp only [answerWrite_outline, protectWrite_outline, absorbOrWait_outline]

theorem takeWrite_outline (w : WriteRequest) : (s.takeWrite w).outline = s.outline :=
  (examineTag_outline _ _ _ _ fun u => judgeWrite_outline u w).trans (popMemory_outline s)

theorem judgeWaiting_outline (w : WriteRequest) : (s.judgeWaiting w).outline = s.outline := by
  unfold State.judgeWaiting; dsimp only; repeat' split
  all_goals simp only [answerWrite_outline, protectWrite_outline, absorbOrWait_outline, outline_link]

theorem sendFront_standing : s.sendFront.standing = s.standing := by
  unfold State.sendFront; split <;> rfl

theorem endVisit_outline (w : Walker) : (s.endVisit w).outline = s.outline := by
  unfold State.endVisit; split <;> rfl

theorem visit_outline (w : Walker) : (s.visit w).outline = s.outline := by
  unfold State.visit; repeat' split
  all_goals simp only [endVisit_outline, absorbWrite_outline]

/-! ### The directives -/

theorem answerUnknown_outline (d : DirRequest) : (s.answerUnknown d).outline = s.outline :=
  (answerDirective_outline _ _ _ _).trans (discardStaging_outline s)

theorem takeApply_outline (tag : Nat) (outcome : ApplyOutcome) : (s.takeApply tag outcome).outline = s.outline := by
  cases outcome with
  | answer result entry => cases entry <;> rfl
  | change c =>
    rw [State.takeApply, State.requestRegion]
    split
    · rfl
    · simp

theorem releaseStranded_outline (tag : Nat) (i : SlotId) : (s.releaseStranded tag i).outline = s.outline := by
  unfold State.releaseStranded; dsimp only; repeat' split
  all_goals simp

theorem releaseBody_outline (d : DirRequest) : (releaseBody d s).outline = s.outline := by
  unfold releaseBody; repeat' split
  all_goals simp only [releaseStranded_outline, answerDirective_outline]

/-- Every directive but RESTART and REFORMAT leaves Bridge Control alone. -/
theorem body_outline (which : Directive) (d : DirRequest) (h : which ≠ .restart ∧ which ≠ .reformat) :
    (which.body d s).outline = s.outline := by
  cases which with
  | flush =>
    simp only [Directive.body, flushBody]
    split
    · exact takeFence_outline s _ _ fun _ _ => rfl
    · rfl
  | rangeFirst =>
    simp only [Directive.body, rangeFirstBody]; repeat' split
    all_goals rfl
  | rangeLast =>
    simp only [Directive.body, rangeLastBody]; repeat' split
    all_goals rfl
  | rangeApply =>
    simp only [Directive.body, rangeApplyBody]
    split
    · exact takeApply_outline _ _ _
    · rfl
    · rfl
  | rangeScrub => simp only [Directive.body, rangeScrubBody]; split <;> rfl
  | regionList => simp only [Directive.body, regionListBody]; split <;> rfl
  | release => exact releaseBody_outline s d
  | remapQuery => simp only [Directive.body, remapQueryBody]; split <;> rfl
  | restart => exact absurd rfl h.1
  | reformat => exact absurd rfl h.2
  | statusFetch =>
    simp only [Directive.body, statusFetchBody]; repeat' split
    all_goals rfl
  | incidentTake => rfl
  | profile =>
    simp only [Directive.body, profileBody, State.probeProfile, State.applyProfile]; repeat' split
    all_goals simp

variable {s} in
/-- RESTART is not admitted in STARTING, and REFORMAT in FAULTED alone (R150). -/
theorem State.Agrees.body (h : s.Agrees) (which : Directive) (d : DirRequest) (admitted : s.admits which = true) :
    (which.body d s).Agrees := by
  have answered : (s.answerDirective d.tag .started []).Agrees := h.of_same rfl
  by_cases restart : which = .restart
  · subst restart
    refine answered.beginDrain (fun starting => ?_) .restart
    cases (admits_iff_of_starting s _ starting).mp admitted
  · by_cases reformat : which = .reformat
    · subst reformat
      have faulted : s.control.state = .faulted := by
        cases state : s.control.state <;> simp_all [State.admits, Directive.inDegraded]
      exact (steers_beginReformat (s.answerDirective d.tag .started []) faulted).agrees answered
    · exact h.of_same (standing_of_outline (body_outline s which d ⟨restart, reformat⟩))

variable {s} in
theorem State.Agrees.examineTag (h : s.Agrees) (lane : Lane) (tag : Nat) (proceed : State → State)
    (hp : ∀ t : State, t.Agrees → (proceed t).Agrees) : (s.examineTag lane tag proceed).Agrees := by
  unfold State.examineTag
  split
  · exact h.of_same (standing_of_outline ((raise_outline _ _).trans (latch_outline _ _)))
  · exact hp _ (h.of_same rfl)

variable {s} in
theorem State.Agrees.judgeDirective (h : s.Agrees) (which : Directive) (d : DirRequest) :
    (s.judgeDirective which d which.body).Agrees := by
  have unstaged : (s.unstagedFor which).Agrees := h.of_same (by unfold State.unstagedFor; split <;> rfl)
  rw [judgeDirective_eq]
  split
  · exact unstaged.of_same rfl
  · next admitted =>
    split
    · exact unstaged.of_same rfl
    · refine unstaged.body which d ?_
      rwa [admits_congr s _ which (unstagedFor_control s which), ← Bool.not_eq_false]

/-! ### Commands -/

/-- What a command does in a bridge whose record agrees: nothing, or what settles as its record still agrees. -/
def State.Ends (s t : State) : Prop := t = s ∨ ∃ u : State, u.Agrees ∧ t = u.settle

variable {s} {t : State}

theorem State.Ends.of_next {x : State} (h : s.Ends x)
    (e : (.next x : Host.Outcome State Fault Refusal) = .next t) : s.Ends t := by
  cases e; exact h

theorem State.Ends.sound (h : s.Ends t) (hs : s.sound = true) : t.sound = true := by
  rcases h with rfl | ⟨u, agrees, rfl⟩
  · exact hs
  · exact settle_sound agrees

theorem ends_act {u : State} (occasion : Bool) (h : u.Agrees) : s.Ends (s.act occasion u) := by
  rw [State.act]
  split
  · exact .inr ⟨u, h, rfl⟩
  · exact .inl rfl

theorem directiveCommand_ends (c : Instr) (hc : c.directive?.isSome = true) (h : s.Agrees) (e : exec c s = .next t) :
    s.Ends t := by
  obtain ⟨which, named⟩ := Option.isSome_iff_exists.mp hc
  rw [exec_of_directive c which named, execDirective] at e
  split at e
  · next d _ =>
    refine (ends_act _ ?_).of_next e
    have popped := h.of_same (standing_of_outline (popDirective_outline s))
    exact popped.examineTag _ _ _ fun u agrees => agrees.judgeDirective which d
  · exact State.Ends.of_next (.inl rfl) e

/-- Every command but those of the two lines, in a bridge whose record agrees. -/
theorem exec_ends (c : Instr) (h : s.Agrees) (hc : c.drivesLine = false) (e : exec c s = .next t) : s.Ends t := by
  have acts {u : State} (occasion : Bool) (steers : s.Steers u) : s.Ends (s.act occasion u) :=
    ends_act occasion (steers.agrees h)
  have same {u : State} (occasion : Bool) (outline : u.outline = s.outline) : s.Ends (s.act occasion u) :=
    acts occasion (.of_outline outline)
  have stays : s.Ends s := .inl rfl
  cases c with
  | hostRequestArrival packet => exact (same _ (arrive_outline s packet)).of_next e
  | readTake =>
    rw [exec, execReadTake] at e
    split at e
    · exact (same _ (takeRead_outline s _)).of_next e
    · exact stays.of_next e
  | writeTake =>
    rw [exec, execWriteTake] at e
    split at e
    · exact (same _ (takeWrite_outline s _)).of_next e
    · exact stays.of_next e
  | stalledWriteAbsorb =>
    rw [exec, execStalledWriteAbsorb] at e
    split at e
    · exact (same _ (judgeWaiting_outline s _)).of_next e
    · exact stays.of_next e
  | closeTimerExpiry slot => exact (acts _ ((steers_atExpiry s _).still (closeSlot_outline _ slot))).of_next e
  | readDone bank tag outcome => exact (acts _ (steers_takeReadDone s bank tag outcome)).of_next e
  | readTimerExpiry bank =>
    exact (acts _ ((((steers_atExpiry s _).still (timeOutRead_outline _ bank)).still
      (failAttempt_outline _ bank _)).still (sendReset_outline _ bank))).of_next e
  | programDone bank tag outcome => exact (acts _ (steers_takeProgramDone s bank tag outcome)).of_next e
  | programTimerExpiry bank =>
    exact (acts _ (((steers_atExpiry s _).still (failAttempt_outline _ bank _)).still
      (sendReset_outline _ bank))).of_next e
  | suspendAck bank tag answer => exact (acts _ (steers_takeSuspendAck s bank tag answer)).of_next e
  | resetDone bank => exact (acts _ (steers_takeResetDone s bank)).of_next e
  | resetTimerExpiry bank => exact (acts _ ((steers_atExpiry s _).trans (steers_resetExpired _ bank))).of_next e
  | metadataRequestJoin who =>
    rw [exec, execMetadataRequestJoin] at e
    split at e
    · refine (same _ ?_).of_next e
      cases who with
      | remapUnit => exact (kick_outline _).trans (handHeld_outline s _)
      | regionUnit => exact (kick_outline _).trans (joinRequest_outline _ _)
    · exact stays.of_next e
  | identifyDone bankCount exponent spares version =>
    exact (acts _ (steers_takeIdentify s bankCount exponent spares version)).of_next e
  | identifyTimerExpiry => exact (acts _ ((steers_atExpiry s _).trans (steers_enterFaulted _ _))).of_next e
  | resetNAssert => cases hc
  | resetNRelease => cases hc
  | powerWarnAssert => cases hc
  | powerWarnDeassert => cases hc
  | unknownDirective =>
    rw [exec, execUnknownDirective] at e
    split at e
    · refine (same _ ?_).of_next e
      exact (examineTag_outline _ _ _ _ fun u => answerUnknown_outline u _).trans (popDirective_outline s)
    · exact stays.of_next e
  | scrubVisit =>
    rw [exec, execScrubVisit] at e
    split at e
    · exact (same _ (visit_outline s _)).of_next e
    · exact stays.of_next e
  | packetSend => exact (acts _ (.of_same (sendFront_standing s))).of_next e
  | _ => exact directiveCommand_ends _ rfl h e

/-! ### The lines (R164, R168, R181) -/

theorem controlOk_of_sound (h : s.sound = true) : s.controlOk = true := by
  simp only [State.sound, Bool.and_eq_true] at h
  obtain ⟨⟨control, -⟩, -⟩ := h
  exact control

/-- As RESET_N is released start-up begins, with no drain in progress. -/
theorem release_agrees (hs : s.controlOk = true) (h : s.pins.resetAsserted = true) : s.release.Agrees := by
  simp only [State.controlOk, h, Bool.not_true, Bool.and_false, Bool.false_or, Bool.and_eq_true, beq_iff_eq] at hs
  obtain ⟨⟨drain, -⟩, starting⟩ := hs
  refine .of_standing .starting ((beginStartup_standing _ _).trans ?_)
  show (false, s.control.state, s.control.drain.isSome, true) = _
  rw [drain, starting]
  rfl

theorem line_keeps_sound (c : Instr) (hs : s.sound = true) (hc : c.drivesLine = true) (e : exec c s = .next t) :
    t.sound = true := by
  have control := controlOk_of_sound hs
  have next {x : State} (h : x.sound = true) (e : (.next x : Host.Outcome State Fault Refusal) = .next t) :
      t.sound = true := by
    cases e; exact h
  cases c with
  | resetNAssert => exact next (x := s.hardReset) resetStateMeetsTheInvariants.1 e
  | resetNRelease =>
    refine next ?_ e
    split
    · next asserted => exact settle_sound (release_agrees control asserted)
    · exact hs
  | powerWarnAssert =>
    rw [exec, execPowerWarnAssert] at e
    split at e
    · exact next hs e
    · refine next ?_ e
      split
      · exact hs
      · next released =>
        have agrees : s.Agrees := s.agrees_iff.mpr ⟨control, by simpa using released⟩
        exact settle_sound (State.Agrees.powerWarn (agrees.of_same rfl))
  | powerWarnDeassert => exact next (x := { s with pins := { s.pins with powerWarn := false } }) hs e
  | _ => cases hc

/-- Every command leads from a sound state to a sound state. -/
theorem exec_keeps_sound (c : Instr) (hs : s.sound = true) (e : exec c s = .next t) : t.sound = true := by
  cases line : c.drivesLine with
  | true => exact line_keeps_sound c hs line e
  | false =>
    cases reset : s.pins.resetAsserted with
    | true =>
      rw [exec_of_reset s c reset line] at e
      cases e
      exact hs
    | false =>
      exact (exec_ends c (s.agrees_iff.mpr ⟨controlOk_of_sound hs, reset⟩) line e).sound hs

end

end Sys2Proof.Machine

namespace Sys2Proof

open Machine

/-- Settles O57: the commands of the lines one by one, and every other command by what it settles. -/
theorem everyStepKeepsBridgeControlSound : Obligations.EveryStepKeepsBridgeControlSound := by
  intro s t sound h
  rw [step] at h
  split at h
  · next c rest _ =>
    have queued : State.sound { s with pending := rest } = true := sound
    exact exec_keeps_sound c queued h
  · cases h
    exact sound

end Sys2Proof
end

/-! ## POWER_WARN where no drain begins, and REFORMAT -/

section
/-!
SUPPORT. What POWER_WARN does outside RUNNING and DEGRADED and what REFORMAT leaves, and the statements about them and
about the assertion of RESET_N (R164, R168, R174), with O3, O6 and O50.
-/

namespace Sys2Proof.Machine

section
variable (s : State)

/-! ### POWER_WARN, one bridge state after another (R168) -/

/-- The state with the POWER_WARN line asserted and not yet taken (R181). -/
def State.warned (s : State) : State := { s with pins := { s.pins with powerWarn := true } }

/-- POWER_WARN_ASSERT that leaves nothing due ends with ALERT judged. -/
theorem powerWarnAssert_ends (t : State) (hr : s.ready = true) (hp : s.pins.powerWarn = false)
    (ht : s.warned.powerWarn = t) (hq : t.quiet = true) : exec .powerWarnAssert s = .next t.judgeAlert := by
  have released := ready_released s hr
  rw [exec, execPowerWarnAssert, if_neg (by simp [hp]), ← settle_of_quiet t hq, ← ht]
  exact congrArg Host.Outcome.next (if_neg (by simp [released]))

/-- In DORMANT, in FAULTED and in a POWER drain it has no effect. -/
theorem powerWarn_of_idle (h : s.control.state = .dormant ∨ s.control.state = .faulted
    ∨ (s.control.state = .draining ∧ ∃ d, s.control.drain = some d ∧ d.kind = .power)) : s.powerWarn = s := by
  rw [State.powerWarn]
  rcases h with dormant | faulted | ⟨draining, d, drain, power⟩
  · rw [dormant]
  · rw [faulted]
  · simp only [draining, drain, power]

/-- In STARTING it asks start-up to stop after its present stage. -/
theorem powerWarn_of_starting (up : Startup) (h : s.control.state = .starting) (hu : s.control.startup = some up) :
    s.powerWarn
      = { s with control := { s.control with startup := some { up with stopAsked := true } } } := by
  simp only [State.powerWarn, h, hu, Option.map_some]

/-- A RESTART drain is converted. -/
theorem powerWarn_of_restart (d : Drain) (h : s.control.state = .draining) (hd : s.control.drain = some d)
    (hk : d.kind = .restart) : s.powerWarn = s.convertDrain d := by
  simp only [State.powerWarn, h, hd, hk]

theorem metaInFlight_iff : s.metaInFlight = true ↔ ∃ b, (s.bank b).program = .metadata := by
  simp only [State.metaInFlight, List.any_eq_true, beq_iff_eq, Vector.mem_toList_iff, Vector.mem_iff_getElem]
  exact ⟨fun ⟨_, ⟨k, hk, rfl⟩, carries⟩ => ⟨⟨k, hk⟩, carries⟩,
    fun ⟨b, carries⟩ => ⟨_, ⟨b.val, b.isLt, rfl⟩, carries⟩⟩

/-- The drain record of a RESTART drain turned into a POWER drain (R168). -/
theorem convertDrain_eq (d : Drain) : s.convertDrain d = { s with control := { s.control with
    drain := some { kind := .power, budget := some s.engine.profile.drainBudget,
                    count := if s.carriesShutdown = true ∧ ∃ b, (s.bank b).program = .metadata then 1 else 0,
                    recordPermitted := d.recordPermitted, shutdown := d.shutdown } } } := by
  simp only [State.convertDrain, Bool.and_eq_true, metaInFlight_iff]

/-- With a budget of 3 programs the conversion does not bring the end point: one program at most is counted. -/
theorem quiet_convertDrain (d : Drain) (hq : s.quiet = true) (hd : s.control.drain = some d)
    (hb : 3 ≤ s.engine.profile.drainBudget) : (s.convertDrain d).quiet = true := by
  obtain ⟨waits, stages⟩ := (quiet_iff s).mp hq
  refine (quiet_iff (s.convertDrain d)).mpr ⟨fun e he => ?_, stages⟩
  obtain rfl := Option.some.inj he
  have going := waits d hd
  rw [State.drainWaits] at going ⊢
  cases hs : d.shutdown with
  | handed => rfl
  | answered => simp [hs] at going
  | notHanded =>
    simp only [hs, Bool.not_eq_true', State.drainAtEnd, Bool.or_eq_false_iff] at going ⊢
    refine ⟨going.1, ?_⟩
    have unspent : ¬ s.engine.profile.drainBudget ≤ (if s.carriesShutdown && s.metaInFlight then 1 else 0) + 1 := by
      split <;> omega
    rw [decide_eq_false unspent, Bool.false_and]

/-! ### REFORMAT (R174) -/

theorem getElem_foldl_setBank (f : BankId → Bank) (l : List BankId) (v : Vector Bank 8) (k : BankId) :
    (l.foldl (fun v b => v.set b.val (f b)) v)[k.val] = if k ∈ l then f k else v[k.val] := by
  induction l generalizing v with
  | nil => simp
  | cons b l ih =>
    rw [List.foldl_cons, ih]
    by_cases e : b = k
    · subst e; simp
    · rw [Vector.getElem_set_ne _ _ fun same => e (Fin.ext same)]
      simp [Ne.symm e]

/-- The state that REFORMAT leaves where no bank is RESETTING: STARTING, its banks sent BANK_RESET. -/
def State.reformatting (s : State) : State :=
  { s.emptyForReplay with
    control := { s.control with
      state := .starting, faultReason := .none,
      startup := some { stage := .reformatReset, stopAsked := false } },
    sched := { s.sched with
      banks := s.banksInUse.foldl (fun v b => v.set b.val ((s.bank b).resetAt s.now)) s.sched.banks },
    arrayOut := s.arrayOut ++ s.banksInUse.map ArrayCommand.bankReset }

theorem beginReformat_eq (h : ∀ b, (s.bank b).monitor ≠ .resetting) : s.beginReformat = s.reformatting := by
  let entered : State := { s.emptyForReplay with control := { s.control with
    state := .starting, faultReason := .none, startup := some { stage := .reformatReset, stopAsked := false } } }
  exact foldl_startReset entered s.banksInUse (List.Nodup.filter _ (by decide)) fun b _ => h b

theorem reformatting_bank (b : BankId) (h : b.val < s.bankCount) :
    s.reformatting.bank b = (s.bank b).resetAt s.now := by
  have used : b ∈ s.banksInUse := List.mem_filter.mpr ⟨mem_allBanks b, decide_eq_true h⟩
  exact (getElem_foldl_setBank (fun k => (s.bank k).resetAt s.now) _ _ b).trans (if_pos used)

/-- Outside a drain nothing is due: the resets wait for the banks alone. -/
theorem quiet_reformatting (h : s.control.drain = none) : s.reformatting.quiet = true :=
  (quiet_iff s.reformatting).mpr
    ⟨fun _ drain => absurd (h.symm.trans drain) nofun, fun _ stage => Option.some.inj stage ▸ rfl⟩

/-- REFORMAT that is admitted is answered STARTED, and the resets begin. -/
theorem reformat_begins (d : DirRequest) (h : s.offersDirective d = true) (hd : d.code = 0x31#8)
    (hl : d.payloadLength = 0) (hp : d.payload = []) (hs : s.region.staging = .empty)
    (hc : s.control.state = .faulted) (hf : s.control.faultReason = .metadataCorrupt)
    (hn : s.control.drain = none) (hb : ∀ b, (s.bank b).monitor ≠ .resetting) : exec .reformat s
      = .next (State.judgeAlert
        ({ s with link := s.link.tookDirective [.directiveDone d.tag .started []] } : State).reformatting) := by
  obtain ⟨_, idle, _, _, fresh⟩ := offersDirective_cases s d h
  refine directive_ends s .reformat reformatBody d _ h (by rw [hd]; rfl) hs
    ((admits_iff_of_faulted s .reformat hc).mpr (.inr ⟨rfl, hf⟩))
    (by simp [DirRequest.lengthOk, hl, hp, Directive.payloadLength]) ?_ (quiet_reformatting _ hn)
  rw [reformatBody, answer_tookDirective s d.tag .started [] fresh idle]
  exact beginReformat_eq _ hb

/-! ### The hard-reset values (R164) -/

theorem reset_slot (i : SlotId) : State.reset.slot i = Slot.unused := Vector.getElem_replicate ..

theorem reset_bank (b : BankId) : State.reset.bank b = Bank.afterReset := Vector.getElem_replicate ..

theorem afterReset_free (b : BankId) : RemapUnit.afterReset.free[b.val] = [] := Vector.getElem_replicate ..

theorem afterReset_retired (b : BankId) : RemapUnit.afterReset.retired[b.val] = [] := Vector.getElem_replicate ..

end

end Sys2Proof.Machine

namespace Sys2Proof

open Machine

/-- Settles O6: each bridge state by its row of R168, and none of them leaves anything due. -/
theorem powerWarnOutsideADrain : Obligations.PowerWarnOutsideADrain := by
  refine ⟨fun s => rfl, fun s ready low idle => ?_, fun s up ready low starting startup => ?_,
    fun s d ready low draining drain restart budget => ?_⟩
  · exact powerWarnAssert_ends s s.warned ready low (powerWarn_of_idle s.warned idle) (ready_quiet s ready)
  · refine powerWarnAssert_ends s _ ready low (powerWarn_of_starting s.warned up starting startup) ?_
    obtain ⟨waits, stages⟩ := (quiet_iff s).mp (ready_quiet s ready)
    refine (quiet_iff _).mpr ⟨waits, fun x stage => stages x ?_⟩
    rw [← stage, State.stage?, startup]
    rfl
  · have room : 3 ≤ s.engine.profile.drainBudget := Nat.le_trans (by decide) budget
    have quiet := quiet_convertDrain s.warned d (ready_quiet s ready) drain room
    rw [convertDrain_eq] at quiet
    exact powerWarnAssert_ends s _ ready low
      ((powerWarn_of_restart s.warned d draining drain restart).trans (convertDrain_eq s.warned d)) quiet

/-- Settles O50: the banks are FAULTED, so that each of those in use is sent BANK_RESET. -/
theorem reformatEmptiesTheLogsTables : Obligations.ReformatEmptiesTheLogsTables := by
  intro s d offered faulted corrupt undrained unstaged code length payload banks
  let t : State := { s with link := s.link.tookDirective [.directiveDone d.tag .started []] }
  have idle (b : BankId) : (s.bank b).monitor ≠ .resetting := by simp [banks b]
  refine ⟨t.reformatting.judgeAlert,
    reformat_begins s d offered code length payload unstaged faulted corrupt undrained idle, rfl, rfl,
    fun i => congrArg Slot.state (reset_slot i), rfl, rfl, rfl, rfl, rfl, rfl, rfl, afterReset_retired,
    fun b used => ?_, rfl, rfl, rfl, rfl, rfl, rfl, rfl⟩
  have reset : t.reformatting.judgeAlert.bank b = (s.bank b).resetAt s.now := reformatting_bank t b used
  rw [reset]
  exact ⟨rfl, rfl, rfl, rfl, rfl⟩

/-- Settles O3: block by block, with the slots and the banks one by one. -/
theorem resetAssertionClearsEveryBlock : Obligations.ResetAssertionClearsEveryBlock := by
  intro s
  have slots (i : SlotId) : s.hardReset.slot i = Slot.unused := reset_slot i
  have banks (b : BankId) : s.hardReset.bank b = Bank.afterReset := reset_bank b
  refine ⟨s.hardReset, rfl, fun i => ?slots, rfl, rfl, rfl, rfl, rfl, fun b => ?banks, rfl, rfl, rfl, rfl, rfl,
    fun b => ⟨afterReset_free b, afterReset_retired b⟩, ?rest⟩
  case slots => rw [slots i]; rfl
  case banks => rw [banks b]; and_intros <;> rfl
  case rest => and_intros <;> rfl

end Sys2Proof
end

/-! ## The queue of commands and the levels of the input lines -/

section
/-!
SUPPORT. No operation of a block or of Bridge Control reaches the queue of commands or the levels of RESET_N and
POWER_WARN: below Bridge Control the outline says so, and above it one lemma for each operation. With O1 and O60.
-/

namespace Sys2Proof.Machine

/-! ### The relation -/

/-- The commands that wait, and the levels of RESET_N and POWER_WARN (R181). -/
def State.inputs (s : State) : List Instr × Bool × Bool := (s.pending, s.pins.resetAsserted, s.pins.powerWarn)

/-- The queue and the two levels are left as they were. -/
def State.KeepsInputs (s t : State) : Prop := t.inputs = s.inputs

theorem State.keepsInputs_iff (s t : State) : s.KeepsInputs t ↔ t.pending = s.pending
    ∧ t.pins.resetAsserted = s.pins.resetAsserted ∧ t.pins.powerWarn = s.pins.powerWarn := by
  simp only [State.KeepsInputs, State.inputs, Prod.mk.injEq]

namespace State.KeepsInputs

section
variable {s t u : State}

theorem refl (s : State) : s.KeepsInputs s := rfl

theorem trans (h : s.KeepsInputs t) (k : t.KeepsInputs u) : s.KeepsInputs u := Eq.trans k h

theorem of_outline (h : t.outline = s.outline) : s.KeepsInputs t := by
  simp only [State.outline, Prod.mk.injEq] at h
  obtain ⟨pins, pending, -⟩ := h
  exact (s.keepsInputs_iff t).mpr ⟨pending, by rw [pins], by rw [pins]⟩

/-- An operation below Bridge Control, after others. -/
theorem still (h : s.KeepsInputs t) (e : u.outline = t.outline) : s.KeepsInputs u := h.trans (of_outline e)

theorem ite (c : Prop) [Decidable c] (h : s.KeepsInputs t) (k : s.KeepsInputs u) :
    s.KeepsInputs (if c then t else u) := by
  split
  · exact h
  · exact k

/-- The state that a command leads to. -/
theorem of_next (h : s.KeepsInputs t) (e : (.next t : Host.Outcome State Fault Refusal) = .next u) :
    s.KeepsInputs u := by
  cases e; exact h

end

end State.KeepsInputs

section
variable (s : State)

/-! ### DEGRADED, DORMANT and FAULTED -/

theorem inputs_control (x : BridgeControl) : s.KeepsInputs { s with control := x } := rfl

theorem inputs_setBank (b : BankId) (x : Bank) : s.KeepsInputs (s.setBank b x) := rfl

theorem inputs_degradeIfStopped : s.KeepsInputs s.degradeIfStopped :=
  .ite _ (((inputs_control s _).still (leaveRunning_outline _)).still (arbitrateAll_outline _)) (.refl s)

theorem inputs_metadataOutcome (ok : Bool) : s.KeepsInputs (s.metadataOutcome ok) :=
  (State.KeepsInputs.of_outline (writerOutcome_outline s ok)).trans (inputs_degradeIfStopped _)

theorem inputs_enterDormant : s.KeepsInputs s.enterDormant := (inputs_control s _).still (arbitrateAll_outline _)

theorem inputs_enterFaulted (reason : FaultReason) : s.KeepsInputs (s.enterFaulted reason) := by
  obtain ⟨banks, hf⟩ := faultBanks_eq s
  have faulted : s.KeepsInputs { s.faultBanks with control := s.control.faulted reason } := by rw [hf]; rfl
  have left := State.KeepsInputs.ite (s.control.state = .running) (faulted.still (leaveRunning_outline _)) faulted
  exact ((left.still (endRecords_outline _ _)).still (stopWriter_outline _)).still (answerHolder_outline _)

/-! ### The stages of start-up -/

theorem inputs_setStage (stage : Stage) : s.KeepsInputs (s.setStage stage) := inputs_control s _

theorem inputs_endStage (next : State → State) (h : s.KeepsInputs (next s)) : s.KeepsInputs (s.endStage next) := by
  rw [State.endStage]
  split
  · exact .ite _ (inputs_enterDormant s) h
  · exact .refl s

theorem inputs_enterRunning : s.KeepsInputs s.enterRunning := by
  let running : State := { s with
    absorb := AbsorbBuffer.afterReset,
    tracker := EpochTracker.afterReset,
    region := { s.region with staging := .empty, walker := none },
    control := { s.control with state := .running, startup := none } }
  have enters : s.KeepsInputs running := rfl
  exact .ite _ (enters.still (beginCompaction_outline _ _ _)) enters

theorem inputs_beginOpenSession : s.KeepsInputs s.beginOpenSession := by
  have handed := (inputs_setStage s (.openSession none)).still
    (joinRequest_outline _ (Request.of (.openSession (nextSession s.control.session))))
  exact .ite _ (handed.still (beginCompaction_outline _ _ _)) (handed.still (kick_outline _))

theorem inputs_takeOpenSession : s.KeepsInputs s.takeOpenSession := by
  rw [State.takeOpenSession]
  split
  · exact (inputs_control s _).trans (inputs_endStage _ _ (inputs_enterRunning _))
  · exact inputs_enterFaulted s _
  · exact .refl s

/-- A stage that goes on with the read of a metadata page. -/
theorem inputs_setStage_startupRead (stage : Stage) (page : Nat) :
    s.KeepsInputs ((s.setStage stage).startupRead page) :=
  (inputs_setStage s stage).still (joinRead_outline _ _ _)

theorem inputs_replays (half generation : Nat) :
    s.KeepsInputs (s.endStage (fun t => t.beginReplay half generation)) :=
  inputs_endStage s _ (inputs_setStage_startupRead s _ _)

theorem inputs_loadReplay (g : Geometry) (r : Replay) : s.KeepsInputs (s.loadReplay g r) := by
  have retires (t : State) :
      (r.retired.foldl (fun t x => t.addRetired (Fin.ofNat 8 x.1) x.2) t).outline = t.outline :=
    foldl_outline _ (fun u x => addRetired_outline u _ _) _ t
  have loads (x : RemapUnit) (y : RegionUnit) (z : Writer) (w : BridgeControl) :
      s.KeepsInputs { s with remap := x, region := y, writer := z, control := w } := rfl
  exact ((loads _ _ _ _).still (retires _)).still (deriveFree_outline _ g)

theorem inputs_replayPage (built : Replay) (page : Nat) (records : List Record) :
    s.KeepsInputs (s.replayPage built page records) := by
  rw [State.replayPage]
  split
  · exact .refl s
  · split
    · exact inputs_enterFaulted s _
    · exact (inputs_loadReplay s _ _).trans (inputs_endStage _ _ (inputs_beginOpenSession _))
    · exact inputs_setStage_startupRead s _ _

theorem inputs_readRemaining (remaining : List Nat) (zero : Bool) :
    s.KeepsInputs (s.readRemaining remaining zero) := by
  cases remaining with
  | cons page rest => exact inputs_setStage_startupRead s _ _
  | nil => exact .ite _ ((inputs_setStage s _).still (beginFormat_outline _ _)) (inputs_enterFaulted s _)

theorem inputs_chooseHalf (half0 half1 : HalfScan) : s.KeepsInputs (s.chooseHalf half0 half1) := by
  rw [State.chooseHalf]
  split
  · exact .ite _ (inputs_enterFaulted s _) (.ite _ (inputs_replays s _ _) (inputs_replays s _ _))
  · exact inputs_replays s _ _
  · exact inputs_replays s _ _
  · exact inputs_readRemaining s _ _

theorem inputs_scanned (half0 half1 : HalfScan) (page : Nat) (done : Bool) :
    s.KeepsInputs (s.scanned half0 half1 page done) := by
  have staged := inputs_setStage s (.choose half0 half1)
  exact .ite _ (staged.trans (inputs_chooseHalf _ _ _)) (.ite _ staged (inputs_setStage_startupRead s _ _))

theorem inputs_startupPage (page : Nat) (data : PageData) : s.KeepsInputs (s.startupPage page data) := by
  rw [State.startupPage]
  split
  · exact .ite _ (inputs_scanned s _ _ _ _) (inputs_scanned s _ _ _ _)
  · exact inputs_readRemaining s _ _
  · exact inputs_replayPage s _ _ _
  · exact .refl s

theorem inputs_startupReadFailed : s.KeepsInputs s.startupReadFailed := by
  rw [State.startupReadFailed]
  split
  · exact inputs_enterFaulted s _
  · exact .refl s

theorem inputs_beginStartup (stopAsked : Bool) : s.KeepsInputs (s.beginStartup stopAsked) :=
  (inputs_control s _).still (foldl_outline _ startReset_outline _ _)

theorem inputs_bankMarked : s.KeepsInputs s.bankMarked := by
  rw [State.bankMarked]
  split
  · exact .ite _ (inputs_endStage s _ rfl) (.refl s)
  · exact .ite _ ((inputs_setStage s _).still (beginFormat_outline _ _)) (.refl s)
  · exact .refl s

theorem inputs_takeIdentify (bankCount exponent spares version : Nat) :
    s.KeepsInputs (s.takeIdentify bankCount exponent spares version) := by
  have stopped : s.KeepsInputs { s with control := { s.control with identifyTimer := .stopped } } := rfl
  have known (t : State) (g : Option Geometry) : t.KeepsInputs { t with geometry := g } := rfl
  have chooses (t : State) : t.KeepsInputs t.beginChoice :=
    (inputs_setStage_startupRead t _ _).still (joinRead_outline _ _ _)
  exact .ite _ ((stopped.trans (known _ _)).trans (inputs_endStage _ _ (chooses _)))
    (stopped.trans (inputs_enterFaulted _ _))

theorem inputs_takeReformat : s.KeepsInputs s.takeReformat := by
  rw [State.takeReformat]
  split
  · exact ((inputs_control s _).still (deriveFree_outline _ _)).trans
      (inputs_endStage _ _ (inputs_beginOpenSession _))
  · exact inputs_enterFaulted s _

theorem inputs_takeFormat : s.KeepsInputs s.takeFormat := by
  rw [State.takeFormat]
  split
  · exact inputs_replays s _ _
  · exact inputs_enterFaulted s _
  · exact inputs_takeReformat s
  · exact inputs_enterFaulted s _
  · exact .refl s

/-! ### REFORMAT and the drains -/

theorem inputs_beginReformat : s.KeepsInputs s.beginReformat := by
  let entered : State := { s.emptyForReplay with control := { s.control with
    state := .starting, faultReason := .none, startup := some { stage := .reformatReset, stopAsked := false } } }
  have enters : s.KeepsInputs entered := rfl
  exact enters.still (foldl_outline _ startReset_outline _ _)

theorem inputs_beginDrain (kind : DrainKind) : s.KeepsInputs (s.beginDrain kind) :=
  (((inputs_control s _).still (leaveRunning_outline _)).still (abandonCompaction_outline _)).still
    (arbitrateAll_outline _)

theorem inputs_restartStartup : s.KeepsInputs s.restartStartup := by
  have unloaded := (((inputs_control s { s.control with state := .starting, drain := none }).still
    (endRecords_outline _ .starting)).still (answerLanes_outline _)).still (unloadWriter_outline _)
  exact (unloaded.still (emptyForReplay_outline _)).trans (inputs_beginStartup _ _)

theorem inputs_endDrain (d : Drain) : s.KeepsInputs (s.endDrain d) := by
  rw [State.endDrain]
  cases d.kind with
  | power => exact (inputs_enterDormant s).still (answerHolder_outline _)
  | restart => exact inputs_restartStartup s

theorem inputs_judgeDrain : s.KeepsInputs s.judgeDrain := by
  have judged : s.KeepsInputs s.judgeEnd := .of_outline (judgeEnd_outline s)
  rcases judgeDrain_cases s with ⟨d, ends⟩ | ⟨same, -⟩
  · rw [ends]; exact judged.trans (inputs_endDrain _ d)
  · rwa [same]

/-! ### What every command ends with -/

theorem inputs_settle : s.KeepsInputs s.settle := by
  have alert (t : State) : t.KeepsInputs t.judgeAlert := rfl
  exact (((inputs_judgeDrain s).trans (inputs_takeFormat _)).trans (inputs_takeOpenSession _)).trans (alert _)

variable {s} in
theorem State.KeepsInputs.act {t : State} (h : s.KeepsInputs t) (occasion : Bool) :
    s.KeepsInputs (s.act occasion t) :=
  .ite _ (h.trans (inputs_settle t)) (.refl s)

/-! ### Completions of the array -/

theorem inputs_jobComplete (job : ReadJob) (data : PageData) : s.KeepsInputs (s.jobComplete job data) := by
  rw [State.jobComplete]
  split
  · exact .of_outline (fillComplete_outline s _ _)
  · exact .of_outline (readComplete_outline s _ _)
  · exact inputs_startupPage s _ _

theorem inputs_jobFailed (job : ReadJob) (timeout : Bool) : s.KeepsInputs (s.jobFailed job timeout) := by
  rw [State.jobFailed]
  split
  · exact .of_outline (fillFailed_outline s _)
  · exact .of_outline (readFailed_outline s _ _)
  · exact inputs_startupReadFailed s

theorem inputs_takeRead? (b : BankId) (outcome : ReadOutcome) : s.KeepsInputs (s.takeRead? b outcome) := by
  have cleared : s.KeepsInputs (s.clearRead b) := inputs_setBank s b _
  rw [State.takeRead?]
  split
  · exact .refl s
  · split
    · exact (cleared.trans (inputs_jobComplete _ _ _)).still (afterRead_outline _ b)
    · exact .ite _ ((cleared.trans (inputs_jobFailed _ _ _)).still (afterRead_outline _ b))
        ((inputs_setBank s b _).still (afterRead_outline _ b))

theorem inputs_takeReadDone (bank tag : Nat) (outcome : ReadOutcome) :
    s.KeepsInputs (s.takeReadDone bank tag outcome) := by
  rw [State.takeReadDone]
  split
  · exact (inputs_setBank s _ _).trans (inputs_takeRead? _ _ _)
  · exact .refl s

theorem inputs_takeProgramDone (bank tag : Nat) (outcome : ProgramOutcome) :
    s.KeepsInputs (s.takeProgramDone bank tag outcome) := by
  rw [State.takeProgramDone]
  split
  · exact .refl s
  · next b _ =>
    have taken : s.KeepsInputs ((s.untilTaken b (.programDone tag)).stopProgramTimer b) :=
      (inputs_setBank s b _).still (stopProgramTimer_outline _ b)
    split
    · exact (taken.still (dataOutcome_outline _ b _ outcome)).still (endProgram_outline _ b)
    · exact ((taken.trans (inputs_setBank _ b _)).trans (inputs_metadataOutcome _ _)).still (endProgram_outline _ b)
    · exact taken

theorem inputs_takeSuspendAck (bank tag : Nat) (answer : SuspendAnswer) :
    s.KeepsInputs (s.takeSuspendAck bank tag answer) := by
  rw [State.takeSuspendAck]
  split
  · exact .refl s
  · next b _ =>
    have taken : s.KeepsInputs (s.untilTaken b (.suspendAck tag)) := inputs_setBank s b _
    split
    · exact taken.still (serveSuspended_outline _ b)
    · exact taken
    · exact taken.still (endProgram_outline _ b)

theorem inputs_interruptedProgram (b : BankId) : s.KeepsInputs (s.interruptedProgram b) := by
  rw [State.interruptedProgram]
  split
  · exact .of_outline (judgeAttempt_outline s b _)
  · exact .of_outline (judgeAttempt_outline s b _)
  · exact .refl s
  · exact .refl s
  · exact (inputs_setBank s b _).trans (inputs_metadataOutcome _ _)
  · exact .refl s

theorem inputs_interruptedRead (b : BankId) : s.KeepsInputs (s.interruptedRead b) := by
  rw [State.interruptedRead]
  split
  · exact (inputs_setBank s b _).trans (inputs_jobFailed _ _ _)
  · exact .refl s

theorem inputs_leaveReset (b : BankId) : s.KeepsInputs (s.leaveReset b) := by
  have settled := ((inputs_interruptedProgram s b).still (judgeEnd_outline _)).trans (inputs_interruptedRead _ b)
  exact .ite _ (settled.still (leaveProgram_outline _ b)) settled

theorem inputs_takeResetDone (bank : Nat) : s.KeepsInputs (s.takeResetDone bank) := by
  rw [State.takeResetDone]
  split
  · exact .refl s
  · exact .ite _ ((inputs_setBank s _ _).trans (inputs_bankMarked _))
      ((inputs_setBank s _ _).trans (inputs_leaveReset _ _))

/-! ### Timers and packets sent -/

theorem inputs_atExpiry (t : Timer) : s.KeepsInputs (s.atExpiry t) := rfl

theorem inputs_failCarried (bank : Bank) : s.KeepsInputs (s.failCarried bank) := by
  have failed : s.KeepsInputs (if bank.carriesRead then s.startupReadFailed else s) :=
    .ite _ (inputs_startupReadFailed s) (.refl s)
  rw [State.failCarried]
  split
  · exact failed.trans (inputs_metadataOutcome _ _)
  · exact failed
  · exact failed

theorem inputs_resetExpired (b : BankId) : s.KeepsInputs (s.resetExpired b) :=
  .ite _ (.ite _ ((inputs_setBank s b _).trans (inputs_bankMarked _))
    ((inputs_setBank s b _).trans (inputs_failCarried _ _))) (inputs_enterFaulted s _)

theorem inputs_sendFront : s.KeepsInputs s.sendFront := by
  rw [State.sendFront]
  split
  · rfl
  · exact .refl s

/-! ### Directives -/

/-- RESTART and REFORMAT reach Bridge Control, every other directive the blocks alone. -/
theorem inputs_body (which : Directive) (d : DirRequest) : s.KeepsInputs (which.body d s) := by
  have answered : s.KeepsInputs (s.answerDirective d.tag .started []) := .of_outline (answerDirective_outline s _ _ _)
  by_cases restart : which = .restart
  · subst restart
    show s.KeepsInputs ((s.answerDirective d.tag .started []).beginDrain .restart)
    exact answered.trans (inputs_beginDrain _ _)
  · by_cases reformat : which = .reformat
    · subst reformat
      show s.KeepsInputs (s.answerDirective d.tag .started []).beginReformat
      exact answered.trans (inputs_beginReformat _)
    · exact .of_outline (body_outline s which d ⟨restart, reformat⟩)

theorem inputs_examineTag (lane : Lane) (tag : Nat) (proceed : State → State)
    (h : ∀ t : State, t.KeepsInputs (proceed t)) : s.KeepsInputs (s.examineTag lane tag proceed) := by
  unfold State.examineTag
  split
  · exact .of_outline ((raise_outline _ _).trans (latch_outline _ _))
  · exact State.KeepsInputs.trans rfl (h _)

theorem inputs_judgeDirective (which : Directive) (d : DirRequest) :
    s.KeepsInputs (s.judgeDirective which d which.body) := by
  have staged : s.KeepsInputs (if which.exempt then s else s.discardStaging) :=
    .ite _ (.refl s) (.of_outline (discardStaging_outline s))
  exact .ite _ (staged.still (answerDirective_outline _ _ _ _))
    (.ite _ (staged.still (answerDirective_outline _ _ _ _)) (staged.trans (inputs_body _ which d)))

/-! ### Commands -/

variable {s} {t : State}

theorem inputs_directiveCommand (c : Instr) (hc : c.directive?.isSome = true) (e : exec c s = .next t) :
    s.KeepsInputs t := by
  obtain ⟨which, named⟩ := Option.isSome_iff_exists.mp hc
  rw [exec_of_directive c which named, execDirective] at e
  split at e
  · next d _ =>
    have popped : s.KeepsInputs s.popDirective := .of_outline (popDirective_outline s)
    have taken := popped.trans (inputs_examineTag _ .directive d.tag _ fun u => inputs_judgeDirective u which d)
    exact (taken.act true).of_next e
  · exact (State.KeepsInputs.refl s).of_next e

/-- Every command but those of the two lines. -/
theorem inputs_exec (c : Instr) (hc : c.drivesLine = false) (e : exec c s = .next t) : s.KeepsInputs t := by
  have same {u : State} (occasion : Bool) (outline : u.outline = s.outline) : s.KeepsInputs (s.act occasion u) :=
    (State.KeepsInputs.of_outline outline).act occasion
  have stays := State.KeepsInputs.refl s
  cases c with
  | hostRequestArrival packet => exact (same _ (arrive_outline s packet)).of_next e
  | readTake =>
    rw [exec, execReadTake] at e
    split at e
    · exact (same _ (takeRead_outline s _)).of_next e
    · exact stays.of_next e
  | writeTake =>
    rw [exec, execWriteTake] at e
    split at e
    · exact (same _ (takeWrite_outline s _)).of_next e
    · exact stays.of_next e
  | stalledWriteAbsorb =>
    rw [exec, execStalledWriteAbsorb] at e
    split at e
    · exact (same _ (judgeWaiting_outline s _)).of_next e
    · exact stays.of_next e
  | closeTimerExpiry slot => exact (((inputs_atExpiry s _).still (closeSlot_outline _ slot)).act _).of_next e
  | readDone bank tag outcome => exact ((inputs_takeReadDone s bank tag outcome).act _).of_next e
  | readTimerExpiry bank =>
    exact (((((inputs_atExpiry s _).still (timeOutRead_outline _ bank)).still (failAttempt_outline _ bank _)).still
      (sendReset_outline _ bank)).act _).of_next e
  | programDone bank tag outcome => exact ((inputs_takeProgramDone s bank tag outcome).act _).of_next e
  | programTimerExpiry bank =>
    exact ((((inputs_atExpiry s _).still (failAttempt_outline _ bank _)).still
      (sendReset_outline _ bank)).act _).of_next e
  | suspendAck bank tag answer => exact ((inputs_takeSuspendAck s bank tag answer).act _).of_next e
  | resetDone bank => exact ((inputs_takeResetDone s bank).act _).of_next e
  | resetTimerExpiry bank => exact (((inputs_atExpiry s _).trans (inputs_resetExpired _ bank)).act _).of_next e
  | metadataRequestJoin who =>
    rw [exec, execMetadataRequestJoin] at e
    split at e
    · refine (same _ ?_).of_next e
      cases who with
      | remapUnit => exact (kick_outline _).trans (handHeld_outline s _)
      | regionUnit => exact (kick_outline _).trans (joinRequest_outline _ _)
    · exact stays.of_next e
  | identifyDone bankCount exponent spares version =>
    exact ((inputs_takeIdentify s bankCount exponent spares version).act _).of_next e
  | identifyTimerExpiry => exact (((inputs_atExpiry s _).trans (inputs_enterFaulted _ _)).act _).of_next e
  | resetNAssert => cases hc
  | resetNRelease => cases hc
  | powerWarnAssert => cases hc
  | powerWarnDeassert => cases hc
  | unknownDirective =>
    rw [exec, execUnknownDirective] at e
    split at e
    · refine (same _ ?_).of_next e
      exact (examineTag_outline _ _ _ _ fun u => answerUnknown_outline u _).trans (popDirective_outline s)
    · exact stays.of_next e
  | scrubVisit =>
    rw [exec, execScrubVisit] at e
    split at e
    · exact (same _ (visit_outline s _)).of_next e
    · exact stays.of_next e
  | packetSend => exact ((inputs_sendFront s).act _).of_next e
  | _ => exact inputs_directiveCommand _ rfl e

/-! ### The lines (R164, R168, R181) -/

theorem State.KeepsInputs.pending (h : s.KeepsInputs t) : t.pending = s.pending :=
  ((s.keepsInputs_iff t).mp h).1

/-- POWER_WARN that is taken asks a start-up to stop, begins a drain or converts one, and leaves the lines alone. -/
theorem inputs_powerWarn (s : State) : s.KeepsInputs s.powerWarn := by
  rw [State.powerWarn]
  split
  · exact inputs_control s _
  · exact inputs_beginDrain s _
  · exact inputs_beginDrain s _
  · split
    · exact inputs_control s _
    · exact .refl s
  · exact .refl s
  · exact .refl s
  · exact .refl s

theorem release_pending (s : State) : s.release.pending = s.pending :=
  (inputs_beginStartup ({ s with pins := { s.pins with resetAsserted := false } } : State).fullGrants
    s.pins.powerWarn).pending

/-- What follows from a level that a command of the lines has moved leaves the queue alone. -/
theorem line_pending (c : Instr) (hc : c.drivesLine = true) (e : exec c s = .next t) : t.pending = s.pending := by
  have next {x : State} (h : x.pending = s.pending) (e : (.next x : Host.Outcome State Fault Refusal) = .next t) :
      t.pending = s.pending := by
    cases e; exact h
  cases c with
  | resetNAssert => exact next (x := s.hardReset) rfl e
  | resetNRelease =>
    refine next ?_ e
    split
    · exact (inputs_settle s.release).pending.trans (release_pending s)
    · rfl
  | powerWarnAssert =>
    rw [exec, execPowerWarnAssert] at e
    split at e
    · exact next rfl e
    · refine next ?_ e
      split
      · rfl
      · exact ((inputs_powerWarn s.warned).trans (inputs_settle _)).pending
  | powerWarnDeassert => exact next (x := { s with pins := { s.pins with powerWarn := false } }) rfl e
  | _ => cases hc

/-! ### Steps -/

theorem step_of_empty (s : State) (h : s.pending = []) : step s = .next s.tick := by simp only [step, h]

end

end Sys2Proof.Machine

namespace Sys2Proof

open Machine

/-- Settles O60: the commands of the lines leave the queue alone, and every other command the levels too. -/
theorem commandsLeaveTheQueueAndTheLines : Obligations.CommandsLeaveTheQueueAndTheLines := by
  intro c s t h
  cases line : c.drivesLine with
  | true => exact ⟨line_pending c line h, fun other => by cases other⟩
  | false =>
    obtain ⟨pending, levels⟩ := (s.keepsInputs_iff t).mp (inputs_exec c line h)
    exact ⟨pending, fun _ => levels⟩

/-- Settles O1: a queue has a front command, or it is empty. -/
theorem stepCarriesOutTheFrontCommand : Obligations.StepCarriesOutTheFrontCommand :=
  ⟨fun _ _ _ => rfl, step_of_empty⟩

end Sys2Proof
end
